-- ==== Sys2Proof/Word.lean ====
section
/-! DEFINITION. The word types of the part: bytes, 32-bit register words and crib clock stamps. -/

namespace Sys2Proof

/-- A byte of the board area or of a link payload. -/
abbrev Byte := BitVec 8

/-- A 32-bit word of the local bus (R170, R174). -/
abbrev Word := BitVec 32

/-- A crib clock value, in milliseconds modulo 2 to the power 32 (R192). -/
abbrev Stamp := BitVec 32

end Sys2Proof
end

