-- ==== Sys2Proof/Config.lean ====
section
/-! DEFINITION. What the part fixes (times and capacities that no order changes) and the one free value. -/

namespace Sys2Proof.Config

/-- Length of a lock confirm window, ms (R23). -/
def lockConfirmMs : Nat := 250

/-- How long after an accepted touch edge an edge on the same input is bounce, ms (R56). -/
def bounceMs : Nat := 50

/-- Tool records the table holds (R1). -/
def maxTools : Nat := 1024

/-- Requests the unlock queue holds (R36). -/
def maxQueued : Nat := 16

/-- Exchanges a cell's queue holds, the one in flight counted (R94). -/
def maxExchanges : Nat := 16

/-- Frames the receive queue holds (R92). -/
def maxRxFrames : Nat := 8

/-- Entries the hold queue holds (R199). -/
def holdCapacity : Nat := 16

/-- Hold queue length that starts the stall (R202). -/
def stallAt : Nat := 12

/-- Entries of the report list (R196). -/
def reportEntries : Nat := 128

/-- Link-idle intervals that end the OFF state (R105). -/
def idleIntervalsToRecover : Nat := 128

/-- Uses after which a reference is stale (R62). -/
def maxUses : Nat := 256

/-- FREE VALUE (log 35): how many link-idle intervals the part counts in one millisecond of the OFF state. The line
is driven by others, so the spec gives no number; the argument numbers the reading. -/
opaque idleIntervals : Nat → Nat

end Sys2Proof.Config
end

