-- ==== Sys2Proof/Syntax.lean ====
section
/-! DEFINITION. The commands of the part: one constructor of Instr per row of spec/opcode_table.json. -/

namespace Sys2Proof

/-- The two axes of the presetter station (R49). -/
inductive Axis
  | z
  | x
  deriving DecidableEq, Repr

/-- A change of a scale's quadrature pair between two samples (R50): one channel changed, with the direction that the
phase order gave, or both channels changed. -/
inductive ScaleMove
  | up
  | down
  | both
  deriving DecidableEq, Repr

/-- The eight registers of the window (R170). -/
inductive Register
  | ctl | sta | bba | pst | don | rpc | cau | cen
  deriving DecidableEq, Repr

/-- What the port reads from an order slot beside its kind: the rest of the header and the parameter bytes from 10h
(R175). A byte beyond the end of `params` stands for 0. -/
structure SlotImage where
  flags     : Byte
  tag       : BitVec 16
  bufOffset : Word
  bufLength : Word
  params    : List Byte
  deriving DecidableEq, Repr

/-- The commands of the part, in the order of the table. `accesses` is the number of board accesses of the series under
way that had ended good when the command came; `seated` the level that SEATED holds for 20 ms after the reset (R55). -/
inductive Instr
  /-- RESET (R195): the RESET pin. -/
  | reset (seated : Bool) (accesses : Nat)
  /-- FULL_RESET (R171): 1 written to CTL.FULL_RESET. -/
  | fullReset (seated : Bool) (accesses : Nat)
  /-- PORT_ENABLE (R171): the value written to CTL.PORT_ENABLE. -/
  | portEnable (on : Bool) (accesses : Nat)
  /-- LINK_RESTART (R106). -/
  | linkRestart
  /-- RESUME (R194). -/
  | resume
  /-- BBA_WRITE (R173). -/
  | bbaWrite (value : Word)
  /-- PST_WRITE (R177, R178). -/
  | pstWrite (value : Word)
  /-- DON_WRITE (R177). -/
  | donWrite (value : Word)
  /-- RPC_WRITE (R203). -/
  | rpcWrite (value : Word)
  /-- CAU_WRITE (R205). -/
  | cauWrite (value : Word)
  /-- CEN_WRITE (R206). -/
  | cenWrite (value : Word)
  /-- IGNORED_REGISTER_WRITE (R170): a write that reaches read-only bits alone. -/
  | ignoredRegisterWrite (reg : Register) (value : Word)
  /-- SLOT_READ (R179): the read of the lowest POSTED slot begins. -/
  | slotRead
  /-- BAD_KIND (R179): the slot read completes with a kind outside R181. -/
  | badKind (kind : Byte) (img : SlotImage)
  /-- SET_CELL (R111). -/
  | setCell (img : SlotImage)
  /-- SET_RIGHT (R123). -/
  | setRight (img : SlotImage)
  /-- SET_DRAWER (R31, R32). -/
  | setDrawer (img : SlotImage)
  /-- SET_LIMITS (R188). -/
  | setLimits (img : SlotImage)
  /-- LOCK_LAYOUT (R30, R189). -/
  | lockLayout (img : SlotImage)
  /-- START_SERVICE (R186). -/
  | startService (img : SlotImage)
  /-- STOP_SERVICE (R187). -/
  | stopService (img : SlotImage)
  /-- ENROL (R10 to R13). -/
  | enrol (img : SlotImage)
  /-- REMOVE (R14 to R16). -/
  | remove (img : SlotImage)
  /-- READ_TOOL (R17). -/
  | readTool (img : SlotImage)
  /-- FIND (R18). -/
  | find (img : SlotImage)
  /-- SET_LIFE (R19). -/
  | setLife (img : SlotImage)
  /-- REGRIND (R20). -/
  | regrind (img : SlotImage)
  /-- HOME (R52, R53). -/
  | home (img : SlotImage)
  /-- CALIBRATE (R64, R65). -/
  | calibrate (img : SlotImage)
  /-- MEASURE (R68 to R80). -/
  | measure (img : SlotImage)
  /-- STOW (R81, R82). -/
  | stow (img : SlotImage)
  /-- ISSUE (R132). -/
  | issue (img : SlotImage)
  /-- RETURN (R159 to R163). -/
  | returnTool (img : SlotImage)
  /-- CANCEL (R184, R185). -/
  | cancel (img : SlotImage)
  /-- SCAN (R190, R191). -/
  | scan (img : SlotImage)
  /-- CLEAR_FAULT (R45, R46). -/
  | clearFault (img : SlotImage)
  /-- RESTORE_CELL (R119). -/
  | restoreCell (img : SlotImage)
  /-- RESULT_WRITE (R180): the port begins a result write. -/
  | resultWrite
  /-- RESULT_WRITTEN (R180): the status word of a result ends good. -/
  | resultWritten
  /-- REPORT_WRITE (R199): the port begins the write of the head of the hold queue. -/
  | reportWrite
  /-- REPORT_WRITE_DONE (R200): the last word of a report entry ends good. -/
  | reportWriteDone
  /-- BOARD_FAULT (R193): an access of the series under way ends with LERR after `accesses` good ones. -/
  | boardFault (accesses : Nat)
  /-- FIRST_SCAN (R48): one word a drawer, bit k set when its pocket k is PRESENT; none where the module does not answer. -/
  | firstScan (modules : Vector (Option Word) 16)
  /-- RELEASED_CONFIRMATION (R39). -/
  | releasedConfirmation (pocket : Fin 512)
  /-- ENGAGED_CONFIRMATION (R41). -/
  | engagedConfirmation (pocket : Fin 512)
  /-- LOCK_CONFIRM_WINDOW_EXPIRES (R24). -/
  | lockConfirmWindowExpires (pocket : Fin 512)
  /-- SENSOR_REMOVAL (R26). -/
  | sensorRemoval (pocket : Fin 512)
  /-- SENSOR_INSERTION (R27). -/
  | sensorInsertion (pocket : Fin 512)
  /-- REQUEST_WINDOW_EXPIRES (R39): the window of the OPEN request on this pocket. -/
  | requestWindowExpires (pocket : Fin 512)
  /-- SCALE_STEP (R50). -/
  | scaleStep (axis : Axis) (move : ScaleMove)
  /-- INDEX_MARK (R51). -/
  | indexMark (axis : Axis)
  /-- SEATED_RISING_EDGE (R59, R74). -/
  | seatedRisingEdge
  /-- SEATED_FALLING_EDGE (R74). -/
  | seatedFallingEdge
  /-- TOUCH_EDGE (R56, R57). -/
  | touchEdge (axis : Axis)
  /-- SEAT_WINDOW_EXPIRES (R59). -/
  | seatWindowExpires
  /-- TOUCH_WINDOW_EXPIRES (R60). -/
  | touchWindowExpires
  /-- HOME_WINDOW_EXPIRES (R53): of the HOME in this slot. -/
  | homeWindowExpires (slot : Fin 32)
  /-- FRAME_RECEIVED (R90): the levels read on the line from the start bit to the end of the check, recessive as true,
  stuffing not yet removed. -/
  | frameReceived (line : List Bool)
  /-- TOOL_REQUEST (R127): handed on from the receive queue. -/
  | toolRequest
  /-- MOUNTED (R141): handed on from the receive queue. -/
  | mounted
  /-- CANCEL_FRAME (R145): a CANCEL frame handed on from the receive queue. -/
  | cancelFrame
  /-- USAGE (R153): handed on from the receive queue. -/
  | usage
  /-- RETURN_NOTICE (R157): handed on from the receive queue. -/
  | returnNotice
  /-- DATA_TAKEN (R98): handed on from the receive queue. -/
  | dataTaken
  /-- DATA_REFUSED (R98): handed on from the receive queue. -/
  | dataRefused
  /-- WITHDRAWN (R98): handed on from the receive queue. -/
  | withdrawn
  /-- PRESENT (R114): handed on from the receive queue. -/
  | present
  /-- TRANSMIT_ATTEMPT (R88): the line is idle. -/
  | transmitAttempt
  /-- LOST_ARBITRATION (R88). -/
  | lostArbitration
  /-- TRANSMIT_FAULT (R89). -/
  | transmitFault
  /-- FRAME_SENT (R89, R97): `ack` when the acknowledgement slot was found dominant. -/
  | frameSent (ack : Bool)
  /-- ANSWER_WINDOW_EXPIRES (R97): of the exchange in flight for the cell at address `cell` + 1. -/
  | answerWindowExpires (cell : Fin 24)
  /-- DEFERRAL_TIMER_EXPIRES (R99): of the deferred offer of this issue. -/
  | deferralTimerExpires (issueId : Nat)
  /-- BROADCAST_TIMER_EXPIRES (R100). -/
  | broadcastTimerExpires
  /-- HOLD_TIMER_EXPIRES (R100). -/
  | holdTimerExpires
  /-- POLL_TIMER_EXPIRES (R101). -/
  | pollTimerExpires
  /-- IDLE_RECOVERY (R105): a link-idle interval of an OFF period, the 128th of which ends the period. -/
  | idleRecovery
  /-- TRANSIT_WINDOW_EXPIRES (R140): of this issue. -/
  | transitWindowExpires (issueId : Nat)
  deriving DecidableEq, Repr

end Sys2Proof
end

