-- ==== Sys2Proof/WellFormed.lean ====
section
/-! DEFINITION. Which commands are well formed: the ranges of the operands that their types do not already hold. -/

namespace Sys2Proof

/-- The header and parameters of a slot: the parameters fill 48 bytes (R176). -/
def SlotImage.wellFormed (img : SlotImage) : Bool := img.params.length ≤ 48

/-- A write that reaches read-only bits alone: STA has no other; PST, DON and RPC take 0 as no change; CAU clears by
bits 3:1 (R170, R177, R203, R205). CTL, BBA and CEN store bits as written, so no write of them is ignored whole. -/
def Register.ignoresWrite (reg : Register) (value : Word) : Bool :=
  match reg with
  | .sta => true
  | .pst | .don => value == 0
  | .rpc => value &&& 0xFFFF#32 == 0
  | .cau => value &&& 0xE#32 == 0
  | .ctl | .bba | .cen => false

/-- An issue id names an issue record and a generation: 0..254 (R124). -/
def wellFormedIssueId (id : Nat) : Bool := id ≤ 254

/-- A slot read is at most 16 accesses, a report write 8, a result write 16 with at most 14337 for a buffer of 57344 bytes
(R174, R175, R183, R197). -/
def wellFormedAccesses (n : Nat) : Bool := n ≤ 14353

/-- The operands of a command lie in the ranges the spec gives them. -/
def Instr.wellFormed : Instr → Bool
  | .reset _ n | .fullReset _ n | .portEnable _ n | .boardFault n => wellFormedAccesses n
  | .badKind kind img => (kind == 0 || 0x17#8 < kind) && img.wellFormed
  | .setCell img | .setRight img | .setDrawer img | .setLimits img | .lockLayout img | .startService img
  | .stopService img | .enrol img | .remove img | .readTool img | .find img | .setLife img | .regrind img | .home img
  | .calibrate img | .measure img | .stow img | .issue img | .returnTool img | .cancel img | .scan img
  | .clearFault img | .restoreCell img => img.wellFormed
  | .ignoredRegisterWrite reg value => reg.ignoresWrite value
  | .deferralTimerExpires id | .transitWindowExpires id => wellFormedIssueId id
  | .linkRestart | .resume | .bbaWrite _ | .pstWrite _ | .donWrite _ | .rpcWrite _ | .cauWrite _ | .cenWrite _
  | .slotRead | .resultWrite | .resultWritten | .reportWrite | .reportWriteDone | .firstScan _
  | .releasedConfirmation _ | .engagedConfirmation _ | .lockConfirmWindowExpires _ | .sensorRemoval _
  | .sensorInsertion _ | .requestWindowExpires _ | .scaleStep _ _ | .indexMark _ | .seatedRisingEdge
  | .seatedFallingEdge | .touchEdge _ | .seatWindowExpires | .touchWindowExpires | .homeWindowExpires _
  | .frameReceived _ | .toolRequest | .mounted | .cancelFrame | .usage | .returnNotice | .dataTaken | .dataRefused
  | .withdrawn | .present | .transmitAttempt | .lostArbitration | .transmitFault | .frameSent _
  | .answerWindowExpires _ | .broadcastTimerExpires | .holdTimerExpires | .pollTimerExpires | .idleRecovery => true

end Sys2Proof
end

