-- ==== Sys2Proof/Decode.lean ====
section
/-! DEFINITION. The command that a word of opcode-table bits spells. No row of spec/opcode_table.json gives bits (every row's
"fields" is empty and it has no "fixed"), so no word spells a command. -/

namespace Sys2Proof

/-- The table gives no row any bits: every word is rejected. -/
def decodeTableWord (_nbits _w : Nat) : Option Instr := none

end Sys2Proof
end

