-- ==== Sys2Proof/Machine/State.lean ====
section
/-! DEFINITION. The state of the part, block by block (00_scope.md, Block Overview), as plain data, and its reset value. -/

namespace Sys2Proof.Machine

/-! ## Numbers that name things -/

/-- Pockets 0..511 (R21). -/
abbrev PocketNo := Fin 512
/-- Order slots 0..31 (R175). -/
abbrev SlotNo := Fin 32
/-- The cell at address `c` + 1, addresses 1..24 (R84). -/
abbrev CellNo := Fin 24
/-- Index of an issue record, 0..31 (R124). -/
abbrev IssueNo := Fin 32

/-- The link address of a cell (R84). -/
def addr (c : CellNo) : Nat := c.val + 1

/-! ## Shared names -/

/-- The service state (R186). -/
inductive ServiceState
  | setup | service
  deriving DecidableEq, Repr

/-- Status codes, close results and cycle faults: one table (R182). -/
inductive Status
  | ok | badKind | badParam | badBuffer | wrongState | layoutLocked | busy | noOrder | notCancellable | cancelled
  | unknownTool | toolExists | tableFull | pocketTaken | notReady | spent
  | notStocked | noRoom | drawerDenies | cribBusy | pickupTimeout | insertTimeout | lockJam | drawerClosed
  | mapMismatch | faultPresent
  | noReference | referenceStale | noMaster | axisNotHomed | stationBusy | stationOccupied | homeTimeout
  | seatTimeout | seatLost | touchTimeout | spread | overtravel | axisLost | aborted
  | badSlot | cellDisabled | cellWeak | cellCutOff | issueListFull | cellLimit | slotPending | slotOccupied | noneReady
  | noIssue | tooLate | mounted | refused | noAnswer | astray | linkRestart
  deriving DecidableEq, Repr

/-- Reasons of DENY (R87). -/
inductive Reason
  | notInService | cellDisabled | cellWeak | cellCutOff | noRight | badSlot | issueListFull | cellLimit | slotPending
  | slotOccupied | unknownTool | notReady | busy | notStocked | noneReady | notMounted | noIssue | tooLate
  | notCancellable
  deriving DecidableEq, Repr

/-- The 23 kinds of order (R181). -/
inductive OrderKind
  | setCell | setRight | setDrawer | setLimits | lockLayout | startService | stopService | enrol | remove | readTool
  | find | setLife | regrind | home | calibrate | measure | stow | issue | returnTool | cancel | scan | clearFault
  | restoreCell
  deriving DecidableEq, Repr

/-! ## Tool Table -/

/-- The nine states of a tool record (R5). -/
inductive ToolState
  | unmeasured | passed | ready | claimed | out | returning | astray | quarantine | worn
  deriving DecidableEq, Repr

/-- Where a tool is (R6). -/
inductive Location
  | pocket (p : PocketNo)
  | cell (c : CellNo) (slot : Nat)
  | presetter
  | loose
  deriving DecidableEq, Repr

/-- What life used counts (R1). -/
inductive LifeUnit
  | minutes | cuts
  deriving DecidableEq, Repr

/-- Owner of a claim (R8) or of an unlock request (R35): an issue by its id, or the context of an order slot. -/
inductive Owner
  | issue (id : Nat)
  | slot (n : SlotNo)
  deriving DecidableEq, Repr

/-- Measured sizes with their stamp and reference generation (R3). -/
structure Geometry where
  length     : Int
  radius     : Int
  stamp      : Stamp
  generation : Nat
  deriving DecidableEq, Repr

/-- A tool record (fields under R1). -/
structure Tool where
  number        : Nat
  cls           : Nat
  state         : ToolState
  stateBefore   : Option ToolState
  claim         : Option Owner
  location      : Location
  last          : Option (CellNo × Nat)
  home          : Option PocketNo
  nominalLength : Nat
  nominalRadius : Nat
  lengthTol     : Nat
  radiusTol     : Nat
  geometry      : Option Geometry
  outOfTol      : Bool
  lifeUnit      : LifeUnit
  lifeLimit     : Nat
  lifeUsed      : Nat
  warnPercent   : Nat
  warningSent   : Bool
  lifeEnded     : Bool
  regrinds      : Nat
  regrindMax    : Nat
  issueCount    : Nat
  deriving DecidableEq, Repr

/-! ## Crib Controller -/

/-- Presence sensor of a pocket (R21). -/
inductive Sensor
  | present | absent
  deriving DecidableEq, Repr

/-- Lock of a pocket (R21, R24). -/
inductive Lock
  | locked | opening | opened | closing | jammed
  deriving DecidableEq, Repr

/-- Fault of a pocket (R21). -/
inductive PocketFault
  | clear | forced | unknownItem | lockJam
  deriving DecidableEq, Repr

/-- A pocket record (R21); `confirm` is the lock confirm window's time left, while it runs (R23). -/
structure Pocket where
  content : Option Nat
  sensor  : Sensor
  lock    : Lock
  claim   : Option Nat
  fault   : PocketFault
  stamp   : Stamp
  confirm : Option Nat
  deriving DecidableEq, Repr

/-- Drawer attributes (R29). -/
inductive Attribute
  | openAll | issueOnly | returnOnly | closed
  deriving DecidableEq, Repr

/-- Movements (R29, R35). -/
inductive Movement
  | issuePick | store | returnPut | fetch | removeOut | clearOut
  deriving DecidableEq, Repr

/-- States of an unlock request (R35). -/
inductive RequestState
  | queued | opening | opened | closing | ended
  deriving DecidableEq, Repr

/-- Outcomes of an unlock request (R35). -/
inductive MoveOutcome
  | sensed | windowExpired | lockJam | cancelled | drawerClosed
  deriving DecidableEq, Repr

/-- An unlock request (R35); `window` is the time left of its pickup or insert window, while it runs. -/
structure Request where
  number   : Nat
  movement : Movement
  pocket   : PocketNo
  tool     : Option Nat
  owner    : Owner
  state    : RequestState
  window   : Option Nat
  outcome  : Option MoveOutcome
  deriving DecidableEq, Repr

/-- The Crib Controller. `requests` holds the requests not ENDED in the order they were made, so the QUEUED ones among
them are the unlock queue, oldest first (R36). `early` holds sensor reports taken before the first scan, latest first (R48). -/
structure Crib where
  pockets      : Vector Pocket 512
  drawers      : Vector Attribute 16
  layoutLock   : Bool
  requests     : List Request
  nextNumber   : Nat
  lockBudget   : Nat
  pickupWindow : Nat
  insertWindow : Nat
  scanDone     : Bool
  early        : List (PocketNo × Sensor)
  deriving DecidableEq, Repr

/-! ## Presetter Unit -/

/-- States of an axis (R49). -/
inductive AxisState
  | unhomed | homing | homed | lost
  deriving DecidableEq, Repr

/-- An axis record (R49) with its capture list (R57); `bounce` is the time left of the 50 ms that follow the last accepted
touch edge (R56), none when there is no bar. -/
structure AxisRec where
  state     : AxisState
  counter   : BitVec 20
  softLimit : Nat
  captures  : List Nat
  bounce    : Option Nat
  deriving DecidableEq, Repr

/-- The reference record (R62). -/
structure Reference where
  refZ       : Int
  refX       : Int
  generation : Nat
  uses       : Nat
  stamp      : Stamp
  deriving DecidableEq, Repr

/-- States of the measure cycle other than IDLE (R58). EVALUATE is passed through inside one step (R61). -/
inductive CycleState
  | seat | touch | evaluate
  deriving DecidableEq, Repr

/-- The measure cycle while it is not IDLE (R58), with the copies of its parameters. -/
structure Cycle where
  state       : CycleState
  owner       : SlotNo
  seatTimer   : Option Nat
  touchTimer  : Option Nat
  seatLength  : Nat
  touchLength : Nat
  touches     : Nat
  spreadLimit : Nat
  deriving DecidableEq, Repr

/-- State and counter of both axes, as results and outcomes carry them (R49). -/
structure AxesView where
  zState   : AxisState
  zCounter : Nat
  xState   : AxisState
  xCounter : Nat
  deriving DecidableEq, Repr

/-- Means and spreads of a cycle (R61). -/
structure Means where
  zMean   : Nat
  xMean   : Nat
  zSpread : Nat
  xSpread : Nat
  deriving DecidableEq, Repr

/-- The cycle outcome (03, The cycle outcome): `fault` none stands for COMPLETE. -/
structure CycleOutcome where
  fault     : Option Status
  zCaptures : List Nat
  xCaptures : List Nat
  means     : Option Means
  axes      : AxesView
  deriving DecidableEq, Repr

/-- The Presetter Unit: axes, reference, cycle (none is IDLE) and parameters (R66). -/
structure Presetter where
  z            : AxisRec
  x            : AxisRec
  reference    : Option Reference
  generation   : Nat
  cycle        : Option Cycle
  seated       : Bool
  spreadLimit  : Nat
  touches      : Nat
  seatWindow   : Nat
  touchWindow  : Nat
  homeWindow   : Nat
  masterLength : Nat
  masterRadius : Nat
  deriving DecidableEq, Repr

/-! ## Issue Manager -/

/-- Phases of an open issue (R125). -/
inductive IssuePhase
  | offerWait | unlockWait | pickup | transit | withdrawing
  deriving DecidableEq, Repr

/-- Offer outcome of an issue (R124). -/
inductive OfferOutcome
  | notTaken | taken | unknown
  deriving DecidableEq, Repr

/-- Withdraw status of an issue (R124) or of a RETURN (R160). -/
inductive WithdrawStatus
  | notSent | confirmed | unconfirmed | pending
  deriving DecidableEq, Repr

/-- Origin of an issue: the slot of its ISSUE order, or the request reference of its cell (R124). -/
inductive Origin
  | order (n : SlotNo)
  | cell (reference : Nat)
  deriving DecidableEq, Repr

/-- An open issue (R124); `byClass` holds the class of a request by class, `transit` the time left of the transit window. -/
structure Issue where
  tool          : Nat
  cell          : CellNo
  slot          : Nat
  origin        : Origin
  byClass       : Option Nat
  phase         : IssuePhase
  offer         : OfferOutcome
  cancelPending : Bool
  failure       : Option Status
  pocket        : PocketNo
  request       : Option Nat
  tries         : Nat
  deferrals     : Nat
  losses        : Nat
  withdraw      : WithdrawStatus
  opened        : Option Stamp
  unlocked      : Option Stamp
  removed       : Option Stamp
  closed        : Option Stamp
  transit       : Option Nat
  deriving DecidableEq, Repr

/-- An issue record: free (no issue) or open, with its generation (R124). -/
structure IssueRecord where
  generation : Fin 8
  issue      : Option Issue
  deriving DecidableEq, Repr

/-- The Issue Manager (R124, R126). -/
structure IssueManager where
  records       : Vector IssueRecord 32
  transitWindow : Nat
  deriving DecidableEq, Repr

/-! ## Cell Link Controller -/

/-- The link state (R103). -/
inductive LinkState
  | active | off
  deriving DecidableEq, Repr

/-- Reference kind of a DENY (R86). -/
inductive RefKind
  | requestRef | tool | issueId
  deriving DecidableEq, Repr

/-- Kind and fields of an exchange (R86, R93). -/
inductive Payload
  | dataOffer (issue tool slot : Nat) (length radius : Int) (remaining : Nat) (unit : LifeUnit)
  | withdraw (issue tool slot : Nat)
  | lifeEnd (tool : Nat)
  | deny (ref : RefKind) (value : Nat) (reason : Reason)
  | poll
  deriving DecidableEq, Repr

/-- Owner of an exchange (R93). -/
inductive ExchangeOwner
  | issue (id : Nat)
  | slot (n : SlotNo)
  | issueManager
  | lifeHandler
  | link
  deriving DecidableEq, Repr

/-- Step of an exchange (R93). -/
inductive ExchangeStep
  | queued | deferred | inFlight
  deriving DecidableEq, Repr

/-- An exchange (R93). `deferralTimer` and `window` (the answer window) hold the time left while they run. An exchange in
flight whose answer window does not run has a ready buffer (R97). `resumes` from the fall of the link to OFF, which took it
from flight, to its next grant, which counts no try anew (R104, R105, log 23). -/
structure Exchange where
  payload       : Payload
  owner         : ExchangeOwner
  triesAllowed  : Nat
  triesUsed     : Nat
  acknowledged  : Bool
  deferrals     : Nat
  deferralTimer : Option Nat
  stamp         : Stamp
  buffer        : Option Nat
  window        : Option Nat
  step          : ExchangeStep
  resumes       : Bool
  deriving DecidableEq, Repr

/-- Standing of a cell (R110). -/
inductive Standing
  | good | weak | cutOff
  deriving DecidableEq, Repr

/-- A cell record (R110) with its exchange queue, in queue order (R94). -/
structure Cell where
  enabled    : Bool
  magSize    : Nat
  issueLimit : Nat
  standing   : Standing
  faultCount : Nat
  answers    : Nat
  queue      : List Exchange
  lastGrant  : Stamp
  deriving DecidableEq, Repr

/-- The three permissions (R121). -/
structure Perms where
  byNumber   : Bool
  byClass    : Bool
  returnTool : Bool
  deriving DecidableEq, Repr

/-- A rights entry (R121). -/
structure Right where
  enabled : Bool
  cells   : BitVec 24
  value   : Byte
  mask    : Byte
  perms   : Perms
  deriving DecidableEq, Repr

/-- A link frame: header fields and payload (R85). -/
structure LinkFrame where
  cls     : Nat
  source  : Nat
  dest    : Nat
  kind    : Nat
  payload : List Byte
  deriving DecidableEq, Repr

/-- A frame in the receive queue, with its arrival stamp (R90, R92). -/
structure RxFrame where
  source  : CellNo
  kind    : Nat
  payload : List Byte
  stamp   : Stamp
  deriving DecidableEq, Repr

/-- A CRIB_STATE in buffer 0 (R100). -/
structure CribState where
  service : ServiceState
  hold    : Nat
  deriving DecidableEq, Repr

/-- The attempt under way (R88, R89): its buffer and frame, the exchange's cell and owner (none for a broadcast), and whether
that exchange still holds the buffer. -/
structure Attempt where
  buffer   : Nat
  frame    : LinkFrame
  exchange : Option (CellNo × ExchangeOwner)
  attached : Bool
  deriving DecidableEq, Repr

/-- The Cell Link Controller. `slotDriven` while the part drives the acknowledgement slot of a received frame that it
acknowledges (R84, log 44). `buffer0` is the CRIB_STATE of buffer 0 not yet sent, `next0` the one placed while `buffer0` is
on the line (R89, R100). Buffers 1..7 are held by the exchanges in flight (R96). -/
structure Link where
  state             : LinkState
  errors            : Nat
  idle              : Nat
  cells             : Vector Cell 24
  rights            : Vector Right 16
  rx                : List RxFrame
  buffer0           : Option CribState
  next0             : Option CribState
  attempt           : Option Attempt
  slotDriven        : Bool
  broadcastTimer    : Option Nat
  holdTimer         : Option Nat
  pollTimer         : Option Nat
  pollPointer       : CellNo
  answerWindow      : Nat
  retryLimit        : Nat
  deferralDelay     : Nat
  broadcastInterval : Nat
  pollInterval      : Nat
  holdTime          : Nat
  deriving DecidableEq, Repr

/-! ## Report Writer -/

/-- Kinds of report (R198). -/
inductive ReportKind
  | requestDenied | issueClosed | lateMount | mountRejected | returnNoted | usageRejected | lifeWarning | lifeEnd
  | lifeEndUndelivered | pocketFault | cellStanding | linkState | referenceLost | merged
  deriving DecidableEq, Repr

/-- Detail of a report entry: the bytes of its kind, or the kind set and last stamp of a MERGED entry (R198, R201). -/
inductive Detail
  | plain (bytes : List Byte)
  | merged (kinds : BitVec 16) (last : Stamp)
  deriving DecidableEq, Repr

/-- An entry of the hold queue (R197, R199); the sequence is added at the write. `cell` 0, `issue` 0FFh and `tool` 0 stand
for none. -/
structure Report where
  kind   : ReportKind
  held   : Bool
  bit1   : Bool
  bit2   : Bool
  bit3   : Bool
  cell   : Nat
  issue  : Nat
  stamp  : Stamp
  tool   : Nat
  code   : Nat
  count  : Nat
  detail : Detail
  deriving DecidableEq, Repr

/-- The Report Writer (R196, R199, R202). -/
structure ReportWriter where
  written  : BitVec 16
  released : BitVec 16
  hold     : List Report
  stalled  : Bool
  deriving DecidableEq, Repr

/-! ## Order Port and Order Engine -/

/-- The axes that a HOME names (R52). -/
structure AxisSet where
  z : Bool
  x : Bool
  deriving DecidableEq, Repr

/-- Measure phases (R68). -/
inductive MeasurePhase
  | fetching | seating | touching | storing
  deriving DecidableEq, Repr

/-- Store reasons (R68). -/
inductive StoreReason
  | noRoom | cribBusy | windowExpired | lockJam | drawerClosed | cancelled
  deriving DecidableEq, Repr

/-- Store result with its reason (R68). -/
inductive StoreResult
  | nothing
  | stored
  | notStored (reason : StoreReason)
  deriving DecidableEq, Repr

/-- What the evaluation of a MEASURE found (R76, R77, R80). -/
structure Evaluation where
  length     : Int
  radius     : Int
  inTol      : Bool
  lifeUsed   : Nat
  lifeLimit  : Nat
  verdict    : ToolState
  generation : Nat
  refStamp   : Stamp
  uses       : Nat
  deriving DecidableEq, Repr

/-- The measure context (R68). `fetch` and `store` are the outstanding request numbers; `fetchMade`, `storeMovement` and
`storeMade` keep for the result what was asked for (R80). -/
structure MeasureCtx where
  tool          : Nat
  start         : Location
  phase         : MeasurePhase
  fetch         : Option Nat
  fetchMade     : Option Nat
  fetchOutcome  : Option MoveOutcome
  opened        : Bool
  pendingStatus : Option Status
  outcome       : Option CycleOutcome
  evaluation    : Option Evaluation
  store         : Option Nat
  storeMovement : Option Movement
  storeMade     : Option (Nat × PocketNo)
  storeResult   : StoreResult
  deriving DecidableEq, Repr

/-- The context of a STOW (R81, R82). -/
structure StowCtx where
  tool     : Nat
  movement : Movement
  request  : Nat
  pocket   : PocketNo
  deriving DecidableEq, Repr

/-- The record as a RETURN released it (R161, R162). -/
structure Released where
  lifeUsed    : Nat
  warningSent : Bool
  lifeEnded   : Bool
  state       : ToolState
  location    : Location
  deriving DecidableEq, Repr

/-- The context of a RETURN (R159 to R163). -/
structure ReturnCtx where
  tool         : Nat
  stateBefore  : ToolState
  request      : Nat
  pocket       : PocketNo
  opened       : Bool
  outcome      : Option MoveOutcome
  withdrawTo   : Option (CellNo × Nat)
  withdraw     : WithdrawStatus
  tries        : Nat
  acknowledged : Bool
  released     : Option Released
  deriving DecidableEq, Repr

/-- The work of a long order (R180); `idle` for a short order and once the result is formed. -/
inductive Work
  | idle
  | home (axes : AxisSet) (formerZ formerX : AxisState) (window : Nat)
  | calibrate (masterLength masterRadius : Nat)
  | measure (m : MeasureCtx)
  | stow (w : StowCtx)
  | issue (id : Nat)
  | returning (r : ReturnCtx)
  | remove (tool request : Nat)
  | clearRelock (pocket : PocketNo)
  | clearOut (pocket : PocketNo) (request : Nat)
  deriving DecidableEq, Repr

/-- The formed output of an order (R175, R180, R183): status, completion stamp, result bytes and buffer bytes. -/
structure Output where
  status : Status
  stamp  : Stamp
  result : List Byte
  buffer : List Byte
  deriving DecidableEq, Repr

/-- An order context (R180): the kind code and header fields read at taking, whether it is a long order, its work and
its formed output. -/
structure Context where
  kind      : Nat
  tag       : BitVec 16
  bufOffset : Word
  bufLength : Word
  long      : Bool
  work      : Work
  output    : Option Output
  deriving DecidableEq, Repr

/-- States of an order slot (R177). -/
inductive SlotState
  | free | posted | taken | done
  deriving DecidableEq, Repr

/-- An order slot with its context (R177, R180). -/
structure Slot where
  state   : SlotState
  context : Option Context
  deriving DecidableEq, Repr

/-- A series of board accesses under way (R174). -/
inductive Series
  | slotRead (n : SlotNo)
  | resultWrite (n : SlotNo)
  | reportWrite
  deriving DecidableEq, Repr

/-- The Order Port and the Order Engine. `writeOrder` lists the slots whose formed results wait for the port, first formed
first; `formedNow` those formed in the present step, empty between steps (R174). -/
structure OrderBlock where
  portEnable   : Bool
  halted       : Bool
  boardFault   : Bool
  releaseError : Bool
  conflict     : Option SlotNo
  bba          : Word
  cauReport    : Bool
  cauStall     : Bool
  cauFault     : Bool
  cen          : BitVec 4
  series       : Option Series
  slots        : Vector Slot 32
  writeOrder   : List SlotNo
  formedNow    : List SlotNo
  service      : ServiceState
  clock        : Stamp
  deriving DecidableEq, Repr

/-! ## The whole part -/

/-- The state of the part. `board` lists the bytes the part has written into the board area, by absolute address, addresses
rising; `freeCount` numbers the readings of free values. -/
structure State where
  pending   : List Instr
  order     : OrderBlock
  tools     : List Tool
  crib      : Crib
  presetter : Presetter
  issues    : IssueManager
  link      : Link
  reports   : ReportWriter
  board     : List Host.Cell
  freeCount : Nat
  deriving DecidableEq, Repr

/-- No command faults: the part reports every failure in its own registers, results and reports (R193, R194), so no
meaning raises a fault. Safe: nothing stops. -/
inductive Fault
  deriving DecidableEq, Repr

/-- Why a command is refused. -/
inductive Refusal
  /-- Raised by exec for a command that has no meaning yet. Safe: nothing can be proved of it. -/
  | notModelled (mnemonic : String)
  deriving DecidableEq, Repr

/-! ## Reset values -/

/-- A pocket right after reset: RELOCK sent, so CLOSING with its lock confirm window (R48). -/
def Pocket.reset : Pocket :=
  { content := none, sensor := .absent, lock := .closing, claim := none, fault := .clear, stamp := 0
    confirm := some Config.lockConfirmMs }

/-- The Crib Controller after a device reset (R48). -/
def Crib.reset : Crib :=
  { pockets := Vector.replicate 512 Pocket.reset, drawers := Vector.replicate 16 .openAll, layoutLock := false
    requests := [], nextNumber := 1, lockBudget := 4, pickupWindow := 30, insertWindow := 60, scanDone := false
    early := [] }

/-- An axis after a device reset (R49, R67). -/
def AxisRec.reset : AxisRec :=
  { state := .unhomed, counter := 0, softLimit := 1048575, captures := [], bounce := none }

/-- The Presetter Unit after a device reset (R66, R67), SEATED at the level given (R55). -/
def Presetter.reset (seated : Bool) : Presetter :=
  { z := AxisRec.reset, x := AxisRec.reset, reference := none, generation := 0, cycle := none, seated := seated
    spreadLimit := 3, touches := 3, seatWindow := 120, touchWindow := 60, homeWindow := 300, masterLength := 0
    masterRadius := 0 }

/-- The Issue Manager after a device reset (R124, R126). -/
def IssueManager.reset : IssueManager :=
  { records := Vector.replicate 32 { generation := 0, issue := none }, transitWindow := 10 }

/-- A cell record after a device reset (R110). -/
def Cell.reset : Cell :=
  { enabled := false, magSize := 240, issueLimit := 4, standing := .good, faultCount := 0, answers := 0, queue := []
    lastGrant := 0 }

/-- A rights entry after a device reset (R121). -/
def Right.reset : Right :=
  { enabled := false, cells := 0, value := 0, mask := 0, perms := ⟨false, false, false⟩ }

/-- The Cell Link Controller after a device reset (R107, R108). -/
def Link.reset : Link :=
  { state := .active, errors := 0, idle := 0, cells := Vector.replicate 24 Cell.reset
    rights := Vector.replicate 16 Right.reset, rx := [], buffer0 := none, next0 := none, attempt := none
    slotDriven := false, broadcastTimer := some 1000, holdTimer := none, pollTimer := none, pollPointer := 0, answerWindow := 100
    retryLimit := 3, deferralDelay := 2000, broadcastInterval := 1000, pollInterval := 250, holdTime := 500 }

/-- The Report Writer after a device reset (R207). -/
def ReportWriter.reset : ReportWriter := { written := 0, released := 0, hold := [], stalled := false }

/-- The Order Port and the Order Engine after a device reset (R195). -/
def OrderBlock.reset : OrderBlock :=
  { portEnable := false, halted := false, boardFault := false, releaseError := false, conflict := none, bba := 0
    cauReport := false, cauStall := false, cauFault := false, cen := 0, series := none
    slots := Vector.replicate 32 { state := .free, context := none }, writeOrder := [], formedNow := []
    service := .setup, clock := 0 }

/-- The part right after reset, with an empty queue. SEATED inactive is the model's choice (log 6). -/
def State.reset : State :=
  { pending := [], order := OrderBlock.reset, tools := [], crib := Crib.reset, presetter := Presetter.reset false
    issues := IssueManager.reset, link := Link.reset, reports := ReportWriter.reset, board := [], freeCount := 0 }

end Sys2Proof.Machine
end

