-- ==== Sys2Proof/Machine/Codes.lean ====
section
/-! DEFINITION. The codes of named values in registers, results, entries, reports and frames (R86, R87, R176, R181, R182, R198). -/

namespace Sys2Proof.Machine

/-- Status codes (R182). -/
def Status.code : Status → Nat
  | .ok => 0x01 | .badKind => 0x02 | .badParam => 0x03 | .badBuffer => 0x04 | .wrongState => 0x05
  | .layoutLocked => 0x06 | .busy => 0x07 | .noOrder => 0x08 | .notCancellable => 0x09 | .cancelled => 0x0A
  | .unknownTool => 0x10 | .toolExists => 0x11 | .tableFull => 0x12 | .pocketTaken => 0x13 | .notReady => 0x14
  | .spent => 0x15 | .notStocked => 0x18 | .noRoom => 0x19 | .drawerDenies => 0x1A | .cribBusy => 0x1B
  | .pickupTimeout => 0x1C | .insertTimeout => 0x1D | .lockJam => 0x1E | .drawerClosed => 0x1F
  | .mapMismatch => 0x20 | .faultPresent => 0x21 | .noReference => 0x28 | .referenceStale => 0x29
  | .noMaster => 0x2A | .axisNotHomed => 0x2B | .stationBusy => 0x2C | .stationOccupied => 0x2D
  | .homeTimeout => 0x2E | .seatTimeout => 0x30 | .seatLost => 0x31 | .touchTimeout => 0x32 | .spread => 0x33
  | .overtravel => 0x34 | .axisLost => 0x35 | .aborted => 0x36 | .badSlot => 0x37 | .cellDisabled => 0x38
  | .cellWeak => 0x39 | .cellCutOff => 0x3A | .issueListFull => 0x3B | .cellLimit => 0x3C | .slotPending => 0x3D
  | .slotOccupied => 0x3E | .noneReady => 0x3F | .noIssue => 0x40 | .tooLate => 0x41 | .mounted => 0x48
  | .refused => 0x49 | .noAnswer => 0x4A | .astray => 0x4B | .linkRestart => 0x4C

/-- Reason codes of DENY (R87). -/
def Reason.code : Reason → Nat
  | .notInService => 0x01 | .cellDisabled => 0x02 | .cellWeak => 0x03 | .cellCutOff => 0x04 | .noRight => 0x05
  | .badSlot => 0x06 | .issueListFull => 0x07 | .cellLimit => 0x08 | .slotPending => 0x09 | .slotOccupied => 0x0A
  | .unknownTool => 0x0B | .notReady => 0x0C | .busy => 0x0D | .notStocked => 0x0E | .noneReady => 0x0F
  | .notMounted => 0x10 | .noIssue => 0x11 | .tooLate => 0x12 | .notCancellable => 0x13

/-- The status of a refused ISSUE order, by its deny reason (R128, R132). The reasons that no ISSUE order meets have the
status of the nearest check of R179. -/
def Reason.toStatus : Reason → Status
  | .notInService => .wrongState | .cellDisabled => .cellDisabled | .cellWeak => .cellWeak
  | .cellCutOff => .cellCutOff | .noRight => .wrongState | .badSlot => .badSlot | .issueListFull => .issueListFull
  | .cellLimit => .cellLimit | .slotPending => .slotPending | .slotOccupied => .slotOccupied
  | .unknownTool => .unknownTool | .notReady => .notReady | .busy => .busy | .notStocked => .notStocked
  | .noneReady => .noneReady | .notMounted => .wrongState | .noIssue => .noIssue | .tooLate => .tooLate
  | .notCancellable => .notCancellable

/-- Order kind codes (R181). -/
def OrderKind.code : OrderKind → Nat
  | .setCell => 0x01 | .setRight => 0x02 | .setDrawer => 0x03 | .setLimits => 0x04 | .lockLayout => 0x05
  | .startService => 0x06 | .stopService => 0x07 | .enrol => 0x08 | .remove => 0x09 | .readTool => 0x0A
  | .find => 0x0B | .setLife => 0x0C | .regrind => 0x0D | .home => 0x0E | .calibrate => 0x0F | .measure => 0x10
  | .stow => 0x11 | .issue => 0x12 | .returnTool => 0x13 | .cancel => 0x14 | .scan => 0x15 | .clearFault => 0x16
  | .restoreCell => 0x17

/-- The service states in which a kind is taken (R181). -/
def OrderKind.takenIn : OrderKind → ServiceState → Bool
  | .setCell, st | .setRight, st | .setLimits, st | .startService, st => st == .setup
  | .stopService, st | .measure, st | .stow, st | .issue, st | .returnTool, st | .cancel, st
  | .restoreCell, st => st == .service
  | .setDrawer, _ | .lockLayout, _ | .enrol, _ | .remove, _ | .readTool, _ | .find, _ | .setLife, _ | .regrind, _
  | .home, _ | .calibrate, _ | .scan, _ | .clearFault, _ => true

/-- Tool state codes (R176). -/
def ToolState.code : ToolState → Nat
  | .unmeasured => 0 | .passed => 1 | .ready => 2 | .claimed => 3 | .out => 4 | .returning => 5 | .astray => 6
  | .quarantine => 7 | .worn => 8

/-- Location kind codes (R176). -/
def Location.code : Location → Nat
  | .pocket _ => 0 | .cell _ _ => 1 | .presetter => 2 | .loose => 3

/-- Life unit codes (R86, R176). -/
def LifeUnit.code : LifeUnit → Nat
  | .minutes => 0 | .cuts => 1

/-- Drawer attribute codes (R176). -/
def Attribute.code : Attribute → Nat
  | .openAll => 0 | .issueOnly => 1 | .returnOnly => 2 | .closed => 3

/-- Movement codes (R176). -/
def Movement.code : Movement → Nat
  | .issuePick => 0 | .store => 1 | .returnPut => 2 | .fetch => 3 | .removeOut => 4 | .clearOut => 5

/-- Sensor codes (R176). -/
def Sensor.code : Sensor → Nat
  | .present => 0 | .absent => 1

/-- Lock codes (R176). -/
def Lock.code : Lock → Nat
  | .locked => 0 | .opening => 1 | .opened => 2 | .closing => 3 | .jammed => 4

/-- Pocket fault codes (R176); POCKET_FAULT reasons are the same numbers (R198). -/
def PocketFault.code : PocketFault → Nat
  | .clear => 0 | .forced => 1 | .unknownItem => 2 | .lockJam => 3

/-- Request state codes (R176). -/
def RequestState.code : RequestState → Nat
  | .queued => 0 | .opening => 1 | .opened => 2 | .closing => 3 | .ended => 4

/-- Movement outcome codes (R176). -/
def MoveOutcome.code : MoveOutcome → Nat
  | .sensed => 0 | .windowExpired => 1 | .lockJam => 2 | .cancelled => 3 | .drawerClosed => 4

/-- Axis state codes (R176). -/
def AxisState.code : AxisState → Nat
  | .unhomed => 0 | .homing => 1 | .homed => 2 | .lost => 3

/-- Store result codes (R176). -/
def StoreResult.code : StoreResult → Nat
  | .nothing => 0 | .stored => 1 | .notStored _ => 2

/-- Store reason codes (R176). -/
def StoreReason.code : StoreReason → Nat
  | .noRoom => 0 | .cribBusy => 1 | .windowExpired => 2 | .lockJam => 3 | .drawerClosed => 4 | .cancelled => 5

/-- Standing codes (R176). -/
def Standing.code : Standing → Nat
  | .good => 0 | .weak => 1 | .cutOff => 2

/-- Issue phase codes (R176). -/
def IssuePhase.code : IssuePhase → Nat
  | .offerWait => 0 | .unlockWait => 1 | .pickup => 2 | .transit => 3 | .withdrawing => 4

/-- Offer outcome codes (R176). -/
def OfferOutcome.code : OfferOutcome → Nat
  | .notTaken => 0 | .taken => 1 | .unknown => 2

/-- Withdraw status codes (R176). -/
def WithdrawStatus.code : WithdrawStatus → Nat
  | .notSent => 0 | .confirmed => 1 | .unconfirmed => 2 | .pending => 3

/-- Service state codes (R86, R176). -/
def ServiceState.code : ServiceState → Nat
  | .setup => 0 | .service => 1

/-- Reference kind codes of DENY (R86). -/
def RefKind.code : RefKind → Nat
  | .requestRef => 0 | .tool => 1 | .issueId => 2

/-- Report kind codes (R198). -/
def ReportKind.code : ReportKind → Nat
  | .requestDenied => 0x01 | .issueClosed => 0x02 | .lateMount => 0x03 | .mountRejected => 0x04
  | .returnNoted => 0x05 | .usageRejected => 0x06 | .lifeWarning => 0x07 | .lifeEnd => 0x08
  | .lifeEndUndelivered => 0x09 | .pocketFault => 0x0A | .cellStanding => 0x0B | .linkState => 0x0C
  | .referenceLost => 0x0D | .merged => 0x0E

/-- Kind code of an exchange's frame (R86). -/
def Payload.kindCode : Payload → Nat
  | .dataOffer .. => 0x01 | .withdraw .. => 0x02 | .lifeEnd _ => 0x03 | .deny .. => 0x04 | .poll => 0x05

/-- Class of an exchange (R93). -/
def Payload.cls : Payload → Nat
  | .dataOffer .. => 2 | .withdraw .. => 0 | .lifeEnd _ => 0 | .deny .. => 1 | .poll => 3

/-- Payload length of the kinds that cells send (R86); none for any other code. -/
def cellFrameLength : Nat → Option Nat
  | 0x10 => some 5 | 0x11 => some 1 | 0x12 => some 2 | 0x13 => some 3 | 0x14 => some 3 | 0x15 => some 4
  | 0x16 => some 4 | 0x17 => some 0 | 0x18 => some 1
  | _ => none

/-- Result code of a cycle outcome (R176): COMPLETE is 0, a fault its place in the list. -/
def Status.cycleCode : Status → Nat
  | .seatTimeout => 1 | .seatLost => 2 | .touchTimeout => 3 | .spread => 4 | .overtravel => 5 | .axisLost => 6
  | .aborted => 7
  | _ => 0

end Sys2Proof.Machine
end

