-- ==== Sys2Proof/Machine/Bytes.lean ====
section
/-! DEFINITION. Packing of fields into bytes (R85, R174, R175, R176), and the bytes of the board area. -/

namespace Sys2Proof.Machine

/-! ## Fields -/

/-- The `n` low bytes of a value, least significant first (R175). -/
def le : Nat → Nat → List Byte
  | 0, _ => []
  | n + 1, v => BitVec.ofNat 8 v :: le n (v / 256)

/-- The `n` low bytes of a value, most significant first (R85). -/
def be (n v : Nat) : List Byte := (le n v).reverse

/-- The value of bytes in little-endian order. -/
def fromLe : List Byte → Nat
  | [] => 0
  | b :: bs => b.toNat + 256 * fromLe bs

/-- The value of bytes sent most significant first. -/
def fromBe (bs : List Byte) : Nat := fromLe bs.reverse

/-- A signed field: 4 bytes in two's complement (R176). -/
def leInt (v : Int) : List Byte := le 4 (BitVec.ofInt 32 v).toNat

/-- A signed field of a frame, most significant byte first (R86). -/
def beInt (v : Int) : List Byte := be 4 (BitVec.ofInt 32 v).toNat

/-- A yes-or-no field: 1 byte (R176). -/
def flag (b : Bool) : List Byte := [if b then 1 else 0]

/-- Bytes filled up with 0 to a length; nothing is cut off. -/
def padTo (n : Nat) (bs : List Byte) : List Byte := bs ++ List.replicate (n - bs.length) 0

/-- Exactly `n` bytes: filled up with 0 or cut (R176: bytes beyond the last field are 0). -/
def fit (n : Nat) (bs : List Byte) : List Byte := (padTo n bs).take n

/-- A presence mask: bit n of the value is set when the nth member is present (R176). -/
def presence : List Bool → Nat
  | [] => 0
  | b :: bs => (if b then 1 else 0) + 2 * presence bs

/-- An optional field: its bytes, or 0 in its width when absent (R176). -/
def optField (width : Nat) (v : Option (List Byte)) : List Byte := v.getD (List.replicate width 0)

/-- A location field: 3 bytes (R176). -/
def locationField : Location → List Byte
  | .pocket p => le 1 0 ++ le 2 p.val
  | .cell c m => le 1 1 ++ le 1 (addr c) ++ le 1 m
  | .presetter => le 1 2 ++ le 2 0
  | .loose => le 1 3 ++ le 2 0

/-- A claim field: owner kind, then the issue id or the slot (R176). -/
def claimField : Owner → List Byte
  | .issue id => le 1 0 ++ le 1 id
  | .slot n => le 1 1 ++ le 1 n.val

/-! ## The board area -/

/-- The bytes the part has written, by absolute address (log 3). -/
abbrev Memory := List Host.Cell

/-- The canonical form: addresses strictly rising. An unlisted address reads as no value, so no entry repeats it. -/
def Memory.wf : Memory → Bool
  | [] => true
  | [_] => true
  | a :: b :: rest => a.1 < b.1 && Memory.wf (b :: rest)

/-- The byte the part has written at an address; none where it has written nothing (log 3). -/
def Memory.read (a : Nat) : Memory → Option Byte
  | [] => none
  | c :: rest => if c.1 = a then some c.2 else Memory.read a rest

/-- One byte written, the canonical form kept. -/
def Memory.write (a : Nat) (b : Byte) : Memory → Memory
  | [] => [(a, b)]
  | c :: rest => if a < c.1 then (a, b) :: c :: rest else if a = c.1 then (a, b) :: rest
    else c :: Memory.write a b rest

/-- The bytes of one access written in turn. -/
def Memory.writeAll (m : Memory) (cells : List Host.Cell) : Memory :=
  cells.foldl (fun m c => Memory.write c.1 c.2 m) m

/-- Bytes from address `a` on, split at the boundaries of aligned 32-bit words: one list for each access (R174). -/
def wordAccesses (a : Nat) : List Byte → List (List Host.Cell)
  | [] => []
  | b :: bs => match wordAccesses (a + 1) bs with
    | [] => [[(a, b)]]
    | w :: ws => if (a + 1) % 4 = 0 then [(a, b)] :: w :: ws else ((a, b) :: w) :: ws

/-- The accesses of a result write at the slot's address: the words from 44h to 7Fh, then the word at 40h (R175). -/
def resultAccesses (slotBase : Nat) (area : List Byte) : List (List Host.Cell) :=
  wordAccesses (slotBase + 0x44) (area.drop 4) ++ wordAccesses (slotBase + 0x40) (area.take 4)

end Sys2Proof.Machine
end

