-- ==== Sys2Proof/Machine/Frame.lean ====
section
/-! DEFINITION. The link frame: bits, stuffing, check, acknowledgement and end fields, and the frames of the part's own exchanges (R84 to R87). -/

namespace Sys2Proof.Machine

/-! ## Bits -/

/-- The `n` low bits of a value, most significant first (R85). -/
def natBits : Nat → Nat → List Bool
  | 0, _ => []
  | n + 1, v => v.testBit n :: natBits n v

/-- The value of bits sent most significant first. -/
def bitsNat (bs : List Bool) : Nat := bs.foldl (fun v b => 2 * v + b.toNat) 0

/-- The bits of payload bytes. -/
def payloadBits (bs : List Byte) : List Bool := bs.flatMap fun b => natBits 8 b.toNat

/-- Whole bytes read from bits, `n` of them. -/
def bitsBytes : Nat → List Bool → List Byte
  | 0, _ => []
  | n + 1, bs => BitVec.ofNat 8 (bitsNat (bs.take 8)) :: bitsBytes n (bs.drop 8)

/-! ## Stuffing (R84) -/

/-- Bits with stuffing, `run` bits of level `level` having gone before. The stuffing bit counts toward the next run. -/
def stuffFrom (level : Bool) (run : Nat) : List Bool → List Bool
  | [] => if run = 5 then [!level] else []
  | b :: bs =>
    if run = 5 then (!level) :: b :: stuffFrom b (if b = !level then 2 else 1) bs
    else b :: stuffFrom b (if b = level then run + 1 else 1) bs

/-- The bits with one opposite bit after every five equal bits (R84). -/
def stuff (bs : List Bool) : List Bool := stuffFrom true 0 bs

/-- Bits without stuffing; none at a run of six equal bits, the framing error (R84). That bits which end with five equal bits
and lack the stuffing bit after them are read as well is the model's choice (log 61). -/
def unstuffFrom (level : Bool) (run : Nat) : List Bool → Option (List Bool)
  | [] => some []
  | b :: bs =>
    if run = 5 then if b = level then none else unstuffFrom b 1 bs
    else (unstuffFrom b (if b = level then run + 1 else 1) bs).map (b :: ·)

/-- The bits that a receiver reads (R84). -/
def unstuff (bs : List Bool) : Option (List Bool) := unstuffFrom true 0 bs

/-! ## Check (R85) -/

/-- One bit into the remainder of the polynomial with terms at powers 16, 12, 5 and 0. -/
def crcStep (r : BitVec 16) (b : Bool) : BitVec 16 :=
  if r.msb == b then r <<< 1 else (r <<< 1) ^^^ 0x1021#16

/-- The check of the bits from the first header bit to the last payload bit: preset to all ones, not inverted (R85). -/
def crc (bs : List Bool) : BitVec 16 := bs.foldl crcStep 0xFFFF#16

/-! ## Frames -/

/-- Header and payload bits (R85). -/
def LinkFrame.body (f : LinkFrame) : List Bool :=
  natBits 2 f.cls ++ natBits 5 f.source ++ natBits 5 f.dest ++ natBits 5 f.kind ++ natBits 5 f.payload.length ++
    payloadBits f.payload

/-- Start bit, header, payload and check, before stuffing. -/
def LinkFrame.bits (f : LinkFrame) : List Bool := false :: f.body ++ natBits 16 (crc f.body).toNat

/-- The levels on the line from the start bit to the last bit of the check, recessive as true (R84). -/
def LinkFrame.line (f : LinkFrame) : List Bool := stuff f.bits

/-- The acknowledgement field: the acknowledgement slot, dominant where a receiver acknowledges, and the recessive delimiter
(R84). -/
def ackField (acknowledged : Bool) : List Bool := [!acknowledged, true]

/-- The end field: seven recessive bits (R84). -/
def endField : List Bool := List.replicate 7 true

/-- The whole frame as the line shows it, from the start bit through the end field (R84). -/
def LinkFrame.onLine (acknowledged : Bool) (f : LinkFrame) : List Bool := f.line ++ ackField acknowledged ++ endField

/-- The whole frame as its transmitter drives it: the slot recessive (R84). -/
def LinkFrame.driven (f : LinkFrame) : List Bool := f.onLine false

/-- A frame whose fields fit their places. -/
def LinkFrame.wf (f : LinkFrame) : Bool :=
  f.cls < 4 && f.source < 32 && f.dest < 32 && f.kind < 32 && f.payload.length ≤ 24

/-- Header, payload and check read from the bits after the start bit; none when the length or the check disagrees (R85,
R86). -/
def readBody (bs : List Bool) : Option LinkFrame :=
  let len := bitsNat ((bs.drop 17).take 5)
  let body := bs.take (22 + 8 * len)
  let check := bs.drop (22 + 8 * len)
  if len ≤ 24 ∧ check.length = 16 ∧ body.length = 22 + 8 * len ∧ bitsNat check = (crc body).toNat then
    some { cls := bitsNat (bs.take 2), source := bitsNat ((bs.drop 2).take 5), dest := bitsNat ((bs.drop 7).take 5)
           kind := bitsNat ((bs.drop 12).take 5), payload := bitsBytes len (bs.drop 22) }
  else none

/-- The frame that the levels on the line carry; none for a framing error, a bad check or a missing start bit, which is a
frame never received (R84, R85). -/
def parseLine (line : List Bool) : Option LinkFrame :=
  match unstuff line with
  | some (false :: bs) => readBody bs
  | _ => none

/-! ## The part's frames (R86) -/

/-- Payload bytes of an exchange's frame (R86). -/
def Payload.bytes : Payload → List Byte
  | .dataOffer issue tool slot length radius remaining unit =>
    be 1 issue ++ be 2 tool ++ be 1 slot ++ beInt length ++ beInt radius ++ be 2 remaining ++ be 1 unit.code
  | .withdraw issue tool slot => be 1 issue ++ be 2 tool ++ be 1 slot
  | .lifeEnd tool => be 2 tool
  | .deny ref value reason => be 1 ref.code ++ be 2 value ++ be 1 reason.code
  | .poll => []

/-- The frame of an exchange toward a cell (R85, R86). -/
def Payload.frame (p : Payload) (c : CellNo) : LinkFrame :=
  { cls := p.cls, source := 0, dest := addr c, kind := p.kindCode, payload := p.bytes }

/-- The broadcast of a CRIB_STATE (R86, R100). -/
def CribState.frame (cs : CribState) : LinkFrame :=
  { cls := 3, source := 0, dest := 31, kind := 0x06, payload := be 1 cs.service.code ++ be 2 cs.hold }

end Sys2Proof.Machine
end

