-- ==== Sys2Proof/Machine/Ops.lean ====
section
/-! DEFINITION. The named operations over the State that all blocks share: access to the blocks, tool records and claims (R1 to
R9), order contexts (R180), reports and the stall (R199 to R202), CRIB_STATE (R100). -/

namespace Sys2Proof.Machine

/-! ## Access to the blocks -/

/-- A change of the Order Port and Order Engine. -/
def State.modOrder (f : OrderBlock → OrderBlock) (s : State) : State := { s with order := f s.order }
/-- A change of the Tool Table. -/
def State.modTools (f : List Tool → List Tool) (s : State) : State := { s with tools := f s.tools }
/-- A change of the Crib Controller. -/
def State.modCrib (f : Crib → Crib) (s : State) : State := { s with crib := f s.crib }
/-- A change of the Presetter Unit. -/
def State.modPresetter (f : Presetter → Presetter) (s : State) : State := { s with presetter := f s.presetter }
/-- A change of the Issue Manager. -/
def State.modIssues (f : IssueManager → IssueManager) (s : State) : State := { s with issues := f s.issues }
/-- A change of the Cell Link Controller. -/
def State.modLink (f : Link → Link) (s : State) : State := { s with link := f s.link }
/-- A change of the Report Writer. -/
def State.modReports (f : ReportWriter → ReportWriter) (s : State) : State := { s with reports := f s.reports }
/-- A change of the bytes written into the board area. -/
def State.modBoard (f : Memory → Memory) (s : State) : State := { s with board := f s.board }

/-- The crib clock (R192). -/
def State.clock (s : State) : Stamp := s.order.clock

/-- The port may access the board area (R174). -/
def State.canAccess (s : State) : Bool := s.order.portEnable && !s.order.halted

/-- The service state is SERVICE (R186). -/
def State.inService (s : State) : Bool := s.order.service == .service

/-- The age of a stamp (R192). -/
def age (now stamp : Stamp) : Nat := (now - stamp).toNat

/-- A vector with every entry changed. -/
def mapVec {α : Type} {n : Nat} (f : α → α) (v : Vector α n) : Vector α n := ⟨(v.toList.map f).toArray, by simp⟩

/-- The numbers below `n` whose entries satisfy a test, rising. -/
def indices {n : Nat} (test : Fin n → Bool) : List (Fin n) := (List.finRange n).filter test

/-! ## Tool Table (R1 to R9) -/

/-- The record with a tool number (R1); number 0 names none. -/
def State.findTool (s : State) (t : Nat) : Option Tool := s.tools.find? fun x => x.number == t

/-- A record put in its place by number, an earlier record of that number replaced (R1). -/
def putTool (x : Tool) : List Tool → List Tool
  | [] => [x]
  | y :: ys => if x.number < y.number then x :: y :: ys else if x.number = y.number then x :: ys else y :: putTool x ys

/-- A change of the record with a tool number. -/
def State.modTool (t : Nat) (f : Tool → Tool) (s : State) : State :=
  s.modTools fun l => l.map fun x => if x.number = t then f x else x

/-- The record with a tool number deleted (R1). -/
def State.dropTool (t : Nat) (s : State) : State := s.modTools fun l => l.filter fun x => x.number != t

/-- The warning threshold (R2). -/
def lifeThreshold (limit percent : Nat) : Nat := max 1 (limit * percent / 100)

/-- The warning threshold of a record (R2). -/
def Tool.threshold (x : Tool) : Nat := lifeThreshold x.lifeLimit x.warnPercent

/-- Sizes within the tolerances of a record (R3). -/
def Tool.sizesPass (x : Tool) (length radius : Int) : Bool :=
  (length - x.nominalLength).natAbs ≤ x.lengthTol && (radius - x.nominalRadius).natAbs ≤ x.radiusTol

/-- In tolerance: geometry present and its sizes within the tolerances (R3). -/
def Tool.inTolerance (x : Tool) : Bool :=
  match x.geometry with
  | none => false
  | some g => x.sizesPass g.length g.radius

/-- The geometry stored and the out-of-tolerance flag set by R3. -/
def Tool.withGeometry (g : Geometry) (x : Tool) : Tool :=
  { x with geometry := some g, outOfTol := !x.sizesPass g.length g.radius }

/-- The conditions of READY (R7). -/
def Tool.meetsReady (x : Tool) : Bool :=
  x.inTolerance && x.lifeUsed < x.lifeLimit && (match x.location with | .pocket _ => true | _ => false)

/-- The state of a record that is named READY and fails R7 (R9, override 2). -/
def Tool.insteadOfReady (x : Tool) : Tool :=
  if x.lifeLimit ≤ x.lifeUsed then { x with state := .worn }
  else if x.geometry.isNone then { x with state := .unmeasured }
  else if x.inTolerance then { x with state := .passed }
  else { x with state := .quarantine, outOfTol := true }

/-- A claim taken on an unclaimed record (R8). -/
def Tool.take (owner : Owner) (x : Tool) : Tool :=
  { x with stateBefore := some x.state, state := .claimed, claim := some owner }

/-- A claim released with the state and location that the owner names (R9). `isReturn` says that the owner is a RETURN
context, whose release is free of the first override. The first override takes the location POCKET from a MEASURE whose
insertion was sensed too; the content of the pocket then goes with it (State.clearReleased, log 46). -/
def Tool.release (isReturn : Bool) (named : ToolState) (loc : Location) (x : Tool) : Tool :=
  let y := { x with claim := none, stateBefore := none }
  if isReturn = false ∧ x.stateBefore = some .astray then { y with state := .astray, location := .loose }
  else
    let z := { y with state := named, location := loc }
    if named = .ready ∧ z.meetsReady = false then z.insteadOfReady else z

/-- The state before claim; the state itself of a record that holds none. -/
def Tool.before (x : Tool) : ToolState := x.stateBefore.getD x.state

/-- The record of tool `t` claimed for an owner (R8). -/
def State.claimTool (t : Nat) (owner : Owner) (s : State) : State := s.modTool t (Tool.take owner)

/-- The claim on tool `t` released with a named state, the location as it stands (R9). -/
def State.releaseAs (t : Nat) (named : ToolState) (s : State) : State :=
  s.modTool t fun x => x.release false named x.location

/-- The claim on tool `t` released with its state before claim, the location as it stands (R9). -/
def State.releaseBack (t : Nat) (s : State) : State :=
  s.modTool t fun x => x.release false x.before x.location

/-- A record names a cell and slot as OUT or ASTRAY, by its state or its state before claim (R128, check 9). -/
def Tool.occupies (c : CellNo) (m : Nat) (x : Tool) : Bool :=
  let st := if x.state = .claimed then x.before else x.state
  (st == .out && x.location == .cell c m) || (st == .astray && x.last == some (c, m))

/-! ## Order slots and contexts (R177, R180) -/

/-- An order slot. -/
def State.slot (s : State) (n : SlotNo) : Slot := s.order.slots.get n

/-- An order slot replaced. -/
def State.setSlot (n : SlotNo) (x : Slot) (s : State) : State :=
  s.modOrder fun o => { o with slots := o.slots.set n.1 x n.2 }

/-- The work of the order in a slot; `idle` where no long order runs. -/
def State.work (s : State) (n : SlotNo) : Work := ((s.slot n).context.map (·.work)).getD .idle

/-- The work of a long order set; its context counts as a long one from here on (R180). -/
def State.setWork (n : SlotNo) (w : Work) (s : State) : State :=
  match (s.slot n).context with
  | none => s
  | some c => s.setSlot n { s.slot n with context := some { c with work := w, long := true } }

/-- The result of a context formed (R180); a context that holds one already is finished. -/
def State.completeWith (n : SlotNo) (status : Status) (result buffer : List Byte) (s : State) : State :=
  match (s.slot n).context with
  | none => s
  | some c =>
    match c.output with
    | some _ => s
    | none =>
      let out : Output := { status := status, stamp := s.clock, result := result, buffer := buffer }
      (s.setSlot n { s.slot n with context := some { c with work := .idle, output := some out } }).modOrder
        fun o => { o with formedNow := n :: o.formedNow }

/-- A result formed without a buffer. -/
def State.complete (n : SlotNo) (status : Status) (result : List Byte) (s : State) : State :=
  s.completeWith n status result []

/-- A refusal: the status alone, every result field 0 (R175, log 8). -/
def State.refuse (n : SlotNo) (status : Status) (s : State) : State := s.complete n status []

/-- A slot number put in its place, rising. -/
def insertSlot (n : SlotNo) : List SlotNo → List SlotNo
  | [] => [n]
  | m :: ms => if n ≤ m then n :: m :: ms else m :: insertSlot n ms

/-- The end of a step: results formed in it join the waiting ones, the lowest slot first (R174). -/
def State.settle (s : State) : State :=
  s.modOrder fun o => { o with writeOrder := o.writeOrder ++ o.formedNow.foldr insertSlot [], formedNow := [] }

/-! ## CRIB_STATE (R100) -/

/-- A timer started with an interval; an interval of 0 is off (R100, R101). -/
def startTimer (interval : Nat) : Option Nat := if interval = 0 then none else some interval

/-- A CRIB_STATE placed in buffer 0, or behind the one on the line (R89, R100); its timer restarts. -/
def State.placeCribState (s : State) : State :=
  let cs : CribState := { service := s.order.service, hold := if s.reports.stalled then s.link.holdTime else 0 }
  let onLine := s.link.attempt.any fun a => a.buffer == 0
  s.modLink fun l =>
    { l with
      buffer0 := if onLine then l.buffer0 else some cs
      next0 := if onLine then some cs else l.next0
      broadcastTimer := if s.reports.stalled then none else startTimer l.broadcastInterval
      holdTimer := if s.reports.stalled then startTimer l.holdTime else none }

/-! ## Reports (R196 to R202) -/

/-- Entries written and not given back (R196). -/
def ReportWriter.outstanding (r : ReportWriter) : Nat := (r.written - r.released).toNat

/-- Room in the report list (R196). -/
def ReportWriter.credit (r : ReportWriter) : Nat := Config.reportEntries - r.outstanding

/-- Entry into STALL (R202). -/
def State.enterStall (s : State) : State :=
  ((s.modReports fun r => { r with stalled := true }).modOrder fun o => { o with cauStall := true }).placeCribState

/-- The end of the STALL (R202). -/
def State.leaveStall (s : State) : State := (s.modReports fun r => { r with stalled := false }).placeCribState

/-- The kind set with one more kind (R201). -/
def addKind (set : BitVec 16) (k : ReportKind) : BitVec 16 := set ||| (1#16 <<< k.code)

/-- A report absorbed into the newest entry (R201). -/
def Report.absorb (new tail : Report) : Report :=
  match tail.detail with
  | .merged kinds _ =>
    { tail with count := min 65535 (tail.count + 1), detail := .merged (addKind kinds new.kind) new.stamp }
  | .plain _ =>
    { kind := .merged, held := true, bit1 := false, bit2 := false, bit3 := false, cell := 0, issue := 0xFF
      stamp := tail.stamp, tool := 0, code := 0, count := 2
      detail := .merged (addKind (addKind 0 tail.kind) new.kind) new.stamp }

/-- The last entry of a queue changed. -/
def modLast (f : Report → Report) : List Report → List Report
  | [] => []
  | [r] => [f r]
  | r :: rest => r :: modLast f rest

/-- A report handed to the Report Writer (R199, R201, R202). -/
def State.handReport (r : Report) (s : State) : State :=
  let q := s.reports.hold
  let r := { r with stamp := s.clock, held := !q.isEmpty || s.reports.credit == 0 || !s.canAccess }
  if q.length < Config.holdCapacity then
    let t := s.modReports fun w => { w with hold := q ++ [r] }
    if Config.stallAt ≤ q.length + 1 ∧ s.reports.stalled = false then t.enterStall else t
  else s.modReports fun w => { w with hold := modLast r.absorb q }

/-- A report with no cell, issue, tool, code or flags; the Report Writer adds the stamp and HELD (R197). -/
def Report.blank (kind : ReportKind) : Report :=
  { kind := kind, held := false, bit1 := false, bit2 := false, bit3 := false, cell := 0, issue := 0xFF, stamp := 0
    tool := 0, code := 0, count := 1, detail := .plain [] }

/-- The 16 bytes of an entry's detail (R198, R201). -/
def Detail.bytes : Detail → List Byte
  | .plain bs => fit 16 bs
  | .merged kinds last => fit 16 (le 2 kinds.toNat ++ le 4 last.toNat)

/-- The flags byte of an entry (R197). -/
def Report.flagBits (r : Report) : Nat :=
  r.held.toNat + 2 * r.bit1.toNat + 4 * r.bit2.toNat + 8 * r.bit3.toNat

/-- The 32 bytes of an entry, with its sequence (R197). -/
def Report.bytes (r : Report) (sequence : BitVec 16) : List Byte :=
  le 1 r.kind.code ++ le 1 r.flagBits ++ le 1 r.cell ++ le 1 r.issue ++ le 4 r.stamp.toNat ++ le 2 r.tool ++
    le 2 r.code ++ le 2 r.count ++ le 2 sequence.toNat ++ r.detail.bytes

/-! ## The board accesses of a series (R174, R175, R197) -/

/-- The result area of a slot, 64 bytes from 40h (R175). -/
def resultArea (tag : BitVec 16) (out : Output) : List Byte :=
  le 2 out.status.code ++ le 2 tag.toNat ++ le 4 out.stamp.toNat ++ fit 56 out.result

/-- The accesses that a result write makes: the buffer, then the result area, the status word last (R175, R183). -/
def State.resultSeries (s : State) (n : SlotNo) : List (List Host.Cell) :=
  match (s.slot n).context with
  | some { tag, bufOffset, output := some out, .. } =>
    wordAccesses (s.order.bba.toNat + bufOffset.toNat) out.buffer ++
      resultAccesses (s.order.bba.toNat + 0x80 * n.val) (resultArea tag out)
  | _ => []

/-- The accesses that the write of the head of the hold queue makes (R197, R199). -/
def State.reportSeries (s : State) : List (List Host.Cell) :=
  match s.reports.hold with
  | [] => []
  | r :: _ =>
    wordAccesses (s.order.bba.toNat + 0x1000 + 0x20 * (s.reports.written.toNat % Config.reportEntries))
      (r.bytes s.reports.written)

/-- The accesses of the series under way that write; a slot read writes nothing. -/
def State.seriesAccesses (s : State) : List (List Host.Cell) :=
  match s.order.series with
  | some (.resultWrite n) => s.resultSeries n
  | some .reportWrite => s.reportSeries
  | some (.slotRead _) | none => []

/-- Every access of a list made. -/
def State.writeAccesses (as : List (List Host.Cell)) (s : State) : State :=
  s.modBoard fun m => as.foldl Memory.writeAll m

/-- The accesses that had ended good when the series under way ended before its end: at most all but the last (R171, R174,
R193, log 4). -/
def State.writePart (good : Nat) (s : State) : State :=
  s.writeAccesses (s.seriesAccesses.take (min good (s.seriesAccesses.length - 1)))

end Sys2Proof.Machine
end

