-- ==== Sys2Proof/Machine/CribOps.lean ====
section
/-! DEFINITION. The shared operations of the Crib Controller: pockets, locks, drawer permission, destination choice, unlock
requests and their queue (R21 to R24, R29, R33 to R37, R43). Outcomes are handed to the owners by Deliver.lean. -/

namespace Sys2Proof.Machine

/-! ## Pockets (R21, R22) -/

/-- A pocket record. -/
def State.pocket (s : State) (p : PocketNo) : Pocket := s.crib.pockets.get p

/-- A pocket record changed. -/
def State.modPocket (p : PocketNo) (f : Pocket → Pocket) (s : State) : State :=
  s.modCrib fun c => { c with pockets := c.pockets.set p.1 (f (c.pockets.get p)) p.2 }

/-- A change of content, sensor, lock or fault: the pocket's stamp takes the crib clock (R21). -/
def State.changePocket (p : PocketNo) (f : Pocket → Pocket) (s : State) : State :=
  s.modPocket p fun k => { f k with stamp := s.clock }

/-- Vacant (R22). -/
def Pocket.vacant (k : Pocket) : Bool :=
  k.content.isNone && k.sensor == .absent && k.claim.isNone && k.lock == .locked && k.fault == .clear

/-- Stocked (R22). -/
def Pocket.stocked (k : Pocket) : Bool := k.content.isSome && k.sensor == .present && k.fault == .clear

/-- Away from LOCKED (R37). -/
def Pocket.away (k : Pocket) : Bool := k.lock != .locked

/-- The sensor disagrees with the content (R47). -/
def Pocket.mismatch (k : Pocket) : Bool := (k.sensor == .present) != k.content.isSome

/-- The drawer of a pocket (R21). -/
def drawerOf (p : PocketNo) : Fin 16 := ⟨p.val / 32, by omega⟩

/-- The attribute of a pocket's drawer (R29). -/
def State.attributeOf (s : State) (p : PocketNo) : Attribute := s.crib.drawers.get (drawerOf p)

/-- The movements that an attribute permits (R29). -/
def Attribute.permits : Attribute → Movement → Bool
  | _, .clearOut => true
  | .closed, _ => false
  | .openAll, _ => true
  | .issueOnly, mv => mv != .returnPut
  | .returnOnly, mv => mv == .returnPut || mv == .fetch || mv == .removeOut

/-- A movement expects an insertion; the others expect a removal (R35). -/
def Movement.inserts : Movement → Bool
  | .store | .returnPut => true
  | .issuePick | .fetch | .removeOut | .clearOut => false

/-! ## Locks (R23) -/

/-- UNLOCK sent: OPENING, with the lock confirm window (R23). -/
def State.sendUnlock (p : PocketNo) (s : State) : State :=
  s.changePocket p fun k => { k with lock := .opening, confirm := some Config.lockConfirmMs }

/-- RELOCK sent: CLOSING, with its own lock confirm window (R23). -/
def State.sendRelock (p : PocketNo) (s : State) : State :=
  s.changePocket p fun k => { k with lock := .closing, confirm := some Config.lockConfirmMs }

/-- The budget count: pockets away from LOCKED (R37). -/
def State.budgetCount (s : State) : Nat := s.crib.pockets.toList.countP Pocket.away

/-! ## Requests (R35 to R37) -/

/-- The requests in the unlock queue (R36). -/
def State.queuedCount (s : State) : Nat := s.crib.requests.countP fun r => r.state == .queued

/-- The request with a number, not ENDED. -/
def State.findRequest (s : State) (num : Nat) : Option Request := s.crib.requests.find? fun r => r.number == num

/-- The request that names a pocket, by the pocket's claim (R21). -/
def State.requestAt (s : State) (p : PocketNo) : Option Request := (s.pocket p).claim.bind s.findRequest

/-- A request changed. -/
def State.modRequest (num : Nat) (f : Request → Request) (s : State) : State :=
  s.modCrib fun c => { c with requests := c.requests.map fun r => if r.number = num then f r else r }

/-- A request ENDED: it leaves the list and its pocket's claim is cleared (R35). -/
def State.endRequest (r : Request) (s : State) : State :=
  (s.modCrib fun c => { c with requests := c.requests.filter fun q => q.number != r.number }).modPocket r.pocket
    fun k => { k with claim := none }

/-- The number after a request number (R35). -/
def succNumber (n : Nat) : Nat := if 65535 ≤ n then 1 else n + 1

/-- The first number from `n` on that no request holds (R35); as many tries as there are requests suffice. -/
def freeNumber (reqs : List Request) : Nat → Nat → Nat
  | 0, n => n
  | fuel + 1, n => if reqs.any (fun r => r.number == n) then freeNumber reqs fuel (succNumber n) else n

/-- The pockets that a test selects, lowest first. -/
def State.pocketsWhere (s : State) (test : PocketNo → Pocket → Bool) : List PocketNo :=
  indices fun p => test p (s.pocket p)

/-- The destination of a STORE of a tool with this home pocket (R33). -/
def State.storePocket (s : State) (home : Option PocketNo) : Option PocketNo :=
  let fits := fun p : PocketNo => (s.pocket p).vacant && (s.attributeOf p).permits .store
  match home.filter fits with
  | some p => some p
  | none => (indices fits).head?

/-- The destination of a RETURN_PUT (R34). -/
def State.returnPocket (s : State) : Option PocketNo :=
  let vacantIn := fun a => (indices fun p : PocketNo => (s.pocket p).vacant && s.attributeOf p == a).head?
  (vacantIn .returnOnly).orElse fun _ => vacantIn .openAll

/-- The checks of R36 on the pocket of a removal movement, in order. -/
def State.removalCheck (s : State) (mv : Movement) (p : PocketNo) : Option Status :=
  let k := s.pocket p
  if (s.attributeOf p).permits mv = false then some .drawerDenies
  else if k.claim.isSome then some .busy
  else if mv = .clearOut then
    if k.fault = .unknownItem ∧ k.sensor = .present ∧ k.content = none then none else some .wrongState
  else if k.stocked then none else some .notStocked

/-- There is room for one more request, started or queued (R36). -/
def State.cribHasRoom (s : State) : Bool :=
  s.budgetCount < s.crib.lockBudget || s.queuedCount < Config.maxQueued

/-- A request that passed the checks: numbered, its pocket claimed, OPENING or QUEUED (R36). Gives its number. -/
def State.placeRequest (mv : Movement) (p : PocketNo) (tool : Option Nat) (owner : Owner) (s : State) : State × Nat :=
  let num := freeNumber s.crib.requests (s.crib.requests.length + 1) s.crib.nextNumber
  let starts := s.budgetCount < s.crib.lockBudget
  let r : Request :=
    { number := num, movement := mv, pocket := p, tool := tool, owner := owner
      state := if starts then .opening else .queued, window := none, outcome := none }
  let t := (s.modCrib fun c => { c with requests := c.requests ++ [r], nextNumber := succNumber num }).modPocket p
    fun k => { k with claim := some num }
  (if starts then t.sendUnlock p else t, num)

/-- What an unlock request answers: its number and pocket, or the refusal of R36. -/
inductive RequestAnswer
  | made (number : Nat) (pocket : PocketNo)
  | denied (status : Status)
  deriving DecidableEq, Repr

/-- A removal request on a pocket (R36). -/
def State.requestRemoval (mv : Movement) (p : PocketNo) (owner : Owner) (s : State) : State × RequestAnswer :=
  match s.removalCheck mv p with
  | some st => (s, .denied st)
  | none =>
    if s.cribHasRoom then
      let (t, num) := s.placeRequest mv p none owner
      (t, .made num p)
    else (s, .denied .cribBusy)

/-- An insertion request that carries a tool; the Crib Controller chooses the pocket (R33, R34, R36). -/
def State.requestInsertion (mv : Movement) (tool : Nat) (owner : Owner) (s : State) : State × RequestAnswer :=
  let home := (s.findTool tool).bind (·.home)
  match (if mv = .store then s.storePocket home else s.returnPocket) with
  | none => (s, .denied .noRoom)
  | some p =>
    if s.cribHasRoom then
      let (t, num) := s.placeRequest mv p (some tool) owner
      (t, .made num p)
    else (s, .denied .cribBusy)

/-- The oldest queued request whose drawer permits its movement (R37). -/
def State.nextToStart (s : State) : Option Request :=
  s.crib.requests.find? fun r => r.state == .queued && (s.attributeOf r.pocket).permits r.movement

/-- One queued request started when the count is below the budget (R37). -/
def State.startOne (s : State) : State :=
  if s.budgetCount < s.crib.lockBudget then
    match s.nextToStart with
    | some r => (s.modRequest r.number fun q => { q with state := .opening }).sendUnlock r.pocket
    | none => s
  else s

/-- A step repeated. -/
def repeatStep (f : State → State) : Nat → State → State
  | 0, s => s
  | n + 1, s => repeatStep f n (f s)

/-- Queued requests started while the count is below the budget, oldest first (R37). -/
def State.startQueued (s : State) : State := repeatStep State.startOne s.queuedCount s

/-- An owner's cancel of its request (R43). Answers whether CANCELLED is delivered. -/
def State.cancelRequest (num : Nat) (s : State) : State × Bool :=
  match s.findRequest num with
  | none => (s, false)
  | some r =>
    match r.state with
    | .queued => (s.endRequest r, true)
    | .opening | .opened =>
      ((s.modRequest num fun q => { q with state := .closing, window := none, outcome := some .cancelled }).sendRelock
        r.pocket, true)
    | .closing | .ended => (s, false)

/-! ## Reports and checks of the Crib Controller -/

/-- The record of a tool number is CLAIMED. -/
def State.isClaimed (s : State) (tool : Option Nat) : Bool :=
  ((tool.bind s.findTool).map (·.state == .claimed)).getD false

/-- The issue an owner is, if any. -/
def Owner.issueId : Owner → Option Nat
  | .issue id => some id
  | .slot _ => none

/-- The issue that a POCKET_FAULT concerns: the owner of the request at the pocket, else the claim of the tool (log 17). -/
def State.owningIssue (s : State) (tool : Option Nat) (r : Option Request) : Nat :=
  let ofRequest := r.bind fun r => r.owner.issueId
  let ofTool := (tool.bind s.findTool).bind fun x => x.claim.bind Owner.issueId
  (ofRequest.orElse fun _ => ofTool).getD 0xFF

/-- A POCKET_FAULT report (R198): reason, tool and the lock at the event, with the request if any. -/
def State.pocketFaultReport (s : State) (reason : PocketFault) (p : PocketNo) (lock : Lock) (tool : Option Nat)
    (r : Option Request) : Report :=
  { Report.blank .pocketFault with
    tool := tool.getD 0, issue := s.owningIssue tool r, code := reason.code, bit2 := s.isClaimed tool
    detail := .plain (le 2 p.val ++ le 1 lock.code ++ le 2 ((r.map (·.number)).getD 0) ++
      le 1 ((r.map (·.movement.code)).getD 0xFF)) }

/-- The answer of the Crib Controller to START_SERVICE: a refusal with the lowest pocket concerned (R47). -/
def State.startServiceCheck (s : State) : Option (Status × PocketNo) :=
  match (s.pocketsWhere fun _ k => k.mismatch).head? with
  | some p => some (.mapMismatch, p)
  | none => ((s.pocketsWhere fun _ k => k.away || k.fault != .clear).head?).map fun p => (.faultPresent, p)

end Sys2Proof.Machine
end

