-- ==== Sys2Proof/Machine/LinkOps.lean ====
section
/-! DEFINITION. The shared operations of the Cell Link Controller: queues, grants, recalls, the end of exchanges, tries, standing
and cut-off, link state (R88 to R106, R113 to R118). Outcomes are handed to the owners by Deliver.lean. -/

namespace Sys2Proof.Machine

/-! ## Cells and their queues -/

/-- A cell record. -/
def State.cell (s : State) (c : CellNo) : Cell := s.link.cells.get c

/-- A cell record changed. -/
def State.modCell (c : CellNo) (f : Cell → Cell) (s : State) : State :=
  s.modLink fun l => { l with cells := l.cells.set c.1 (f (l.cells.get c)) c.2 }

/-- The exchange in flight (R93). -/
def Cell.inFlight (c : Cell) : Option Exchange := c.queue.find? fun e => e.step == .inFlight

/-- The head: the first exchange whose step is QUEUED (R96). -/
def Cell.head (c : Cell) : Option Exchange := c.queue.find? fun e => e.step == .queued

/-- A POLL (R93). -/
def Exchange.isPoll (e : Exchange) : Bool := e.payload == .poll

/-- The exchange in flight changed. -/
def Cell.modInFlight (f : Exchange → Exchange) (c : Cell) : Cell :=
  { c with queue := c.queue.map fun e => if e.step = .inFlight then f e else e }

/-- The exchange in flight removed. -/
def Cell.dropInFlight (c : Cell) : Cell := { c with queue := c.queue.filter fun e => e.step != .inFlight }

/-- An exchange in its queue place: behind lower classes and behind the exchanges of its class (R94, log 21). -/
def insertExchange (e : Exchange) : List Exchange → List Exchange
  | [] => [e]
  | x :: xs => if x.payload.cls ≤ e.payload.cls then x :: insertExchange e xs else e :: x :: xs

/-- An answer is expected (R93). -/
def Payload.expectsAnswer : Payload → Bool
  | .dataOffer .. | .withdraw .. | .poll => true
  | .lifeEnd _ | .deny .. => false

/-! ## Transmit buffers (R96) -/

/-- The attempt under way, if it is on this buffer. -/
def State.onLine (s : State) (b : Nat) : Bool := s.link.attempt.any fun a => a.buffer == b

/-- A buffer held by an exchange in flight or by an attempt that has not ended (R89, R96). -/
def State.bufferBusy (s : State) (b : Nat) : Bool :=
  s.onLine b || s.link.cells.toList.any fun c => c.queue.any fun e => e.buffer == some b

/-- The lowest empty one of buffers 2..7. -/
def State.emptyBuffer (s : State) : Option Nat := [2, 3, 4, 5, 6, 7].find? fun b => !s.bufferBusy b

/-- The head of a cell that is eligible: no exchange in flight (R96). -/
def Cell.eligibleHead (c : Cell) : Option Exchange := if c.inFlight.isSome then none else c.head

/-- The first of a list that no later entry betters. -/
def bestBy {α : Type} (better : α → α → Bool) : List α → Option α
  | [] => none
  | x :: xs => match bestBy better xs with
    | none => some x
    | some y => if better y x then some y else some x

/-- The eligible cells whose head is of classes 0..2, or whose head is a POLL, in address order. -/
def State.candidates (s : State) (poll : Bool) : List (CellNo × Exchange) :=
  (List.finRange 24).filterMap fun c =>
    ((s.cell c).eligibleHead.filter fun e => e.isPoll == poll).map fun e => (c, e)

/-- The cell that the next of buffers 2..7 goes to: lowest class, oldest last grant, lowest address (R96, R192). -/
def State.nextGrant (s : State) : Option CellNo :=
  (bestBy (fun (a b : CellNo × Exchange) =>
    a.2.payload.cls < b.2.payload.cls ||
      (a.2.payload.cls == b.2.payload.cls &&
        age s.clock (s.cell b.1).lastGrant < age s.clock (s.cell a.1).lastGrant)) (s.candidates false)).map (·.1)

/-- The cell that buffer 1 goes to: the POLL with the oldest queue stamp, lowest address (R96). -/
def State.nextPoll (s : State) : Option CellNo :=
  (bestBy (fun (a b : CellNo × Exchange) => age s.clock b.2.stamp < age s.clock a.2.stamp) (s.candidates true)).map
    (·.1)

/-- The first QUEUED exchange of a queue changed. -/
def modHead (f : Exchange → Exchange) : List Exchange → List Exchange
  | [] => []
  | e :: es => if e.step = .queued then f e :: es else e :: modHead f es

/-- A head granted a buffer: IN_FLIGHT, and its next try begins, counted once; the first try after an OFF period begins with
tries used as it stood (R96, R97, R105, log 23). -/
def Exchange.granted (b : Nat) (e : Exchange) : Exchange :=
  { e with
    step := .inFlight, buffer := some b, window := none, resumes := false
    triesUsed := if e.resumes then e.triesUsed else min 16 (e.triesUsed + 1) }

/-- One of buffers 2..7 granted, if one is empty and a cell is eligible. -/
def State.grantOne (s : State) : State :=
  match s.emptyBuffer, s.nextGrant with
  | some b, some c =>
    s.modCell c fun x => { x with queue := modHead (Exchange.granted b) x.queue, lastGrant := s.clock }
  | _, _ => s

/-- Buffer 1 granted, if it is empty and a POLL is eligible. -/
def State.grantPoll (s : State) : State :=
  if s.bufferBusy 1 then s
  else match s.nextPoll with
    | some c => s.modCell c fun x => { x with queue := modHead (Exchange.granted 1) x.queue }
    | none => s

/-- The grant rule: every empty buffer granted while a cell is eligible; none while the link is OFF (R96, R104). -/
def State.grantBuffers (s : State) : State :=
  if s.link.state = .off then s
  else s.grantOne.grantOne.grantOne.grantOne.grantOne.grantOne.grantPoll

/-! ## Queueing and recall (R94, R95) -/

/-- Why an exchange is not queued (R94). -/
inductive QueueRefusal
  | queueFull | cutOff
  deriving DecidableEq, Repr

/-- The check of R94. -/
def Cell.queueCheck (x : Cell) (p : Payload) : Option QueueRefusal :=
  if Config.maxExchanges ≤ x.queue.length then some .queueFull
  else if x.standing = .cutOff ∧ p ≠ .poll then some .cutOff
  else none

/-- An exchange as it is queued (R94). -/
def State.newExchange (s : State) (p : Payload) (owner : ExchangeOwner) : Exchange :=
  { payload := p, owner := owner, triesAllowed := s.link.retryLimit + 1, triesUsed := 0, acknowledged := false
    deferrals := 0, deferralTimer := none, stamp := s.clock, buffer := none, window := none, step := .queued
    resumes := false }

/-- An exchange queued for a cell, or refused (R94); a cell that becomes eligible is granted an empty buffer (R96). -/
def State.queueExchange (c : CellNo) (p : Payload) (owner : ExchangeOwner) (s : State) : State × Option QueueRefusal :=
  match (s.cell c).queueCheck p with
  | some r => (s, some r)
  | none =>
    ((s.modCell c fun x => { x with queue := insertExchange (s.newExchange p owner) x.queue }).grantBuffers, none)

/-- A DENY queued for a cell (R131, R141, R145, R156, R157). Answers whether it was queued. -/
def State.queueDeny (c : CellNo) (ref : RefKind) (value : Nat) (reason : Reason) (owner : ExchangeOwner) (s : State) :
    State × Bool :=
  let (t, refusal) := s.queueExchange c (.deny ref value reason) owner
  (t, refusal.isNone)

/-- The answer to a recall (R95). -/
inductive RecallAnswer
  | recalled (acknowledged : Bool) (tries deferrals : Nat)
  | inFlight
  deriving DecidableEq, Repr

/-- An owner's recall of its exchange toward a cell (R95). One that is no longer there is answered IN_FLIGHT; no owner asks
for such a one (log 34). -/
def State.recall (c : CellNo) (owner : ExchangeOwner) (s : State) : State × RecallAnswer :=
  match (s.cell c).queue.find? fun e => e.owner == owner with
  | none => (s, .inFlight)
  | some e =>
    if e.step = .inFlight then (s, .inFlight)
    else ((s.modCell c fun x => { x with queue := x.queue.filter fun e => e.owner != owner }).grantBuffers,
      .recalled e.acknowledged e.triesUsed e.deferrals)

/-! ## Ends of exchanges (R93) -/

/-- Causes of DROPPED (R93). -/
inductive DropCause
  | cutOff | linkRestart
  deriving DecidableEq, Repr

/-- Reasons of a DATA_REFUSED (R86). -/
inductive RefusalReason
  | slotBusy | outOfRange | notNow
  deriving DecidableEq, Repr

/-- Outcomes of an exchange (R93). ANSWERED and REFUSED carry the payload of the answer, empty for the acknowledged try that
ends a LIFE_END or DENY, and REFUSED its reason. -/
inductive ExchangeOutcome
  | answered (answer : List Byte)
  | refused (reason : RefusalReason) (answer : List Byte)
  | noAck
  | noAnswer
  | dropped (cause : DropCause)
  deriving DecidableEq, Repr

/-- What is handed to the owner of an exchange, or to the blocks that a cut-off concerns (R93, R99, R116). -/
inductive LinkEvent
  | ended (cell : CellNo) (e : Exchange) (outcome : ExchangeOutcome)
  | deferred (cell : CellNo) (e : Exchange)
  | cutOff (cell : CellNo)
  deriving DecidableEq, Repr

/-- The attempt of the exchange in flight of a cell runs on without it (R89). -/
def State.detachAttempt (c : CellNo) (s : State) : State :=
  s.modLink fun l =>
    { l with attempt := l.attempt.map fun a =>
        if (a.exchange.map (·.1)) = some c then { a with attached := false } else a }

/-- The exchange in flight of a cell removed from its queue, and its buffer granted anew (R93, R96). -/
def State.removeInFlight (c : CellNo) (s : State) : State :=
  ((s.modCell c Cell.dropInFlight).detachAttempt c).grantBuffers

/-- The exchange in flight of a cell ends with an outcome (R93). -/
def State.endInFlight (c : CellNo) (outcome : ExchangeOutcome) (s : State) : State × List LinkEvent :=
  match (s.cell c).inFlight with
  | none => (s, [])
  | some e => (s.removeInFlight c, [.ended c e outcome])

/-! ## Standing (R113 to R118) -/

/-- Causes of CELL_STANDING (R198). -/
inductive StandingCause
  | countRise | countFall | pollRecovery | restore | linkRestart
  deriving DecidableEq, Repr

/-- Cause codes (R198). -/
def StandingCause.code : StandingCause → Nat
  | .countRise => 1 | .countFall => 2 | .pollRecovery => 3 | .restore => 4 | .linkRestart => 5

/-- A CELL_STANDING report of a change already made (R115, R198). -/
def State.standingReport (s : State) (c : CellNo) (former : Standing) (cause : StandingCause) : Report :=
  let x := s.cell c
  { Report.blank .cellStanding with
    cell := addr c, code := cause.code
    detail := .plain (le 1 former.code ++ le 1 x.standing.code ++ le 2 x.faultCount ++ le 1 x.answers) }

/-- The standing that follows a fault count (R115). -/
def standingFor (st : Standing) (count : Nat) : Standing :=
  match st with
  | .cutOff => .cutOff
  | .good => if 256 ≤ count then .cutOff else if 96 ≤ count then .weak else .good
  | .weak => if 256 ≤ count then .cutOff else if count < 64 then .good else .weak

/-- A fault count stored, and the standing made to follow it, with its report (R113, R115). -/
def State.setCount (c : CellNo) (count : Nat) (cause : StandingCause) (s : State) : State :=
  let former := (s.cell c).standing
  let now := standingFor former count
  let t := s.modCell c fun x =>
    { x with faultCount := count, standing := now, answers := if now ≠ former ∧ now = .cutOff then 0 else x.answers }
  if now = former then t else t.handReport (t.standingReport c former cause)

/-- An acknowledged try of a LIFE_END or DENY, or a matched answer (R113). -/
def State.countSuccess (c : CellNo) (s : State) : State :=
  let x := s.cell c
  if x.standing = .cutOff then s else s.setCount c (x.faultCount - 1) .countFall

/-- A failed try (R113, R114). -/
def State.countFailure (c : CellNo) (poll : Bool) (s : State) : State :=
  let t := if poll then s.modCell c fun x => { x with answers := 0 } else s
  let x := t.cell c
  if x.standing = .cutOff then t else t.setCount c (min 256 (x.faultCount + 8)) .countRise

/-- A cell returned to GOOD with its counts at 0, and the report (R106, R118, R119). -/
def State.makeGood (c : CellNo) (cause : StandingCause) (s : State) : State :=
  let former := (s.cell c).standing
  let t := s.modCell c fun x => { x with standing := .good, faultCount := 0, answers := 0 }
  if former = .good then t else t.handReport (t.standingReport c former cause)

/-- The work of a cell taken back at its fall to CUT_OFF: the exchange in flight leaves flight, every exchange but POLLs is
removed, then the notice (R116). -/
def State.takeBack (c : CellNo) (s : State) : State × List LinkEvent :=
  let lost := (s.cell c).queue.filter fun e => !e.isPoll
  let t := s.modCell c fun x => { x with queue := x.queue.filter Exchange.isPoll }
  let t := if lost.any (fun e => e.step == .inFlight) then t.detachAttempt c else t
  (t.grantBuffers, lost.map (fun e => .ended c e (.dropped .cutOff)) ++ [.cutOff c])

/-! ## Tries (R97) -/

/-- The next try of the exchange in flight begins in its buffer (R97). -/
def State.retry (c : CellNo) (s : State) : State :=
  s.modCell c (Cell.modInFlight fun e => { e with triesUsed := min 16 (e.triesUsed + 1), window := none })

/-- A failed try of the exchange in flight of a cell that is not cut off by it: the next try, or the end (R97). -/
def State.afterFailure (c : CellNo) (s : State) : State × List LinkEvent :=
  match (s.cell c).inFlight with
  | none => (s, [])
  | some e =>
    if e.triesUsed < e.triesAllowed then (s.retry c, [])
    else s.endInFlight c (if e.acknowledged then .noAnswer else .noAck)

/-- A failed try of the exchange in flight of a cell: standing first, then a cut-off with its effects, then the next try or
the end (R97, R113, R116). -/
def State.failedTry (c : CellNo) (s : State) : State × List LinkEvent :=
  match (s.cell c).inFlight with
  | none => (s, [])
  | some e =>
    let t := (s.modCell c (Cell.modInFlight fun e => { e with window := none })).countFailure c e.isPoll
    if (s.cell c).standing ≠ .cutOff ∧ (t.cell c).standing = .cutOff then
      let (u, events) := t.takeBack c
      if e.isPoll then
        let (v, more) := u.afterFailure c
        (v, events ++ more)
      else (u, events)
    else t.afterFailure c

/-- A matched answer that ends the exchange in flight of a cell (R97, R98): the success counted, then the end. -/
def State.answerEnds (c : CellNo) (outcome : ExchangeOutcome) (s : State) : State × List LinkEvent :=
  ((s.modCell c (Cell.modInFlight fun e => { e with acknowledged := true, window := none })).countSuccess c).endInFlight
    c outcome

/-- A deferral of the offer in flight of a cell, by this answer; the ninth ends it REFUSED with NOT_NOW (R99). -/
def State.deferOffer (c : CellNo) (answer : List Byte) (s : State) : State × List LinkEvent :=
  match (s.cell c).inFlight with
  | none => (s, [])
  | some e =>
    if 8 ≤ e.deferrals then
      let t := s.modCell c (Cell.modInFlight fun e => { e with triesUsed := e.triesUsed - 1 })
      t.answerEnds c (.refused .notNow answer)
    else
      let d : Exchange :=
        { e with
          acknowledged := true, triesUsed := e.triesUsed - 1, deferrals := e.deferrals + 1, step := .deferred
          buffer := none, window := none, deferralTimer := some s.link.deferralDelay }
      let t := (s.countSuccess c).modCell c (Cell.modInFlight fun _ => d)
      ((t.detachAttempt c).grantBuffers, [.deferred c d])

/-! ## Link state (R103 to R105) -/

/-- Causes of LINK_STATE (R198). -/
inductive LinkCause
  | transmitErrors | idleRecovery | linkRestart
  deriving DecidableEq, Repr

/-- Cause codes (R198). -/
def LinkCause.code : LinkCause → Nat
  | .transmitErrors => 1 | .idleRecovery => 2 | .linkRestart => 3

/-- A LINK_STATE report of a change already made (R103, R198; the count of a return to ACTIVE is 0, log 19). -/
def State.linkReport (s : State) (cause : LinkCause) : Report :=
  { Report.blank .linkState with
    code := cause.code
    detail := .plain (le 1 (if s.link.state = .off then 1 else 0) ++ le 2 s.link.errors) }

/-- An exchange returned to its queue place by the link going OFF, its try to be resumed (R104, R105). -/
def Exchange.unflown (e : Exchange) : Exchange :=
  if e.step = .inFlight then { e with step := .queued, buffer := none, window := none, resumes := true } else e

/-- Entry into OFF (R104). -/
def State.enterOff (s : State) : State :=
  let t := s.modLink fun l =>
    { l with
      state := .off, idle := 0, attempt := none, slotDriven := false, next0 := none
      buffer0 := l.next0.orElse fun _ => l.buffer0
      cells := mapVec (fun x => { x with queue := x.queue.map Exchange.unflown }) l.cells }
  t.handReport (t.linkReport .transmitErrors)

end Sys2Proof.Machine
end

