-- ==== Sys2Proof/Machine/Operands.lean ====
section
/-! DEFINITION. The operand forms of the orders: fields of the parameters (R175, R176), and the checks at taking (R179, R183). -/

namespace Sys2Proof.Machine

/-! ## Parameter fields -/

/-- A parameter byte; the bytes that the image does not give are 0. -/
def paramByte (img : SlotImage) (i : Nat) : Nat := (img.params.getD i 0).toNat

/-- A 1-byte field at an offset from 10h. -/
def par1 (img : SlotImage) (i : Nat) : Nat := paramByte img i
/-- A 2-byte field (R175). -/
def par2 (img : SlotImage) (i : Nat) : Nat := paramByte img i + 256 * paramByte img (i + 1)
/-- A 4-byte field (R175). -/
def par4 (img : SlotImage) (i : Nat) : Nat := par2 img i + 65536 * par2 img (i + 2)
/-- A signed 4-byte field (R176). -/
def parInt (img : SlotImage) (i : Nat) : Int := (BitVec.ofNat 32 (par4 img i)).toInt
/-- A flag: any value but 0 is yes (log 12). -/
def parFlag (img : SlotImage) (i : Nat) : Bool := par1 img i != 0

/-- A field used when its bit of a presence mask is set (R176). -/
def optPar {α : Type} (mask bit : Nat) (v : α) : Option α := if mask.testBit bit then some v else none

/-- The member of an indexed collection that a field names. -/
def asFin (n v : Nat) : Option (Fin n) := if h : v < n then some ⟨v, h⟩ else none

/-- The cell that an address names, 1..24 (R84). -/
def asCell (a : Nat) : Option CellNo := if a = 0 then none else asFin 24 (a - 1)

/-- A magazine slot lies in 1..240 (R1). -/
def goodSlot (m : Nat) : Bool := 1 ≤ m && m ≤ 240

/-- A tool number lies in 1..65535 (R1); the field holds no more. -/
def goodTool (t : Nat) : Bool := t != 0

/-- A life unit code (R176). -/
def asUnit : Nat → Option LifeUnit
  | 0 => some .minutes | 1 => some .cuts | _ => none

/-- A drawer attribute code (R176). -/
def asAttribute : Nat → Option Attribute
  | 0 => some .openAll | 1 => some .issueOnly | 2 => some .returnOnly | 3 => some .closed | _ => none

/-- A warn percent: 50..99, or 0 for 90 (R10, R19). -/
def asPercent (v : Nat) : Option Nat := if v = 0 then some 90 else if 50 ≤ v ∧ v ≤ 99 then some v else none

/-- An axis set code: 1 Z, 2 X, 3 both (R52, R176). -/
def asAxisSet : Nat → Option AxisSet
  | 1 => some ⟨true, false⟩ | 2 => some ⟨false, true⟩ | 3 => some ⟨true, true⟩ | _ => none

/-! ## The checks at taking (R179) -/

/-- The buffer of R183: inside 2000h..FFFFh, and at least 256 bytes for MEASURE and CALIBRATE. -/
def bufferAccepted (k : OrderKind) (img : SlotImage) : Bool :=
  0x2000 ≤ img.bufOffset.toNat && img.bufOffset.toNat + img.bufLength.toNat ≤ 0x10000 &&
    (match k with | .measure | .calibrate => 256 ≤ img.bufLength.toNat | _ => true)

/-- The kinds that name a buffer (R179). -/
def OrderKind.usesBuffer : OrderKind → Bool
  | .find | .scan | .measure | .calibrate => true
  | _ => false

/-- The first check of R179 that fails, after the kind. -/
def takingCheck (k : OrderKind) (img : SlotImage) (st : ServiceState) : Option Status :=
  if img.flags ≠ 0 then some .badParam
  else if k.takenIn st = false then some .wrongState
  else if k.usesBuffer = true ∧ bufferAccepted k img = false then some .badBuffer
  else none

/-- The context that a slot read creates (R179, R180). -/
def newContext (kind : Nat) (img : SlotImage) : Context :=
  { kind := kind, tag := img.tag, bufOffset := img.bufOffset, bufLength := img.bufLength, long := false, work := .idle
    output := none }

/-- The slot read completes: the slot becomes TAKEN with its context, and the port is free (R174, R179). -/
def State.taken (n : SlotNo) (kind : Nat) (img : SlotImage) (s : State) : State :=
  (s.setSlot n { state := .taken, context := some (newContext kind img) }).modOrder fun o => { o with series := none }

/-- An order taken by the slot read under way: the checks of R179, then the work of the kind. The arrival of an order while no
slot read is under way is no event (log 1). A refusal by the checks of R179 has every result field 0, the axes of a HOME too,
the model's choice (log 57). -/
def State.takeOrder (k : OrderKind) (img : SlotImage) (work : SlotNo → State → State) (s : State) : State :=
  match s.order.series with
  | some (.slotRead n) =>
    let t := s.taken n k.code img
    (match takingCheck k img s.order.service with
    | some status => t.refuse n status
    | none => work n t).settle
  | _ => s

end Sys2Proof.Machine
end

