-- ==== Sys2Proof/Machine/IssueOps.lean ====
section
/-! DEFINITION. The shared operations of the Issue Manager: the issue list, acceptance, selection, opening, withdrawal, close and
cancel (R121, R122, R124 to R150). -/

namespace Sys2Proof.Machine

/-! ## The issue list (R124) -/

/-- An issue record. -/
def State.issueRec (s : State) (i : IssueNo) : IssueRecord := s.issues.records.get i

/-- The id of an issue: index times 8 plus generation (R124). -/
def issueIdOf (i : IssueNo) (g : Fin 8) : Nat := 8 * i.val + g.val

/-- The index of the open issue with an id (R124). -/
def State.openIndex (s : State) (id : Nat) : Option IssueNo :=
  (asFin 32 (id / 8)).filter fun i =>
    (s.issueRec i).generation.val == id % 8 && (s.issueRec i).issue.isSome

/-- An open issue changed. -/
def State.modIssue (i : IssueNo) (f : Issue → Issue) (s : State) : State :=
  s.modIssues fun m =>
    { m with records := m.records.set i.1 { m.records.get i with issue := (m.records.get i).issue.map f } i.2 }

/-- The open issues with their indexes, in index order. -/
def State.openIssues (s : State) : List (IssueNo × Issue) :=
  (List.finRange 32).filterMap fun i => (s.issueRec i).issue.map fun x => (i, x)

/-- The generation after a close (R124). -/
def advanceGeneration (i : IssueNo) (g : Fin 8) : Fin 8 := if i.val = 31 ∧ g.val = 6 then 0 else g + 1

/-- The owner that an issue is toward the link and the crib. -/
def State.issueId (s : State) (i : IssueNo) : Nat := issueIdOf i (s.issueRec i).generation

/-! ## Rights (R121, R122) -/

/-- The three permissions as they are asked for. -/
inductive Permission
  | byNumber | byClass | returnTool
  deriving DecidableEq, Repr

/-- A permission set grants a permission. -/
def Perms.grants (p : Perms) : Permission → Bool
  | .byNumber => p.byNumber
  | .byClass => p.byClass
  | .returnTool => p.returnTool

/-- An entry's cell set holds a cell (R121). -/
def Right.hasCell (r : Right) (c : CellNo) : Bool := r.cells.getLsbD c.val

/-- The class agrees with the class value in every bit of the class mask (R121). -/
def Right.hasClass (r : Right) (k : Nat) : Bool := (BitVec.ofNat 8 k ^^^ r.value) &&& r.mask == 0

/-- A cell frame is allowed: some enabled entry matches and grants (R121); with no class, for any class (R122). -/
def State.allowed (s : State) (c : CellNo) (k : Option Nat) (p : Permission) : Bool :=
  s.link.rights.toList.any fun r =>
    r.enabled && r.hasCell c && (match k with | some k => r.hasClass k | none => true) && r.perms.grants p

/-! ## Acceptance (R128 to R130) -/

/-- A request for an issue: a cell frame or an ISSUE order (R128). -/
structure Ask where
  cell    : CellNo
  slot    : Nat
  origin  : Origin
  byClass : Option Nat
  tool    : Nat
  deriving DecidableEq, Repr

/-- A request of a cell, which checks 1 and 4 of R128 apply to. -/
def Ask.fromCell (a : Ask) : Bool :=
  match a.origin with
  | .cell _ => true
  | .order _ => false

/-- The request is allowed by the rights table, with the class of R122 (R128, check 4). -/
def State.askAllowed (s : State) (a : Ask) : Bool :=
  match a.byClass with
  | some k => s.allowed a.cell (some k) .byClass
  | none => s.allowed a.cell ((s.findTool a.tool).map (·.cls)) .byNumber

/-- Open issues of a cell (R125, R128). -/
def State.openCount (s : State) (c : CellNo) : Nat := s.openIssues.countP fun p => p.2.cell == c

/-- The lowest free issue record (R124). -/
def State.freeIssue (s : State) : Option IssueNo := (indices fun i => (s.issueRec i).issue.isNone).head?

/-- A pocket holds a tool that may be issued: stocked, unclaimed, in a drawer that permits ISSUE_PICK (R129). -/
def State.issuable (s : State) (p : PocketNo) : Bool :=
  (s.pocket p).stocked && (s.pocket p).claim.isNone && (s.attributeOf p).permits .issuePick

/-- The pocket that a record is in (R6). -/
def Tool.pocket? (x : Tool) : Option PocketNo :=
  match x.location with
  | .pocket p => some p
  | _ => none

/-- Checks 1 to 9 of R128, in order; a host order skips checks 1 and 4 (R132). -/
def State.acceptCheck (s : State) (a : Ask) : Option Reason :=
  let c := s.cell a.cell
  if a.fromCell = true ∧ s.inService = false then some .notInService
  else if c.enabled = false then some .cellDisabled
  else if c.standing = .weak then some .cellWeak
  else if c.standing = .cutOff then some .cellCutOff
  else if a.fromCell = true ∧ s.askAllowed a = false then some .noRight
  else if ¬ (1 ≤ a.slot ∧ a.slot ≤ c.magSize) then some .badSlot
  else if s.freeIssue = none then some .issueListFull
  else if c.issueLimit ≤ s.openCount a.cell then some .cellLimit
  else if s.openIssues.any (fun p => p.2.cell == a.cell && p.2.slot == a.slot) then some .slotPending
  else if s.tools.any (fun x => x.occupies a.cell a.slot) then some .slotOccupied
  else none

/-- Selection by number (R129). -/
def State.selectByNumber (s : State) (t : Nat) : Except Reason Nat :=
  match s.findTool t with
  | none => .error .unknownTool
  | some x =>
    if x.state = .claimed then .error .busy
    else if x.state ≠ .ready then .error .notReady
    else if (x.pocket?.map s.issuable).getD false then .ok t
    else .error .notStocked

/-- Life remaining (R130). -/
def Tool.remaining (x : Tool) : Nat := x.lifeLimit - x.lifeUsed

/-- Selection by class: the greatest life remaining, then the lowest number (R130). -/
def State.selectByClass (s : State) (k : Nat) : Except Reason Nat :=
  let fits := s.tools.filter fun x =>
    k != 0 && x.cls == k && x.state == .ready && (x.pocket?.map s.issuable).getD false
  match bestBy (fun a b => b.remaining < a.remaining) fits with
  | some x => .ok x.number
  | none => .error .noneReady

/-- The tool that a request gets (R128, check 10). -/
def State.selectTool (s : State) (a : Ask) : Except Reason Nat :=
  match a.byClass with
  | some k => s.selectByClass k
  | none => s.selectByNumber a.tool

/-! ## The close (R143, R144) -/

/-- The age of a stamp at the close, in units of 100 ms (R198). -/
def closeAge (closed : Stamp) : Option Stamp → Nat
  | none => 0xFFFF
  | some t => min 0xFFFE (age closed t / 100)

/-- The origin of an issue: its kind, then its slot or request reference (R144, R176). -/
def Origin.bytes : Origin → List Byte
  | .order n => le 1 0 ++ le 1 n.val
  | .cell ref => le 1 1 ++ le 1 ref

/-- A stamp that may be absent (R176). -/
def stampField (t : Option Stamp) : List Byte := optField 4 (t.map fun t => le 4 t.toNat)

/-- The four stamps of an issue. -/
def Issue.stamps (x : Issue) : List (Option Stamp) := [x.opened, x.unlocked, x.removed, x.closed]

/-- State and location of a tool after a release; zeros where no record exists (log 34). -/
def State.toolAfter (s : State) (t : Nat) : List Byte :=
  match s.findTool t with
  | some y => le 1 y.state.code ++ locationField y.location
  | none => le 4 0

/-- The result of an ISSUE order (R144; layout log 11). -/
def State.issueResult (s : State) (id : Nat) (x : Issue) : List Byte :=
  le 1 (presence (x.stamps.map (·.isSome))) ++ le 1 id ++ x.origin.bytes ++ le 1 (addr x.cell) ++ le 1 x.slot ++
    le 2 x.tool ++ flag x.byClass.isSome ++ le 1 (x.byClass.getD 0) ++ le 2 x.pocket.val ++ le 1 x.offer.code ++
    le 1 x.withdraw.code ++ le 1 x.tries ++ le 1 x.deferrals ++ le 2 x.losses ++ x.stamps.flatMap stampField ++
    s.toolAfter x.tool

/-- An ISSUE_CLOSED report (R144, R198). -/
def State.issueClosedReport (s : State) (id : Nat) (x : Issue) (ref : Nat) (result : Status) : Report :=
  { Report.blank .issueClosed with
    cell := addr x.cell, issue := id, tool := x.tool, code := result.code
    detail := .plain (le 1 x.slot ++ le 1 ref ++ le 1 (x.byClass.getD 0) ++
      le 1 (((s.findTool x.tool).map (·.state.code)).getD 0) ++ le 2 x.pocket.val ++
      le 1 (x.offer.code + 4 * x.withdraw.code) ++ le 1 x.tries ++ le 1 x.deferrals ++ le 1 (min 255 x.losses) ++
      le 2 (closeAge s.clock x.opened) ++ le 2 (closeAge s.clock x.unlocked) ++ le 2 (closeAge s.clock x.removed)) }

/-- One more issue of a tool (R2). -/
def Tool.countIssue (x : Tool) : Tool := { x with issueCount := min 65535 (x.issueCount + 1) }

/-- The release at a close: OUT at the cell for MOUNTED, ASTRAY at LOOSE for ASTRAY, READY otherwise (R143). -/
def closeRelease (x : Issue) (result : Status) (y : Tool) : Tool :=
  match result with
  | .mounted => (y.release false .out (.cell x.cell x.slot)).countIssue
  | .astray => y.release false .astray .loose
  | _ => y.release false .ready y.location

/-- The record freed, its generation advanced (R143). -/
def State.freeRecord (i : IssueNo) (s : State) : State :=
  s.modIssues fun m =>
    { m with records :=
        m.records.set i.1 { generation := advanceGeneration i (m.records.get i).generation, issue := none } i.2 }

/-- A close with a result (R143): the closed stamp, the claim released, the close handed to its origin, the record freed. -/
def State.closeIssue (i : IssueNo) (result : Status) (s : State) : State :=
  match (s.issueRec i).issue with
  | none => s
  | some x =>
    let x := { x with closed := some s.clock }
    let id := s.issueId i
    let t := s.modTool x.tool (closeRelease x result)
    let u := match x.origin with
      | .order n => t.complete n result (t.issueResult id x)
      | .cell ref => t.handReport (t.issueClosedReport id x ref result)
    u.freeRecord i

/-- A failure result recorded; the first stays (R143). -/
def Issue.fail (st : Status) (x : Issue) : Issue := { x with failure := some (x.failure.getD st) }

/-- A close with the failure result recorded, or with this one (R143). -/
def State.closeFailed (i : IssueNo) (st : Status) (withdraw : WithdrawStatus) (s : State) : State :=
  let result := ((s.issueRec i).issue.bind (·.failure)).getD st
  (s.modIssue i fun x => { x with withdraw := withdraw, failure := some result }).closeIssue i result

/-! ## Withdrawal (R142) -/

/-- WITHDRAWING entered with a failure result: a WITHDRAW queued, or the issue closed UNCONFIRMED (R142). -/
def State.enterWithdrawing (i : IssueNo) (st : Status) (s : State) : State :=
  match (s.issueRec i).issue with
  | none => s
  | some x =>
    let id := s.issueId i
    let t := s.modIssue i fun x => { x.fail st with phase := .withdrawing, request := none }
    let (u, refusal) := t.queueExchange x.cell (.withdraw id x.tool x.slot) (.issue id)
    match refusal with
    | none => u
    | some _ => u.closeFailed i st .unconfirmed

/-! ## Opening (R133) -/

/-- The DATA_OFFER of an issue, fixed from the record (R86, R133). -/
def offerPayload (id : Nat) (slot : Nat) (y : Tool) : Payload :=
  .dataOffer id y.number slot ((y.geometry.map (·.length)).getD 0) ((y.geometry.map (·.radius)).getD 0) y.remaining
    y.lifeUnit

/-- A new issue record (R133). -/
def newIssue (a : Ask) (t : Nat) (p : PocketNo) (now : Stamp) : Issue :=
  { tool := t, cell := a.cell, slot := a.slot, origin := a.origin, byClass := a.byClass, phase := .offerWait
    offer := .notTaken, cancelPending := false, failure := none, pocket := p, request := none, tries := 0
    deferrals := 0, losses := 0, withdraw := .notSent, opened := some now, unlocked := none, removed := none
    closed := none, transit := none }

/-- An issue opened for a selected tool: claim, record, offer; closed at once when the offer cannot be queued (R133). -/
def State.openIssue (a : Ask) (t : Nat) (s : State) : State :=
  match s.freeIssue, s.findTool t with
  | some i, some y =>
    let id := s.issueId i
    let p := y.pocket?.getD 0
    let u := (s.claimTool t (.issue id)).modIssues fun m =>
      { m with records := m.records.set i.1 { m.records.get i with issue := some (newIssue a t p s.clock) } i.2 }
    let u := match a.origin with
      | .order n => u.setWork n (.issue id)
      | .cell _ => u
    let (v, refusal) := u.queueExchange a.cell (offerPayload id a.slot y) (.issue id)
    match refusal with
    | none => v
    | some _ => v.closeFailed i .noAnswer .notSent
  | _, _ => s

/-- A request taken through R128: the state with the issue opened, or the reason of the first check that fails. -/
def State.acceptIssue (a : Ask) (s : State) : Except Reason State :=
  match s.acceptCheck a with
  | some r => .error r
  | none =>
    match s.selectTool a with
    | .error r => .error r
    | .ok t => .ok (s.openIssue a t)

/-! ## Outcomes of the offer and the withdraw (R134 to R136, R142, R147, R149, R150) -/

/-- The failure result of a refused ISSUE_PICK (R136). -/
def pickFailure : Status → Status
  | .drawerDenies => .drawerClosed
  | .cribBusy => .cribBusy
  | _ => .notStocked

/-- The ISSUE_PICK request of an issue whose offer was taken (R136). -/
def State.makePick (i : IssueNo) (s : State) : State :=
  match (s.issueRec i).issue with
  | none => s
  | some x =>
    match s.requestRemoval .issuePick x.pocket (.issue (s.issueId i)) with
    | (t, .made num _) => t.modIssue i fun x => { x with request := some num, phase := .unlockWait }
    | (t, .denied st) => t.enterWithdrawing i (pickFailure st)

/-- The outcome of an issue's offer (R134, R147, R149, R150). -/
def State.offerEnded (i : IssueNo) (e : Exchange) (outcome : ExchangeOutcome) (s : State) : State :=
  let t := s.modIssue i fun x => { x with tries := e.triesUsed, deferrals := e.deferrals }
  let pending := ((s.issueRec i).issue.map (·.cancelPending)).getD false
  let unknown := fun u : State => u.modIssue i fun x => { x with offer := .unknown }
  match outcome with
  | .answered _ =>
    let u := t.modIssue i fun x => { x with offer := .taken }
    if pending then u.enterWithdrawing i .cancelled else u.makePick i
  | .refused .. => t.closeFailed i .refused .notSent
  | .noAck => t.closeFailed i .noAnswer .notSent
  | .noAnswer => (unknown t).enterWithdrawing i .noAnswer
  | .dropped .cutOff =>
    if e.acknowledged then (unknown t).closeFailed i .cellCutOff .unconfirmed
    else t.closeFailed i .cellCutOff .notSent
  | .dropped .linkRestart =>
    if e.acknowledged then (unknown t).enterWithdrawing i .linkRestart
    else t.closeFailed i .linkRestart .notSent

/-- The outcome of an issue's WITHDRAW (R142, R149, R150). The failure result is recorded already. -/
def State.withdrawEnded (i : IssueNo) (outcome : ExchangeOutcome) (s : State) : State :=
  match outcome with
  | .answered _ => s.closeFailed i .cancelled .confirmed
  | .refused .. | .noAck | .noAnswer | .dropped .cutOff => s.closeFailed i .cancelled .unconfirmed
  | .dropped .linkRestart => s.enterWithdrawing i .linkRestart

/-- The notice DEFERRED: the deferrals counted, and a pending cancel recalls the offer (R135, R147). -/
def State.offerDeferred (i : IssueNo) (e : Exchange) (s : State) : State :=
  match (s.issueRec i).issue with
  | none => s
  | some x =>
    let t := s.modIssue i fun x => { x with deferrals := e.deferrals }
    if x.cancelPending then
      let (u, _) := t.recall x.cell (.issue (s.issueId i))
      (u.modIssue i fun x => { x with offer := .unknown }).enterWithdrawing i .cancelled
    else t

/-! ## Outcomes of the movement (R137, R138) -/

/-- The notice OPENED (R137). -/
def State.pickOpened (i : IssueNo) (s : State) : State :=
  s.modIssue i fun x => { x with unlocked := some s.clock, phase := .pickup }

/-- The removal taken: last cell and slot of the tool, the transit window, TRANSIT (R137, R138). -/
def State.pickSensed (i : IssueNo) (s : State) : State :=
  match (s.issueRec i).issue with
  | none => s
  | some x =>
    (s.modTool x.tool fun y => { y with last := some (x.cell, x.slot) }).modIssue i fun x =>
      { x with
        unlocked := some (x.unlocked.getD s.clock), removed := some s.clock, request := none, phase := .transit
        transit := some (60000 * s.issues.transitWindow) }

/-- The outcome of an issue's ISSUE_PICK request (R137, R138). CANCELLED is taken by the cancel itself (R148). -/
def State.pickEnded (i : IssueNo) (outcome : MoveOutcome) (s : State) : State :=
  match outcome with
  | .sensed => s.pickSensed i
  | .windowExpired => s.enterWithdrawing i .pickupTimeout
  | .lockJam => s.enterWithdrawing i .lockJam
  | .drawerClosed => s.enterWithdrawing i .drawerClosed
  | .cancelled => s.enterWithdrawing i .cancelled

/-! ## Cancel and cut-off (R145 to R149) -/

/-- The unlock request of an issue cancelled, if it has one (R43). -/
def State.cancelPick (x : Issue) (s : State) : State :=
  match x.request with
  | some num => (s.cancelRequest num).1
  | none => s

/-- A cancel of an open issue, and the status that answers it (R145 to R148). -/
def State.cancelIssue (i : IssueNo) (s : State) : State × Status :=
  match (s.issueRec i).issue with
  | none => (s, .noIssue)
  | some x =>
    match x.phase with
    | .transit => (s, .tooLate)
    | .withdrawing => (s, .notCancellable)
    | .unlockWait | .pickup => ((s.cancelPick x).enterWithdrawing i .cancelled, .ok)
    | .offerWait =>
      if x.cancelPending then (s, .ok)
      else
        let (t, answer) := (s.modIssue i (Issue.fail .cancelled)).recall x.cell (.issue (s.issueId i))
        match answer with
        | .inFlight => (t.modIssue i fun x => { x with cancelPending := true }, .ok)
        | .recalled acknowledged _ deferrals =>
          let u := t.modIssue i fun x => { x with deferrals := deferrals }
          if acknowledged then
            ((u.modIssue i fun x => { x with offer := .unknown }).enterWithdrawing i .cancelled, .ok)
          else (u.closeFailed i .cancelled .notSent, .ok)

/-- The notice CELL_CUT_OFF for one issue (R149). -/
def State.issueCutOff (i : IssueNo) (c : CellNo) (s : State) : State :=
  match (s.issueRec i).issue with
  | none => s
  | some x =>
    if x.cell = c ∧ (x.phase = .unlockWait ∨ x.phase = .pickup) then
      ((s.cancelPick x).modIssue i fun x => { x with request := none }).closeFailed i .cellCutOff .unconfirmed
    else s

/-- The notice CELL_CUT_OFF, taken for every issue that it concerns (R149), in index order, which is the model's choice (log
50). -/
def State.issuesCutOff (c : CellNo) (s : State) : State :=
  (List.finRange 32).foldl (fun t i => t.issueCutOff i c) s

end Sys2Proof.Machine
end

