-- ==== Sys2Proof/Machine/PresetterOps.lean ====
section
/-! DEFINITION. The shared operations of the Presetter Unit: axes, reference, measure cycle (R49 to R63). Cycle outcomes are
handed to the owners by Deliver.lean. -/

namespace Sys2Proof.Machine

/-! ## Axes (R49) -/

/-- An axis record. -/
def State.axis (s : State) : Axis → AxisRec
  | .z => s.presetter.z
  | .x => s.presetter.x

/-- An axis record changed. -/
def State.modAxis (a : Axis) (f : AxisRec → AxisRec) (s : State) : State :=
  match a with
  | .z => s.modPresetter fun p => { p with z := f p.z }
  | .x => s.modPresetter fun p => { p with x := f p.x }

/-- State and counter of both axes (R49). -/
def Presetter.axes (p : Presetter) : AxesView :=
  { zState := p.z.state, zCounter := p.z.counter.toNat, xState := p.x.state, xCounter := p.x.counter.toNat }

/-- The axis states and counters as a result carries them (R49): state (1) and counter (4) of Z, then of X. -/
def AxesView.bytes (v : AxesView) : List Byte :=
  le 1 v.zState.code ++ le 4 v.zCounter ++ le 1 v.xState.code ++ le 4 v.xCounter

/-- Both axes are HOMED. -/
def State.bothHomed (s : State) : Bool := s.presetter.z.state == .homed && s.presetter.x.state == .homed

/-- An axis set names an axis. -/
def AxisSet.names (set : AxisSet) : Axis → Bool
  | .z => set.z
  | .x => set.x

/-- The code of an axis set (R52, R198). -/
def AxisSet.code (set : AxisSet) : Nat := set.z.toNat + 2 * set.x.toNat

/-- The set of one axis. -/
def oneAxis : Axis → AxisSet
  | .z => ⟨true, false⟩
  | .x => ⟨false, true⟩

/-- The axes of a set that are HOMING become UNHOMED (R53), also one that a second HOME made HOMING after it had homed; that
second HOME waits on. Both are the model's choice (log 55). -/
def State.unhome (set : AxisSet) (s : State) : State :=
  let f := fun (named : Bool) (x : AxisRec) => if named ∧ x.state = .homing then { x with state := .unhomed } else x
  s.modPresetter fun p => { p with z := f set.z p.z, x := f set.x p.x }

/-! ## The reference (R62, R63) -/

/-- The reference made absent; REFERENCE_LOST when it was present, with cause HOME (1) or AXIS_LOST (2) and the axes as they stand
here (R63, R198, log 48). -/
def State.loseReference (cause : Nat) (axes : AxisSet) (s : State) : State :=
  match s.presetter.reference with
  | none => s
  | some r =>
    (s.modPresetter fun p => { p with reference := none }).handReport
      { Report.blank .referenceLost with
        code := cause
        detail := .plain (le 1 axes.code ++ le 2 r.generation ++ le 2 r.uses ++ s.presetter.axes.bytes) }

/-- The generation after a generation (R62). -/
def nextGeneration (g : Nat) : Nat := if 65535 ≤ g then 1 else g + 1

/-- A new reference stored by CALIBRATE (R62, R65). -/
def State.storeReference (m : Means) (masterLength masterRadius : Nat) (s : State) : State :=
  let g := nextGeneration s.presetter.generation
  s.modPresetter fun p =>
    { p with
      generation := g
      reference := some { refZ := (m.zMean : Int) - masterLength, refX := (m.xMean : Int) - masterRadius
                          generation := g, uses := 0, stamp := s.clock } }

/-! ## The measure cycle (R58 to R61) -/

/-- The cycle is not IDLE. -/
def State.cycleBusy (s : State) : Bool := s.presetter.cycle.isSome

/-- The cycle is in a state. -/
def State.cycleIn (s : State) (st : CycleState) : Bool := s.presetter.cycle.any fun c => c.state == st

/-- The captures that an outcome carries: those taken in TOUCH, none in SEAT (R57, R59). -/
def Presetter.captured (p : Presetter) : List Nat × List Nat :=
  if p.cycle.any (fun c => c.state == .seat) then ([], []) else (p.z.captures, p.x.captures)

/-- The cycle ends: IDLE, and the outcome for its owner (R59, R60, R61). -/
def State.endCycle (fault : Option Status) (means : Option Means) (s : State) : State × CycleOutcome :=
  let caps := s.presetter.captured
  (s.modPresetter fun p => { p with cycle := none },
    { fault := fault, zCaptures := caps.1, xCaptures := caps.2, means := means, axes := s.presetter.axes })

/-- Entry into TOUCH: lists emptied, accepted edges forgotten, the touch window started (R58). -/
def Presetter.enterTouch (p : Presetter) : Presetter :=
  { p with
    z := { p.z with captures := [], bounce := none }
    x := { p.x with captures := [], bounce := none }
    cycle := p.cycle.map fun c =>
      { c with state := .touch, seatTimer := none, touchTimer := some (1000 * c.touchLength) } }

/-- The cycle started for an owner: SEAT or TOUCH by the level of SEATED (R58). -/
def State.startCycle (owner : SlotNo) (s : State) : State :=
  s.modPresetter fun p =>
    let c : Cycle :=
      { state := .seat, owner := owner, seatTimer := some (1000 * p.seatWindow), touchTimer := none
        seatLength := p.seatWindow, touchLength := p.touchWindow, touches := p.touches, spreadLimit := p.spreadLimit }
    let q := { p with cycle := some c }
    if p.seated then q.enterTouch else q

/-- A counter at or above its soft limit (R54). -/
def Presetter.beyondLimit (p : Presetter) : Bool :=
  p.z.softLimit ≤ p.z.counter.toNat || p.x.softLimit ≤ p.x.counter.toNat

/-- The comparison of R54: in TOUCH, a counter at or above its soft limit ends the cycle OVERTRAVEL. -/
def State.checkLimits (s : State) : State × Option CycleOutcome :=
  if s.cycleIn .touch ∧ s.presetter.beyondLimit = true then
    let (t, o) := s.endCycle (some .overtravel) none
    (t, some o)
  else (s, none)

/-- The mean of captures, rounded half up (R61). -/
def meanOf (captures : List Nat) (touches : Nat) : Nat := (captures.sum + touches / 2) / touches

/-- The spread of captures (R61). -/
def spreadOf (captures : List Nat) : Nat := captures.foldl max 0 - (captures.min?).getD 0

/-- The means and spreads of both axes (R61). -/
def Presetter.means (p : Presetter) (touches : Nat) : Means :=
  { zMean := meanOf p.z.captures touches, xMean := meanOf p.x.captures touches
    zSpread := spreadOf p.z.captures, xSpread := spreadOf p.x.captures }

/-- EVALUATE, once both lists hold the touches required (R57, R61). -/
def State.evaluateCycle (s : State) : State × Option CycleOutcome :=
  match s.presetter.cycle with
  | some c =>
    if c.state = .touch ∧ s.presetter.z.captures.length = c.touches ∧ s.presetter.x.captures.length = c.touches then
      let m := s.presetter.means c.touches
      let fault := if c.spreadLimit < m.zSpread ∨ c.spreadLimit < m.xSpread then some Status.spread else none
      let (t, o) := s.endCycle fault (some m)
      (t, some o)
    else (s, none)
  | none => (s, none)

/-- The bytes of captures: a count, then the values (R176, log 9). -/
def captureBytes (cs : List Nat) : List Byte := le 1 cs.length ++ cs.flatMap (le 4)

/-- The bytes of means and spreads, 0 when absent (R176). -/
def meansBytes (m : Option Means) : List Byte :=
  optField 16 (m.map fun m => le 4 m.zMean ++ le 4 m.xMean ++ le 4 m.zSpread ++ le 4 m.xSpread)

end Sys2Proof.Machine
end

