-- ==== Sys2Proof/Machine/ContextOps.lean ====
section
/-! DEFINITION. The contexts of the long orders other than ISSUE: HOME, CALIBRATE, MEASURE, STOW, RETURN, REMOVE and CLEAR_FAULT
(R15, R45, R46, R52, R53, R64, R65, R68 to R82, R159 to R163). -/

namespace Sys2Proof.Machine

/-! ## HOME (R52, R53) -/

/-- The result of a HOME: for each named axis the state it had, then both axes as they stand now
(R49, R52; layout log 10, moment log 47). -/
def State.homeResult (s : State) (axes : AxisSet) (formerZ formerX : AxisState) : List Byte :=
  (if axes.z then le 1 formerZ.code else le 1 0) ++ (if axes.x then le 1 formerX.code else le 1 0) ++
    s.presetter.axes.bytes

/-- A HOME ends other than OK: its axes still HOMING become UNHOMED, and it completes (R53). -/
def State.endHome (n : SlotNo) (status : Status) (s : State) : State :=
  match s.work n with
  | .home axes fz fx _ =>
    let t := s.unhome axes
    t.complete n status (t.homeResult axes fz fx)
  | _ => s

/-- A HOME whose named axes are all HOMED completes OK (R53). When a second HOME has left one of them UNHOMED, the mark of the other
leaves none HOMING and one not HOMED; R53 names no ending for that, and the context waits on, the model's choice (log 53). -/
def State.checkHomed (n : SlotNo) (s : State) : State :=
  match s.work n with
  | .home axes fz fx _ =>
    if (axes.z → (s.axis .z).state = .homed) ∧ (axes.x → (s.axis .x).state = .homed) then
      s.complete n .ok (s.homeResult axes fz fx)
    else s
  | _ => s

/-- The HOMEs that name an axis and have not ended, in slot order (R50, R51). -/
def State.homesOf (s : State) (a : Axis) : List SlotNo :=
  indices fun n : SlotNo => match s.work n with | .home axes _ _ _ => axes.names a | _ => false

/-! ## CALIBRATE (R64, R65) -/

/-- The result record of a CALIBRATE (R65; layout log 9, moment of the axes log 47). -/
def calibrateRecord (o : CycleOutcome) (r : Option Reference) : List Byte :=
  le 1 (presence [o.means.isSome, r.isSome]) ++ captureBytes o.zCaptures ++ captureBytes o.xCaptures ++
    meansBytes o.means ++
    optField 10 (r.map fun r => leInt r.refZ ++ leInt r.refX ++ le 2 r.generation) ++ o.axes.bytes

/-- An order that writes a record into its buffer completes: the record, and its length in the result area (R176). -/
def State.completeRecord (n : SlotNo) (status : Status) (record : List Byte) (s : State) : State :=
  s.completeWith n status (le 2 record.length) record

/-- The outcome of a CALIBRATE's cycle (R65). -/
def State.calibrateOutcome (n : SlotNo) (masterLength masterRadius : Nat) (o : CycleOutcome) (s : State) : State :=
  match o.fault, o.means with
  | none, some m =>
    let t := s.storeReference m masterLength masterRadius
    t.completeRecord n .ok (calibrateRecord o t.presetter.reference)
  | fault, _ => s.completeRecord n (fault.getD .aborted) (calibrateRecord o none)

/-! ## MEASURE (R68 to R80) -/

/-- The measured sizes and verdict group of the record (R80). -/
def Evaluation.bytes (e : Evaluation) : List Byte :=
  leInt e.length ++ leInt e.radius ++ flag e.inTol ++ le 2 e.lifeUsed ++ le 2 e.lifeLimit ++ le 1 e.verdict.code ++
    le 2 e.generation ++ le 4 e.refStamp.toNat ++ le 2 e.uses

/-- The store reason of a context. -/
def MeasureCtx.reason (m : MeasureCtx) : Option StoreReason :=
  match m.storeResult with
  | .notStored r => some r
  | .nothing | .stored => none

/-- The result record of a MEASURE that passed R69 (R80; layout log 9, presence of the store fields log 51): the axes at the end of
the cycle, or now where there was none (log 47). -/
def State.measureRecord (s : State) (m : MeasureCtx) : List Byte :=
  let caps := (m.outcome.map fun o => (o.zCaptures, o.xCaptures)).getD ([], [])
  let means := m.outcome.bind (·.means)
  let axes := (m.outcome.map (·.axes)).getD s.presetter.axes
  le 1 (presence [m.fetchMade.isSome, means.isSome, m.evaluation.isSome, m.storeMovement.isSome, m.storeMade.isSome,
      m.storeMade.isSome, m.reason.isSome]) ++
    le 2 m.tool ++ locationField m.start ++ s.toolAfter m.tool ++
    optField 3 (m.fetchMade.map fun num => le 2 num ++ le 1 ((m.fetchOutcome.map (·.code)).getD 0)) ++
    captureBytes caps.1 ++ captureBytes caps.2 ++ meansBytes means ++
    optField 22 (m.evaluation.map (·.bytes)) ++ le 1 m.storeResult.code ++
    optField 1 (m.storeMovement.map fun mv => le 1 mv.code) ++
    optField 2 (m.storeMade.map fun p => le 2 p.2.val) ++ optField 2 (m.storeMade.map fun p => le 2 p.1) ++
    optField 1 (m.reason.map fun r => le 1 r.code) ++ axes.bytes

/-- The record of a MEASURE or CALIBRATE refused by its own checks: the axis states and counters alone (R49, log 9). -/
def State.refuseRecord (n : SlotNo) (status : Status) (empty : List Byte) (s : State) : State :=
  s.completeRecord n status (empty ++ s.presetter.axes.bytes)

/-- The release of a MEASURE by R71: before an evaluation the state before claim, after it the verdict, or the state of the
movement that was sensed. -/
def measureRelease (m : MeasureCtx) (y : Tool) : Tool :=
  match m.evaluation, m.storeResult, m.storeMovement with
  | none, _, _ => y.release false y.before y.location
  | some _, .stored, some .store => y.release false .ready y.location
  | some _, .stored, _ => y.release false (if y.lifeEnded then .worn else .quarantine) y.location
  | some e, _, _ => y.release false e.verdict y.location

/-- A MEASURE ends: the claim released, then the result (R71, R80). -/
def State.finishMeasure (n : SlotNo) (m : MeasureCtx) (status : Status) (s : State) : State :=
  let t := s.modTool m.tool (measureRelease m)
  t.completeRecord n status (t.measureRecord m)

/-- A context withdraws its cycle; the outcome ABORTED is ignored (R73). -/
def State.withdrawCycle (n : SlotNo) (s : State) : State :=
  if s.presetter.cycle.any fun c => c.owner == n then (s.endCycle (some .aborted) none).1 else s

/-- A context cancels its FETCH request with a pending status, and ends on the outcome CANCELLED, which comes in the same
step (R43, R73). -/
def State.abandonFetch (n : SlotNo) (m : MeasureCtx) (pending : Status) (s : State) : State :=
  let m := { m with pendingStatus := some pending }
  match m.fetch with
  | none => s.finishMeasure n m pending
  | some num =>
    match s.cancelRequest num with
    | (t, true) => t.finishMeasure n { m with fetch := none, fetchOutcome := some .cancelled } pending
    | (t, false) => t.setWork n (.measure m)

/-- The notice SEATED in FETCHING: an early seat (R72). -/
def State.earlySeat (n : SlotNo) (m : MeasureCtx) (s : State) : State :=
  (s.withdrawCycle n).abandonFetch n m .stationOccupied

/-- The store reason of a refused insertion request (R78). -/
def refusedReason : Status → StoreReason
  | .cribBusy => .cribBusy
  | _ => .noRoom

/-- The evaluation's result for a record: sizes, tolerance, verdict (R76). -/
def evaluateTool (y : Tool) (r : Reference) (m : Means) : Evaluation :=
  let length := (m.zMean : Int) - r.refZ
  let radius := (m.xMean : Int) - r.refX
  let inTol := y.sizesPass length radius
  { length := length, radius := radius, inTol := inTol, lifeUsed := y.lifeUsed, lifeLimit := y.lifeLimit
    verdict := if inTol = true ∧ y.lifeUsed < y.lifeLimit then .passed else .quarantine
    generation := r.generation, refStamp := r.stamp, uses := min Config.maxUses (r.uses + 1) }

/-- The measurement written into the record, and the reference's use counted (R77). -/
def State.storeMeasurement (t : Nat) (e : Evaluation) (s : State) : State :=
  (s.modTool t (Tool.withGeometry
      { length := e.length, radius := e.radius, stamp := s.clock, generation := e.generation })).modPresetter
    fun p => { p with reference := p.reference.map fun r => { r with uses := e.uses } }

/-- The insertion asked for after an evaluation (R78); which of its fields the result shows is log 51. -/
def State.askStore (n : SlotNo) (m : MeasureCtx) (verdict : ToolState) (s : State) : State :=
  let mv := if verdict = .passed then Movement.store else .returnPut
  let m := { m with storeMovement := some mv, phase := .storing }
  match s.requestInsertion mv m.tool (.slot n) with
  | (t, .made num p) => t.setWork n (.measure { m with store := some num, storeMade := some (num, p) })
  | (t, .denied st) => t.finishMeasure n { m with storeResult := .notStored (refusedReason st) } .ok

/-- The evaluation of a MEASURE on the outcome COMPLETE (R76, R77, R78). The record and the reference are there (R6, R8,
R50); without them the context ends as though the reference were absent (log 34). -/
def State.evaluateMeasure (n : SlotNo) (m : MeasureCtx) (o : CycleOutcome) (means : Means) (s : State) : State :=
  let m := { m with outcome := some o }
  match s.findTool m.tool, s.presetter.reference with
  | some y, some r =>
    let e := evaluateTool y r means
    (s.storeMeasurement m.tool e).askStore n { m with evaluation := some e } e.verdict
  | _, _ => s.finishMeasure n m .noReference

/-- The outcome of a MEASURE's cycle (R72, R75). -/
def State.measureCycleOutcome (n : SlotNo) (m : MeasureCtx) (o : CycleOutcome) (s : State) : State :=
  match m.phase with
  | .storing => s
  | .fetching =>
    if m.pendingStatus.isSome then s
    else s.abandonFetch n { m with outcome := some o } (o.fault.getD .aborted)
  | .seating | .touching =>
    match o.fault, o.means with
    | none, some means => s.evaluateMeasure n m o means
    | fault, _ => s.finishMeasure n { m with outcome := some o } (fault.getD .aborted)

/-- The status of a MEASURE or REMOVE whose removal failed (R15, R72). -/
def removalStatus : MoveOutcome → Status
  | .sensed => .ok | .windowExpired => .pickupTimeout | .lockJam => .lockJam | .cancelled => .cancelled
  | .drawerClosed => .drawerClosed

/-- The outcome of a FETCH request (R72, R73). -/
def State.fetchEnded (n : SlotNo) (m : MeasureCtx) (outcome : MoveOutcome) (s : State) : State :=
  let m := { m with fetch := none, fetchOutcome := some outcome }
  match m.pendingStatus with
  | some st => s.finishMeasure n m st
  | none =>
    match outcome with
    | .sensed => s.setWork n (.measure { m with phase := .seating })
    | _ => (s.withdrawCycle n).finishMeasure n m (removalStatus outcome)

/-- The store result of an insertion's outcome (R78). -/
def storeResultOf : MoveOutcome → StoreResult
  | .sensed => .stored | .windowExpired => .notStored .windowExpired | .lockJam => .notStored .lockJam
  | .drawerClosed => .notStored .drawerClosed | .cancelled => .notStored .cancelled

/-- The outcome of the insertion in STORING (R78). -/
def State.storeEnded (n : SlotNo) (m : MeasureCtx) (outcome : MoveOutcome) (s : State) : State :=
  s.finishMeasure n { m with store := none, storeResult := storeResultOf outcome } .ok

/-- The outcome of a MEASURE's request, by its phase. -/
def State.measureMove (n : SlotNo) (m : MeasureCtx) (outcome : MoveOutcome) (s : State) : State :=
  match m.phase with
  | .storing => s.storeEnded n m outcome
  | .fetching | .seating | .touching => s.fetchEnded n m outcome

/-- The notice SEATED to a MEASURE (R72, R74). -/
def State.measureSeated (n : SlotNo) (m : MeasureCtx) (s : State) : State :=
  match m.phase with
  | .fetching => s.earlySeat n m
  | .seating =>
    (s.modTool m.tool fun y => { y with location := .presetter }).setWork n (.measure { m with phase := .touching })
  | .touching | .storing => s

/-! ## STOW (R81, R82) -/

/-- The status of a STOW or RETURN by its movement outcome (R82, R161). -/
def insertionStatus : MoveOutcome → Status
  | .sensed => .ok | .windowExpired => .insertTimeout | .lockJam => .lockJam | .cancelled => .cancelled
  | .drawerClosed => .drawerClosed

/-- The release of a STOW (R82). -/
def stowRelease (w : StowCtx) (outcome : MoveOutcome) (y : Tool) : Tool :=
  match outcome, w.movement with
  | .sensed, .store => y.release false .ready y.location
  | .sensed, _ => y.release false (if y.lifeEnded then .worn else y.before) y.location
  | _, _ => y.release false y.before y.location

/-- The result of a STOW (R82; layout log 11). -/
def State.stowResult (s : State) (w : StowCtx) (sensed : Bool) : List Byte :=
  le 1 (presence [sensed]) ++ le 2 w.tool ++ le 1 w.movement.code ++ le 2 w.request ++
    optField 2 (if sensed then some (le 2 w.pocket.val) else none) ++ s.toolAfter w.tool

/-- The outcome of a STOW's insertion (R82). -/
def State.stowEnded (n : SlotNo) (w : StowCtx) (outcome : MoveOutcome) (s : State) : State :=
  let t := s.modTool w.tool (stowRelease w outcome)
  t.complete n (insertionStatus outcome) (t.stowResult w (outcome == .sensed))

/-! ## RETURN (R159 to R163) -/

/-- The release of a RETURN (R161). -/
def returnRelease (outcome : MoveOutcome) (y : Tool) : Tool :=
  match outcome with
  | .sensed => y.release true (if y.lifeEnded then .worn else .quarantine) y.location
  | _ => y.release true y.before y.location

/-- The record as the release left it (log 31). -/
def Tool.asReleased (y : Tool) : Released :=
  { lifeUsed := y.lifeUsed, warningSent := y.warningSent, lifeEnded := y.lifeEnded, state := y.state
    location := y.location }

/-- The withdraw cell and slot of a RETURN (R160). -/
def Tool.withdrawTarget (y : Tool) (before : ToolState) : Option (CellNo × Nat) :=
  match before, y.location with
  | .out, .cell c m => some (c, m)
  | .astray, _ => y.last
  | _, _ => none

/-- The result of a RETURN (R162; layout log 11). -/
def returnResult (r : ReturnCtx) : List Byte :=
  let sensed := r.outcome == some .sensed
  le 1 (presence [sensed, r.withdrawTo.isSome]) ++ le 2 r.tool ++ le 1 r.stateBefore.code ++ le 2 r.request ++
    le 1 ((r.outcome.map (·.code)).getD 0) ++ optField 2 (if sensed then some (le 2 r.pocket.val) else none) ++
    optField 2 (r.withdrawTo.map fun w => le 1 (addr w.1) ++ le 1 w.2) ++ le 1 r.withdraw.code ++ le 1 r.tries ++
    flag r.acknowledged ++
    optField 8 (r.released.map fun x =>
      le 2 x.lifeUsed ++ flag x.warningSent ++ flag x.lifeEnded ++ le 1 x.state.code ++ locationField x.location)

/-- A RETURN completes once its movement has ended and its withdraw is no longer PENDING (R162). -/
def State.returnStep (n : SlotNo) (r : ReturnCtx) (s : State) : State :=
  match r.outcome with
  | some outcome =>
    if r.withdraw = .pending then s.setWork n (.returning r)
    else s.complete n (insertionStatus outcome) (returnResult r)
  | none => s.setWork n (.returning r)

/-- The WITHDRAW of a RETURN queued: PENDING, or UNCONFIRMED when it is refused (R160). -/
def State.queueReturnWithdraw (n : SlotNo) (r : ReturnCtx) (s : State) : State × ReturnCtx :=
  match r.withdrawTo with
  | none => (s, { r with withdraw := .notSent })
  | some (c, m) =>
    match s.queueExchange c (.withdraw 0xFF r.tool m) (.slot n) with
    | (t, none) => (t, { r with withdraw := .pending, tries := 0, acknowledged := false })
    | (t, some _) => (t, { r with withdraw := .unconfirmed })

/-- A PENDING withdraw recalled after a movement that was not sensed (R162). -/
def State.recallWithdraw (n : SlotNo) (r : ReturnCtx) (s : State) : State × ReturnCtx :=
  match r.withdrawTo with
  | none => (s, r)
  | some (c, _) =>
    match s.recall c (.slot n) with
    | (t, .inFlight) => (t, r)
    | (t, .recalled acknowledged tries _) =>
      (t, { r with withdraw := if acknowledged then .unconfirmed else .notSent, tries := tries
                   acknowledged := acknowledged })

/-- The outcome of a RETURN's insertion (R161, R162). -/
def State.returnMove (n : SlotNo) (r : ReturnCtx) (outcome : MoveOutcome) (s : State) : State :=
  let t := s.modTool r.tool (returnRelease outcome)
  let r := { r with outcome := some outcome, released := (t.findTool r.tool).map Tool.asReleased }
  if outcome ≠ .sensed ∧ r.withdraw = .pending then
    let (u, r) := t.recallWithdraw n r
    u.returnStep n r
  else t.returnStep n r

/-- The outcome of a RETURN's withdraw (R160, R167). -/
def State.returnWithdrawEnded (n : SlotNo) (r : ReturnCtx) (e : Exchange) (outcome : ExchangeOutcome) (s : State) :
    State :=
  let r := { r with tries := e.triesUsed, acknowledged := e.acknowledged }
  match outcome with
  | .answered _ => s.returnStep n { r with withdraw := .confirmed }
  | .refused .. | .noAck | .noAnswer | .dropped .cutOff => s.returnStep n { r with withdraw := .unconfirmed }
  | .dropped .linkRestart =>
    let (t, r) := s.queueReturnWithdraw n r
    t.returnStep n r

/-! ## REMOVE and CLEAR_FAULT (R15, R45, R46) -/

/-- The result of a completed REMOVE: tool number and the state at deletion (R14, log 15). -/
def removeResult (t : Nat) (st : ToolState) : List Byte := le 2 t ++ le 1 st.code

/-- The outcome of a REMOVE_OUT movement (R15). The result of one that was not sensed has every field 0 (log 45). -/
def State.removeEnded (n : SlotNo) (tool : Nat) (outcome : MoveOutcome) (s : State) : State :=
  match outcome with
  | .sensed => (s.dropTool tool).complete n .ok (removeResult tool .claimed)
  | _ => (s.releaseBack tool).refuse n (removalStatus outcome)

/-- The result of a CLEAR_FAULT that completes OK: the resulting fault (R45, log 11). -/
def State.clearResult (s : State) (p : PocketNo) : List Byte := le 1 (s.pocket p).fault.code

/-- The outcome of a CLEAR_OUT movement (R46). That a CLEAR_FAULT which ends otherwise than OK carries no resulting fault is the
model's choice (log 59). -/
def State.clearOutEnded (n : SlotNo) (p : PocketNo) (outcome : MoveOutcome) (s : State) : State :=
  match outcome with
  | .sensed => s.complete n .ok (s.clearResult p)
  | _ => s.refuse n (removalStatus outcome)

/-- The CLEAR_FAULT that waits on the relock of a pocket (R45). -/
def State.relockOf (s : State) (p : PocketNo) : Option SlotNo :=
  (indices fun n : SlotNo => match s.work n with | .clearRelock q => q == p | _ => false).head?

end Sys2Proof.Machine
end

