-- ==== Sys2Proof/Machine/Deliver.lean ====
section
/-! DEFINITION. Outcomes and notices handed to their owners (R39, R40, R59 to R61, R93, R116, R117, R155), and a loss of an axis
(R50). -/

namespace Sys2Proof.Machine

/-! ## Movements -/

/-- The outcome of an unlock request handed to its owner (R35). -/
def State.deliverMove (owner : Owner) (outcome : MoveOutcome) (s : State) : State :=
  match owner with
  | .issue id =>
    match s.openIndex id with
    | some i => s.pickEnded i outcome
    | none => s
  | .slot n =>
    match s.work n with
    | .measure m => s.measureMove n m outcome
    | .stow w => s.stowEnded n w outcome
    | .returning r => s.returnMove n r outcome
    | .remove t _ => s.removeEnded n t outcome
    | .clearOut p _ => s.clearOutEnded n p outcome
    | .home .. | .calibrate .. | .issue _ | .clearRelock _ | .idle => s

/-- The notice OPENED handed to the owner (R39). The phase of a MEASURE, STOW, RETURN, REMOVE or CLEAR_OUT does not change
with it; a MEASURE and a RETURN record it. -/
def State.deliverOpened (owner : Owner) (s : State) : State :=
  match owner with
  | .issue id =>
    match s.openIndex id with
    | some i => s.pickOpened i
    | none => s
  | .slot n =>
    match s.work n with
    | .measure m => s.setWork n (.measure { m with opened := true })
    | .returning r => s.setWork n (.returning { r with opened := true })
    | .home .. | .calibrate .. | .stow _ | .issue _ | .remove .. | .clearRelock _ | .clearOut .. | .idle => s

/-! ## The measure cycle -/

/-- The outcome of a cycle handed to its owner (R59, R60, R61). -/
def State.deliverCycle (n : SlotNo) (o : CycleOutcome) (s : State) : State :=
  match s.work n with
  | .calibrate ml mr => s.calibrateOutcome n ml mr o
  | .measure m => s.measureCycleOutcome n m o
  | .home .. | .stow _ | .issue _ | .returning _ | .remove .. | .clearRelock _ | .clearOut .. | .idle => s

/-- A fault that ends the cycle, and its outcome handed over (R59, R60). -/
def State.faultCycle (fault : Status) (s : State) : State :=
  match s.presetter.cycle with
  | some c =>
    let (t, o) := s.endCycle (some fault) none
    t.deliverCycle c.owner o
  | none => s

/-- The comparison with the soft limits, and the outcome handed over (R54). -/
def State.enforceLimits (s : State) : State :=
  match s.presetter.cycle with
  | some c =>
    match s.checkLimits with
    | (t, some o) => t.deliverCycle c.owner o
    | (t, none) => t
  | none => s

/-- EVALUATE when the lists are complete, and the outcome handed over (R61). -/
def State.evaluateIfComplete (s : State) : State :=
  match s.presetter.cycle with
  | some c =>
    match s.evaluateCycle with
    | (t, some o) => t.deliverCycle c.owner o
    | (t, none) => t
  | none => s

/-- An axis enters LOST: the reference, every HOME that names it, the cycle (R50). REFERENCE_LOST shows the axis LOST (log 48). -/
def State.loseAxis (a : Axis) (s : State) : State :=
  let t := (s.modAxis a fun x => { x with state := .lost }).loseReference 2 (oneAxis a)
  ((t.homesOf a).foldl (fun u n => u.endHome n .axisLost) t).faultCycle .axisLost

/-! ## Exchanges -/

/-- Causes of LIFE_END_UNDELIVERED (R198). -/
inductive UndeliveredCause
  | queueFull | cutOff | noAck | linkRestart
  deriving DecidableEq, Repr

/-- Cause codes (R198). -/
def UndeliveredCause.code : UndeliveredCause → Nat
  | .queueFull => 1 | .cutOff => 2 | .noAck => 3 | .linkRestart => 4

/-- A LIFE_END_UNDELIVERED report (R155, R198). -/
def State.reportUndelivered (c : CellNo) (t : Nat) (cause : UndeliveredCause) (tries : Nat) (s : State) : State :=
  s.handReport
    { Report.blank .lifeEndUndelivered with cell := addr c, tool := t, code := cause.code, detail := .plain (le 1 tries) }

/-- The end of a LIFE_END (R155). -/
def State.lifeEndEnded (c : CellNo) (t : Nat) (e : Exchange) (outcome : ExchangeOutcome) (s : State) : State :=
  match outcome with
  | .answered _ => s
  | .dropped .cutOff => s.reportUndelivered c t .cutOff e.triesUsed
  | .dropped .linkRestart => s.reportUndelivered c t .linkRestart e.triesUsed
  | .refused .. | .noAck | .noAnswer => s.reportUndelivered c t .noAck e.triesUsed

/-- The end of an exchange handed to its owner (R93). The owners of DENYs and POLLs take no action (R131, R156). -/
def State.exchangeEnded (c : CellNo) (e : Exchange) (outcome : ExchangeOutcome) (s : State) : State :=
  match e.payload, e.owner with
  | .dataOffer .., .issue id =>
    match s.openIndex id with
    | some i => s.offerEnded i e outcome
    | none => s
  | .withdraw .., .issue id =>
    match s.openIndex id with
    | some i => s.withdrawEnded i outcome
    | none => s
  | .withdraw .., .slot n =>
    match s.work n with
    | .returning r => s.returnWithdrawEnded n r e outcome
    | _ => s
  | .lifeEnd t, _ => s.lifeEndEnded c t e outcome
  | _, _ => s

/-- The notice DEFERRED handed to the owner of an offer (R99, R135). -/
def State.exchangeDeferred (e : Exchange) (s : State) : State :=
  match e.owner with
  | .issue id =>
    match s.openIndex id with
    | some i => s.offerDeferred i e
    | none => s
  | _ => s

/-- One thing that the link hands on (R93, R99, R116). The Life and Return Handler changes nothing on the notice CELL_CUT_OFF
(R166). -/
def State.deliverLink (s : State) : LinkEvent → State
  | .ended c e outcome => s.exchangeEnded c e outcome
  | .deferred _ e => s.exchangeDeferred e
  | .cutOff c => s.issuesCutOff c

/-- What the link hands on, in order (R116). -/
def State.deliverAll (p : State × List LinkEvent) : State := p.2.foldl State.deliverLink p.1

end Sys2Proof.Machine
end

