-- ==== Sys2Proof/Machine/Control.lean ====
section
/-! DEFINITION. The meanings of the resets and of the bits of CTL: RESET, FULL_RESET, PORT_ENABLE, LINK_RESTART, RESUME (R106,
R171, R194, R195). -/

namespace Sys2Proof.Machine

/-- The outcome of every command. -/
abbrev Result := Host.Outcome State Fault Refusal

/-- A device reset (R48, R67, R108, R195, R207): every block at its reset value, SEATED at the level given (R55). The series
under way is abandoned; the bytes already written stay (R174, R195, log 4). -/
def State.deviceReset (seated : Bool) (accesses : Nat) (s : State) : State :=
  { State.reset with
    pending := s.pending, presetter := Presetter.reset seated, board := (s.writePart accesses).board
    freeCount := s.freeCount }

/-- RESET (R195): the RESET pin. -/
def execReset (seated : Bool) (accesses : Nat) (s : State) : Result := .next (s.deviceReset seated accesses)

/-- FULL_RESET (R171): the same reset, by CTL. -/
def execFullReset (seated : Bool) (accesses : Nat) (s : State) : Result := .next (s.deviceReset seated accesses)

/-- PORT_ENABLE (R171): stored as written; becoming 0 ends the series under way, whose work its owner keeps (R193). -/
def execPortEnable (on : Bool) (accesses : Nat) (s : State) : Result :=
  if on then .next (s.modOrder fun o => { o with portEnable := true })
  else .next ((s.writePart accesses).modOrder fun o => { o with portEnable := false, series := none })

/-- Steps 1 to 3 of a link restart: the line driven no more, frames, receive queue, exchanges and buffers gone (R106). -/
def Link.cleared (l : Link) : Link :=
  { l with
    attempt := none, slotDriven := false, rx := [], buffer0 := none, next0 := none
    cells := mapVec (fun x => { x with queue := [] }) l.cells }

/-- Every exchange, the cells in address order and each queue in its order (R106). -/
def State.allExchanges (s : State) : List (CellNo × Exchange) :=
  (List.finRange 24).flatMap fun c => (s.cell c).queue.map fun e => (c, e)

/-- Step 4: every cell GOOD with its counts at 0, and last grants at 0 (R106). -/
def State.cellsGood (s : State) : State :=
  ((List.finRange 24).foldl (fun t c => t.makeGood c .linkRestart) s).modLink fun l =>
    { l with cells := mapVec (fun x => { x with lastGrant := 0 }) l.cells }

/-- Step 5: the link ACTIVE, and LINK_STATE if it was OFF (R106). -/
def State.linkActive (cause : LinkCause) (s : State) : State :=
  let t := s.modLink fun l => { l with state := .active, errors := 0, idle := 0 }
  if s.link.state = .off then t.handReport (t.linkReport cause) else t

/-- Step 7: the timers restarted (R106). -/
def State.restartTimers (s : State) : State :=
  s.modLink fun l =>
    { l with
      broadcastTimer := if s.reports.stalled then l.broadcastTimer else startTimer l.broadcastInterval
      holdTimer := if s.reports.stalled then startTimer l.holdTime else l.holdTimer
      pollTimer := if s.inService then startTimer l.pollInterval else l.pollTimer }

/-- A link restart (R106). -/
def State.restartLink (s : State) : State :=
  let dropped := s.allExchanges.map fun p => LinkEvent.ended p.1 p.2 (.dropped .linkRestart)
  let t := ((s.modLink Link.cleared).cellsGood).linkActive .linkRestart
  (State.deliverAll (t, dropped)).restartTimers

/-- LINK_RESTART (R106). -/
def execLinkRestart (s : State) : Result := .next s.restartLink.settle

/-- RESUME (R194): leaves HALTED; no effect while the port is not HALTED. -/
def execResume (s : State) : Result := .next (s.modOrder fun o => { o with halted := false })

end Sys2Proof.Machine
end

