-- ==== Sys2Proof/Machine/Chain.lean ====
section
/-! DEFINITION. The meanings of the drawer chain's events and of the request windows: FIRST_SCAN, the lock confirmations, the lock
confirm window, sensor changes, REQUEST_WINDOW_EXPIRES (R24 to R28, R39 to R42, R45, R48). -/

namespace Sys2Proof.Machine

/-! ## The first scan (R48) -/

/-- The sensor that the first scan gives a pocket; ABSENT where its module does not answer (R48). -/
def scannedSensor (modules : Vector (Option Word) 16) (p : PocketNo) : Sensor :=
  match modules.get (drawerOf p) with
  | some w => if w.getLsbD (p.val % 32) then .present else .absent
  | none => .absent

/-- A sensor report that came before the first scan had completed is part of it (R48, log 26). -/
def Crib.firstSensor (c : Crib) (modules : Vector (Option Word) 16) (p : PocketNo) : Sensor :=
  ((c.early.find? fun e => e.1 == p).map (·.2)).getD (scannedSensor modules p)

/-- Every pocket takes its sensor value, with no fault, report or stamp (R48, log 26). -/
def Crib.afterScan (c : Crib) (modules : Vector (Option Word) 16) : Crib :=
  { c with
    pockets := ⟨((List.finRange 512).map fun p =>
      { c.pockets.get p with sensor := c.firstSensor modules p }).toArray, by simp⟩
    scanDone := true, early := [] }

/-- FIRST_SCAN (R48): once after a reset. -/
def execFirstScan (modules : Vector (Option Word) 16) (s : State) : Result :=
  if s.crib.scanDone then .next s else .next (s.modCrib fun c => c.afterScan modules)

/-! ## Lock confirmations (R24, R39, R41, R45) -/

/-- The window that a movement starts at OPEN, in ms (R35, R39). -/
def Crib.windowFor (c : Crib) (mv : Movement) : Nat := 1000 * if mv.inserts then c.insertWindow else c.pickupWindow

/-- A lock takes a new state, with no lock confirm window running (R24). -/
def State.setLock (p : PocketNo) (lock : Lock) (s : State) : State :=
  s.changePocket p fun k => { k with lock := lock, confirm := none }

/-- A released confirmation at an OPENING pocket: OPEN, the request's window, the notice OPENED (R24, R39). -/
def State.confirmReleased (p : PocketNo) (s : State) : State :=
  let t := s.setLock p .opened
  match s.requestAt p with
  | none => t
  | some r =>
    (t.modRequest r.number fun q =>
      { q with state := .opened, window := some (s.crib.windowFor r.movement) }).deliverOpened r.owner

/-- RELEASED_CONFIRMATION (R24, R39): ignored unless the pocket is OPENING. -/
def execReleasedConfirmation (p : PocketNo) (s : State) : Result :=
  if (s.pocket p).lock = .opening then .next (s.confirmReleased p).settle else .next s

/-- A CLEAR_FAULT relock confirmed: the resulting fault, and the order completes OK (R45). -/
def State.relockConfirmed (n : SlotNo) (p : PocketNo) (s : State) : State :=
  let t := s.changePocket p fun k =>
    { k with fault := if k.sensor = .present ∧ k.content = none then .unknownItem else .clear }
  t.complete n .ok (t.clearResult p)

/-- An engaged confirmation at a CLOSING pocket: LOCKED, its request ENDED, the count falls and queued requests start; or a
CLEAR_FAULT relock ends (R37, R41, R45). -/
def State.confirmEngaged (p : PocketNo) (s : State) : State :=
  let t := s.setLock p .locked
  match s.requestAt p, s.relockOf p with
  | some r, _ => (t.endRequest r).startQueued
  | none, some n => (t.relockConfirmed n p).startQueued
  | none, none => t.startQueued

/-- ENGAGED_CONFIRMATION (R24, R41, R45): ignored unless the pocket is CLOSING. -/
def execEngagedConfirmation (p : PocketNo) (s : State) : Result :=
  if (s.pocket p).lock = .closing then .next (s.confirmEngaged p).settle else .next s

/-- JAMMED with fault LOCK_JAM (R24). -/
def State.jam (p : PocketNo) (s : State) : State :=
  s.changePocket p fun k => { k with lock := .jammed, fault := .lockJam, confirm := none }

/-- An UNLOCK whose window expires: the request ENDED with outcome LOCK_JAM, and the report (R42). Bit 2 of the report, the tool
was claimed, is read before the owner releases its claim in the same step, the model's choice (log 54). -/
def State.jamOpening (p : PocketNo) (s : State) : State :=
  let t := s.jam p
  match s.requestAt p with
  | none => t
  | some r =>
    let report := s.pocketFaultReport .lockJam p .jammed (s.pocket p).content (some r)
    ((t.endRequest r).deliverMove r.owner .lockJam).handReport report

/-- A RELOCK whose window expires: a movement's request ENDED, a CLEAR_FAULT that fails, with no resulting fault (log 59), or
the reset relock (R41, R45, R48). -/
def State.jamClosing (p : PocketNo) (s : State) : State :=
  let t := s.jam p
  let report := fun r => s.pocketFaultReport .lockJam p .jammed (s.pocket p).content r
  match s.requestAt p, s.relockOf p with
  | some r, _ => (t.endRequest r).handReport (report (some r))
  | none, some n => t.refuse n .lockJam
  | none, none => t.handReport (report none)

/-- LOCK_CONFIRM_WINDOW_EXPIRES (R24): no window runs unless the pocket is OPENING or CLOSING. -/
def execLockConfirmWindowExpires (p : PocketNo) (s : State) : Result :=
  let k := s.pocket p
  match k.lock, k.confirm with
  | .opening, some _ => .next (s.jamOpening p).settle
  | .closing, some _ => .next (s.jamClosing p).settle
  | _, _ => .next s

/-! ## Sensor changes (R25 to R28, R40) -/

/-- The change is expected: the pocket's claim is a request in OPENING or OPEN that expects it (R26, R27). -/
def State.expecting (s : State) (p : PocketNo) (insertion : Bool) : Option Request :=
  (s.requestAt p).filter fun r =>
    (r.state == .opening || r.state == .opened) && r.movement.inserts == insertion

/-- The record and pocket sides of an expected change (R6, R40); a STORE gives a home pocket where there is none (R4). A removal
changes the location of the tool that the content names and not its state: that an unclaimed READY tool which the ISSUE_PICK of
another tool's issue takes out stays READY at LOOSE is the model's choice (log 58). -/
def State.applyChange (r : Request) (s : State) : State :=
  let p := r.pocket
  match r.movement, r.tool with
  | .clearOut, _ => s.changePocket p fun k => { k with sensor := .absent, fault := .clear }
  | .store, some t =>
    (s.changePocket p fun k => { k with sensor := .present, content := some t }).modTool t fun y =>
      { y with location := .pocket p, home := some (y.home.getD p) }
  | .returnPut, some t =>
    (s.changePocket p fun k => { k with sensor := .present, content := some t }).modTool t fun y =>
      { y with location := .pocket p }
  | .store, none | .returnPut, none => s.changePocket p fun k => { k with sensor := .present }
  | .issuePick, _ | .fetch, _ | .removeOut, _ =>
    let t := s.changePocket p fun k => { k with sensor := .absent, content := none }
    match (s.pocket p).content with
    | some c => t.modTool c fun y => { y with location := .loose }
    | none => t

/-- An outcome delivered with a RELOCK: pocket and request CLOSING (R39, R40). -/
def State.closeRequest (r : Request) (outcome : MoveOutcome) (s : State) : State :=
  (((s.modRequest r.number fun q => { q with state := .closing, window := none, outcome := some outcome }).sendRelock
    r.pocket)).deliverMove r.owner outcome

/-- Content and location of the tool named in a pocket agree (R6): where the record is at another place, the content is
cleared. After an insertion that is so when the release puts the tool at LOOSE by the first override of R9; that the content
goes with the location is the model's choice (log 46). -/
def State.clearReleased (p : PocketNo) (s : State) : State :=
  match (s.pocket p).content.bind s.findTool with
  | some y => if y.location = .pocket p then s else s.changePocket p fun k => { k with content := none }
  | none => s

/-- The expected change of a request (R40); after an insertion content and location agree (R6). -/
def State.expectedChange (r : Request) (s : State) : State :=
  let t := (s.applyChange r).closeRequest r .sensed
  if r.movement.inserts then t.clearReleased r.pocket else t

/-- A tool record whose tool was taken from its pocket by force (R28). -/
def Tool.forced (x : Tool) : Tool :=
  let y := { x with location := .loose, last := none }
  if x.state = .claimed then { y with stateBefore := some .astray } else { y with state := .astray }

/-- A forced removal (R26, R28). -/
def State.forcedRemoval (p : PocketNo) (t : Nat) (s : State) : State :=
  let k := s.pocket p
  let report := s.pocketFaultReport .forced p k.lock (some t) (s.requestAt p)
  ((s.changePocket p fun k =>
      { k with sensor := .absent, content := none, fault := if k.fault = .lockJam then .lockJam else .forced }).modTool
    t Tool.forced).handReport report

/-- An unexpected removal (R25, R26). -/
def State.unexpectedRemoval (p : PocketNo) (s : State) : State :=
  match s.inService, (s.pocket p).content with
  | true, some t => s.forcedRemoval p t
  | _, _ => s.changePocket p fun k => { k with sensor := .absent }

/-- An unexpected insertion (R25, R27). -/
def State.unexpectedInsertion (p : PocketNo) (s : State) : State :=
  let k := s.pocket p
  if s.inService = true ∧ k.content = none then
    (s.changePocket p fun k =>
      { k with sensor := .present, fault := if k.fault = .lockJam then .lockJam else .unknownItem }).handReport
        (s.pocketFaultReport .unknownItem p k.lock none (s.requestAt p))
  else s.changePocket p fun k => { k with sensor := .present }

/-- A sensor report before the first scan has completed (R48). -/
def State.earlyReport (p : PocketNo) (x : Sensor) (s : State) : State :=
  s.modCrib fun c => { c with early := (p, x) :: c.early.filter fun e => e.1 != p }

/-- SENSOR_REMOVAL (R25, R26, R28, R40): a change from PRESENT to ABSENT. -/
def execSensorRemoval (p : PocketNo) (s : State) : Result :=
  if s.crib.scanDone = false then .next (s.earlyReport p .absent)
  else if (s.pocket p).sensor = .absent then .next s
  else match s.expecting p false with
    | some r => .next (s.expectedChange r).settle
    | none => .next (s.unexpectedRemoval p).settle

/-- SENSOR_INSERTION (R25, R27, R40): a change from ABSENT to PRESENT. -/
def execSensorInsertion (p : PocketNo) (s : State) : Result :=
  if s.crib.scanDone = false then .next (s.earlyReport p .present)
  else if (s.pocket p).sensor = .present then .next s
  else match s.expecting p true with
    | some r => .next (s.expectedChange r).settle
    | none => .next (s.unexpectedInsertion p).settle

/-! ## The pickup or insert window (R39) -/

/-- REQUEST_WINDOW_EXPIRES (R39): WINDOW_EXPIRED, the pocket and the request CLOSING. -/
def execRequestWindowExpires (p : PocketNo) (s : State) : Result :=
  match (s.requestAt p).filter fun r => r.state == .opened && r.window.isSome with
  | some r => .next (s.closeRequest r .windowExpired).settle
  | none => .next s

end Sys2Proof.Machine
end

