-- ==== Sys2Proof/Machine/Receive.lean ====
section
/-! DEFINITION. The meanings of a frame received and of the frames handed on to the Issue Manager and to answer matching (R90 to
R92, R98, R114, R118, R127, R131, R141, R145). -/

namespace Sys2Proof.Machine

/-! ## Taking a frame from the line (R90, R91) -/

/-- The kinds that the receive gate admits to answers (R91). -/
def isAnswerKind (k : Nat) : Bool := k == 0x11 || k == 0x12 || k == 0x13 || k == 0x17

/-- The receive gate (R91). -/
def State.gateAdmits (s : State) (k : Nat) : Bool := s.inService && (!s.reports.stalled || isAnswerKind k)

/-- The frame is of a known kind (R86). -/
def LinkFrame.known (f : LinkFrame) : Bool := cellFrameLength f.kind == some f.payload.length

/-- The part acknowledges a frame from a cell (R90). -/
def State.acknowledges (s : State) (c : CellNo) (f : LinkFrame) : Bool :=
  f.dest == 0 && s.link.state == .active && (s.cell c).enabled && f.known &&
    ((s.cell c).standing != .cutOff || f.kind == 0x17) && s.link.rx.length < Config.maxRxFrames &&
    s.gateAdmits f.kind

/-- An acknowledged frame joins the receive queue with its arrival stamp (R90). -/
def State.receive (c : CellNo) (f : LinkFrame) (s : State) : State :=
  s.modLink fun l => { l with rx := l.rx ++ [{ source := c, kind := f.kind, payload := f.payload, stamp := s.clock }] }

/-- The acknowledgement slot of a frame on the line: driven dominant by the part, or left recessive (R84, R90, log 44). -/
def State.driveSlot (driven : Bool) (s : State) : State := s.modLink fun l => { l with slotDriven := driven }

/-- FRAME_RECEIVED (R84, R85, R90): the part drives the acknowledgement slot and the frame joins the receive queue, or the
slot is left recessive and the frame is dropped. A frame that comes while an attempt of the part itself is on the line, which
cannot occur, is taken as any other: the model's choice and an exception to log 1 (log 60). -/
def execFrameReceived (line : List Bool) (s : State) : Result :=
  match parseLine line with
  | none => .next (s.driveSlot false)
  | some f =>
    match asCell f.source with
    | none => .next (s.driveSlot false)
    | some c => if s.acknowledges c f then .next ((s.receive c f).driveSlot true) else .next (s.driveSlot false)

/-! ## Handing on (R92) -/

/-- A number in the payload, most significant byte first (R85). -/
def RxFrame.field (f : RxFrame) (offset width : Nat) : Nat := fromBe ((f.payload.drop offset).take width)

/-- The oldest frame handed on, if it is of this kind: it leaves the queue as it is handed on (R92). -/
def State.handOn (kind : Nat) (take : RxFrame → State → State) (s : State) : Result :=
  match s.link.rx with
  | f :: rest =>
    if f.kind = kind then .next (take f (s.modLink fun l => { l with rx := rest })).settle else .next s
  | [] => .next s

/-! ## TOOL_REQUEST (R127, R131) -/

/-- The mode byte makes it a request by class (R127). -/
def RxFrame.byClass (f : RxFrame) : Bool := f.field 1 1 == 1

/-- The request that a TOOL_REQUEST frame makes (R127). -/
def RxFrame.ask (f : RxFrame) : Ask :=
  { cell := f.source, slot := f.field 4 1, origin := .cell (f.field 0 1)
    byClass := if f.byClass then some (f.field 2 2 % 256) else none
    tool := if f.byClass then 0 else f.field 2 2 }

/-- A repeat: an open issue of this cell with this request reference (R127). -/
def State.isRepeat (s : State) (a : Ask) : Bool :=
  s.openIssues.any fun p => p.2.origin == a.origin && p.2.cell == a.cell

/-- A REQUEST_DENIED report of a TOOL_REQUEST (R131, R198). -/
def deniedRequestReport (f : RxFrame) (a : Ask) (reason : Reason) (queued : Bool) : Report :=
  { Report.blank .requestDenied with
    cell := addr a.cell, tool := a.tool, code := reason.code, bit1 := queued
    detail := .plain (le 1 0x10 ++ le 1 (f.field 0 1) ++ flag f.byClass ++ le 1 (a.byClass.getD 0) ++ le 1 a.slot ++
      le 2 0) }

/-- A denied TOOL_REQUEST: the DENY, then the report (R131). -/
def State.denyRequest (f : RxFrame) (a : Ask) (reason : Reason) (s : State) : State :=
  let (t, queued) := s.queueDeny a.cell .requestRef (f.field 0 1) reason .issueManager
  t.handReport (deniedRequestReport f a reason queued)

/-- A TOOL_REQUEST taken (R127, R128). -/
def State.takeRequest (f : RxFrame) (s : State) : State :=
  if s.isRepeat f.ask then s
  else match s.acceptIssue f.ask with
    | .ok t => t
    | .error reason => s.denyRequest f f.ask reason

/-- TOOL_REQUEST (R127). -/
def execToolRequest (s : State) : Result := s.handOn 0x10 State.takeRequest

/-! ## MOUNTED (R141) -/

/-- The open issue in TRANSIT that a MOUNTED names (R141). -/
def State.mountedIssue (s : State) (c : CellNo) (t m : Nat) : Option IssueNo :=
  (s.openIssues.find? fun p => p.2.phase == .transit && p.2.cell == c && p.2.tool == t && p.2.slot == m).map (·.1)

/-- A late mount: OUT at the cell, one more issue (R141). -/
def Tool.lateMount (c : CellNo) (m : Nat) (x : Tool) : Tool :=
  { x with state := .out, location := .cell c m }.countIssue

/-- A MOUNTED rejected: the DENY, then the report (R141, R198). -/
def State.rejectMount (c : CellNo) (t m : Nat) (s : State) : State :=
  let (u, queued) := s.queueDeny c .tool t .noIssue .issueManager
  u.handReport
    { Report.blank .mountRejected with
      cell := addr c, tool := t, code := Reason.noIssue.code, bit1 := queued
      detail := .plain (le 1 m ++ le 1 (((s.findTool t).map (·.state.code)).getD 0xFF)) }

/-- A MOUNTED that matches no issue in TRANSIT: a late mount, a repeat, or anything else (R141). -/
def State.mountWithoutIssue (c : CellNo) (t m : Nat) (s : State) : State :=
  match s.findTool t with
  | none => s.rejectMount c t m
  | some x =>
    if x.state = .astray ∧ x.last = some (c, m) then
      (s.modTool t (Tool.lateMount c m)).handReport
        { Report.blank .lateMount with
          cell := addr c, tool := t, detail := .plain (le 1 m ++ le 2 (x.lateMount c m).issueCount) }
    else if x.state = .out ∧ x.location = .cell c m then s
    else s.rejectMount c t m

/-- A MOUNTED taken (R141). -/
def State.takeMounted (f : RxFrame) (s : State) : State :=
  match s.mountedIssue f.source (f.field 0 2) (f.field 2 1) with
  | some i => s.closeIssue i .mounted
  | none => s.mountWithoutIssue f.source (f.field 0 2) (f.field 2 1)

/-- MOUNTED (R141). -/
def execMounted (s : State) : Result := s.handOn 0x14 State.takeMounted

/-! ## CANCEL (R145) -/

/-- A denied CANCEL frame: the DENY, then the report (R145, R198). -/
def State.denyCancel (c : CellNo) (id : Nat) (reason : Reason) (s : State) : State :=
  let (t, queued) := s.queueDeny c .issueId id reason .issueManager
  t.handReport
    { Report.blank .requestDenied with
      cell := addr c, issue := id, code := reason.code, bit1 := queued, detail := .plain (le 1 0x18) }

/-- A CANCEL frame taken (R145). -/
def State.takeCancel (f : RxFrame) (s : State) : State :=
  let id := f.field 0 1
  let own := (s.openIndex id).filter fun i => (s.issueRec i).issue.any fun x => x.cell == f.source
  match own with
  | none => s.denyCancel f.source id .noIssue
  | some i =>
    match s.cancelIssue i with
    | (t, .tooLate) => t.denyCancel f.source id .tooLate
    | (t, .notCancellable) => t.denyCancel f.source id .notCancellable
    | (t, _) => t

/-- CANCEL_FRAME (R145). -/
def execCancelFrame (s : State) : Result := s.handOn 0x18 State.takeCancel

/-! ## Answers (R98) -/

/-- The payload of the exchange in flight for a cell. -/
def State.flying (s : State) (c : CellNo) : Option Payload := (s.cell c).inFlight.map (·.payload)

/-- The exchange in flight is the offer of an issue (R98). -/
def State.offerInFlight (s : State) (c : CellNo) (id : Nat) : Bool :=
  match s.flying c with
  | some (.dataOffer i ..) => i == id
  | _ => false

/-- A DATA_TAKEN taken (R98). -/
def State.takeDataTaken (f : RxFrame) (s : State) : State :=
  if s.offerInFlight f.source (f.field 0 1) then State.deliverAll (s.answerEnds f.source (.answered f.payload)) else s

/-- DATA_TAKEN (R98). -/
def execDataTaken (s : State) : Result := s.handOn 0x11 State.takeDataTaken

/-- The reason of a DATA_REFUSED; a code other than 01h..03h counts as OUT_OF_RANGE (R86, R98). -/
def RxFrame.refusal (f : RxFrame) : RefusalReason :=
  match f.field 1 1 with
  | 1 => .slotBusy
  | 3 => .notNow
  | _ => .outOfRange

/-- A DATA_REFUSED taken: NOT_NOW is a deferral, any other reason ends the offer (R98, R99). -/
def State.takeDataRefused (f : RxFrame) (s : State) : State :=
  if s.offerInFlight f.source (f.field 0 1) then
    match f.refusal with
    | .notNow => State.deliverAll (s.deferOffer f.source f.payload)
    | reason => State.deliverAll (s.answerEnds f.source (.refused reason f.payload))
  else s

/-- DATA_REFUSED (R98, R99). -/
def execDataRefused (s : State) : Result := s.handOn 0x12 State.takeDataRefused

/-- The exchange in flight is the withdraw that a WITHDRAWN answers (R98). -/
def State.withdrawInFlight (s : State) (c : CellNo) (id t : Nat) : Bool :=
  match s.flying c with
  | some (.withdraw i tool _) => i == id && (id != 0xFF || tool == t)
  | _ => false

/-- A WITHDRAWN taken (R98). -/
def State.takeWithdrawn (f : RxFrame) (s : State) : State :=
  if s.withdrawInFlight f.source (f.field 0 1) (f.field 1 2) then
    State.deliverAll (s.answerEnds f.source (.answered f.payload))
  else s

/-- WITHDRAWN (R98). -/
def execWithdrawn (s : State) : Result := s.handOn 0x13 State.takeWithdrawn

/-- One more consecutive answer, and the recovery of a CUT_OFF cell at the sixteenth (R114, R118). -/
def State.countPresent (c : CellNo) (s : State) : State :=
  let t := s.modCell c fun x => { x with answers := min 16 (x.answers + 1) }
  if (t.cell c).standing = .cutOff ∧ (t.cell c).answers = 16 then t.makeGood c .pollRecovery else t

/-- A PRESENT taken (R98, R114). A recovery leaves the fault count at 0, which the counted success then keeps. -/
def State.takePresent (f : RxFrame) (s : State) : State :=
  if s.flying f.source = some .poll then
    State.deliverAll ((s.countPresent f.source).answerEnds f.source (.answered f.payload))
  else s

/-- PRESENT (R98, R114, R118). -/
def execPresent (s : State) : Result := s.handOn 0x17 State.takePresent

end Sys2Proof.Machine
end

