-- ==== Sys2Proof/Machine/Life.lean ====
section
/-! DEFINITION. The meanings of USAGE and RETURN_NOTICE, the frames of the Life and Return Handler (R152 to R158). -/

namespace Sys2Proof.Machine

/-! ## The considered state (R152) -/

/-- The order in a slot is a RETURN. -/
def State.isReturn (s : State) (n : SlotNo) : Bool :=
  match s.work n with
  | .returning _ => true
  | _ => false

/-- The RETURN context that claims a record (R152). -/
def State.returnSlot (s : State) (x : Tool) : Option SlotNo :=
  match x.claim with
  | some (.slot n) => if s.isReturn n then some n else none
  | _ => none

/-- The considered state of a record; none when another owner claims it (R152). -/
def State.considered (s : State) (x : Tool) : Option ToolState :=
  if x.state ≠ .claimed then some x.state
  else if (s.returnSlot x).isSome then x.stateBefore
  else none

/-- The considered state changed: the state, or the state before claim of a claimed record (R152). -/
def Tool.setConsidered (st : ToolState) (x : Tool) : Tool :=
  if x.state = .claimed then { x with stateBefore := some st } else { x with state := st }

/-! ## Life (R153 to R155) -/

/-- An increment added to life used, saturating (R2, R153). -/
def Tool.addLife (n : Nat) (x : Tool) : Tool := { x with lifeUsed := min 65535 (x.lifeUsed + n) }

/-- LIFE_WARNING is due (R154). -/
def Tool.warningDue (x : Tool) : Bool := !x.warningSent && x.threshold ≤ x.lifeUsed

/-- LIFE_END is due (R154). -/
def Tool.endDue (x : Tool) : Bool := !x.lifeEnded && x.lifeLimit ≤ x.lifeUsed

/-- A LIFE_WARNING report (R154, R198). -/
def lifeWarningReport (c : CellNo) (x : Tool) : Report :=
  { Report.blank .lifeWarning with
    cell := addr c, tool := x.number
    detail := .plain (le 2 x.lifeUsed ++ le 2 x.lifeLimit ++ le 2 x.threshold ++ le 1 x.lifeUnit.code) }

/-- A LIFE_END report (R154, R198). -/
def lifeEndReport (c : CellNo) (x : Tool) (follows : Bool) : Report :=
  { Report.blank .lifeEnd with
    cell := addr c, tool := x.number, bit1 := follows
    detail := .plain (le 2 x.lifeUsed ++ le 2 x.lifeLimit ++ le 1 x.lifeUnit.code) }

/-- The checks of R154 after an increment: the flags set, LIFE_WARNING and then LIFE_END written. -/
def State.lifeChecks (c : CellNo) (t : Nat) (follows : Bool) (s : State) : State :=
  match s.findTool t with
  | none => s
  | some x =>
    let u := s.modTool t fun y =>
      { y with warningSent := y.warningSent || x.warningDue, lifeEnded := y.lifeEnded || x.endDue }
    let v := if x.warningDue then u.handReport (lifeWarningReport c x) else u
    if x.endDue then v.handReport (lifeEndReport c x follows) else v

/-- An increment added and checked; an increment of 0 adds nothing and checks nothing (R153, R158). -/
def State.addIncrement (c : CellNo) (t n : Nat) (follows : Bool) (s : State) : State :=
  if n = 0 then s else (s.modTool t (Tool.addLife n)).lifeChecks c t follows

/-- The cause of a refused LIFE_END (R155). -/
def QueueRefusal.cause : QueueRefusal → UndeliveredCause
  | .queueFull => .queueFull
  | .cutOff => .cutOff

/-- The LIFE_END exchange of a tool whose life an accepted USAGE ended (R155). -/
def State.queueLifeEnd (c : CellNo) (t : Nat) (s : State) : State :=
  match s.queueExchange c (.lifeEnd t) .lifeHandler with
  | (u, none) => u
  | (u, some refusal) => u.reportUndelivered c t refusal.cause 0

/-! ## USAGE (R153, R156) -/

/-- A record is at a cell (R153). -/
def Tool.atCell (c : CellNo) (x : Tool) : Bool :=
  match x.location with
  | .cell d _ => d == c
  | _ => false

/-- An accepted USAGE (R153 to R155). -/
def State.acceptUsage (c : CellNo) (x : Tool) (n : Nat) (s : State) : State :=
  let ends := n ≠ 0 ∧ (x.addLife n).endDue = true
  let t := s.addIncrement c x.number n true
  if ends then t.queueLifeEnd c x.number else t

/-- Pocket, or cell and magazine slot, of a location, in 2 bytes (R198). -/
def placeField : Location → List Byte
  | .pocket p => le 2 p.val
  | .cell c m => le 1 (addr c) ++ le 1 m
  | .presetter | .loose => le 2 0

/-- The detail of USAGE_REJECTED about the record; log 18 for a tool with none (R198). -/
def rejectedDetail : Option Tool → List Byte
  | none => le 1 0xFF ++ le 1 0xFF ++ le 2 0 ++ le 2 0
  | some x =>
    le 1 x.state.code ++ le 1 x.location.code ++ placeField x.location ++
      optField 2 (x.last.map fun l => le 1 (addr l.1) ++ le 1 l.2)

/-- A rejected USAGE: the DENY, then the report (R156, R198). -/
def State.rejectUsage (c : CellNo) (t n : Nat) (s : State) : State :=
  let (u, queued) := s.queueDeny c .tool t .notMounted .lifeHandler
  u.handReport
    { Report.blank .usageRejected with
      cell := addr c, tool := t, code := Reason.notMounted.code, bit1 := queued
      detail := .plain (le 2 n ++ rejectedDetail (s.findTool t)) }

/-- A USAGE taken (R153, R156). -/
def State.takeUsage (f : RxFrame) (s : State) : State :=
  let c := f.source
  let t := f.field 0 2
  let n := f.field 2 2
  match s.findTool t with
  | none => s.rejectUsage c t n
  | some x => if s.considered x = some .out ∧ x.atCell c = true then s.acceptUsage c x n else s.rejectUsage c t n

/-- USAGE (R153). -/
def execUsage (s : State) : Result := s.handOn 0x15 State.takeUsage

/-! ## RETURN_NOTICE (R157, R158) -/

/-- The slot of a record's last cell, where that is this cell. -/
def Tool.lastAt (c : CellNo) (x : Tool) : Bool := x.last.any fun l => l.1 == c

/-- The checks of R157 that can fail, in order. -/
def State.noticeCheck (s : State) (c : CellNo) (rec? : Option Tool) : Option Reason :=
  if s.allowed c (rec?.map (·.cls)) .returnTool = false then some .noRight
  else match rec? with
    | none => some .unknownTool
    | some x =>
      let st := s.considered x
      if (st = some .out ∧ x.atCell c = true) ∨ (st = some .astray ∧ x.lastAt c = true) then none
      else some .notMounted

/-- A denied RETURN_NOTICE: the DENY, then the report (R157, R198). -/
def State.denyNotice (c : CellNo) (t n : Nat) (reason : Reason) (s : State) : State :=
  let (u, queued) := s.queueDeny c .tool t reason .lifeHandler
  u.handReport
    { Report.blank .requestDenied with
      cell := addr c, tool := t, code := reason.code, bit1 := queued
      detail := .plain (le 1 0x16 ++ le 1 0 ++ le 1 0 ++ le 1 0 ++ le 1 0 ++ le 2 n) }

/-- The tool RETURNING at LOOSE; an ASTRAY one counts the mount that was not seen (R158). -/
def Tool.noticed (before : ToolState) (x : Tool) : Tool :=
  let y := match x.location with
    | .cell c m => { x with last := some (c, m) }
    | _ => x
  let z := if before = .astray then y.countIssue else y
  { z with location := .loose }.setConsidered .returning

/-- A RETURN_NOTED report (R158, R198). -/
def State.returnNotedReport (s : State) (c : CellNo) (x : Tool) (n : Nat) (before : ToolState) : Report :=
  { Report.blank .returnNoted with
    cell := addr c, tool := x.number, bit2 := x.warningSent, bit3 := x.lifeEnded
    detail := .plain (le 1 ((x.last.map (·.2)).getD 0) ++ le 2 n ++ le 2 x.lifeUsed ++ le 1 before.code ++
      le 1 (((s.returnSlot x).map (·.val)).getD 0xFF)) }

/-- An accepted RETURN_NOTICE: the increment with its checks, RETURNING at LOOSE, the report (R158). -/
def State.acceptNotice (c : CellNo) (t n : Nat) (before : ToolState) (s : State) : State :=
  let u := (s.addIncrement c t n false).modTool t (Tool.noticed before)
  match u.findTool t with
  | some y => u.handReport (u.returnNotedReport c y n before)
  | none => u

/-- A RETURN_NOTICE taken: a repeat, denied, or accepted (R157, R158). -/
def State.takeNotice (f : RxFrame) (s : State) : State :=
  let c := f.source
  let t := f.field 0 2
  let n := f.field 2 2
  let rec? := s.findTool t
  if rec?.any (fun x => s.considered x == some .returning && x.lastAt c) then s
  else match s.noticeCheck c rec? with
    | some reason => s.denyNotice c t n reason
    | none => s.acceptNotice c t n ((rec?.bind s.considered).getD .out)

/-- RETURN_NOTICE (R157). -/
def execReturnNotice (s : State) : Result := s.handOn 0x16 State.takeNotice

end Sys2Proof.Machine
end

