-- ==== Sys2Proof/Machine/OrdersScan.lean ====
section
/-! DEFINITION. The meaning of SCAN (R190, R191). -/

namespace Sys2Proof.Machine

/-- An entry of a list: the index, cell or position it stands for, and its bytes. -/
abbrev ScanEntry := Nat × List Byte

/-- POCKETS: pockets out of order from the start index on (R190, R191; layout log 14). -/
def State.scanPockets (s : State) (start : Nat) : List ScanEntry :=
  (s.pocketsWhere fun p k => start ≤ p.val && (k.fault != .clear || k.away || k.mismatch)).map fun p =>
    let k := s.pocket p
    (p.val, fit 16 (le 1 (presence [k.content.isSome, k.claim.isSome]) ++ le 2 p.val ++ le 2 (k.content.getD 0) ++
      le 1 k.sensor.code ++ le 1 k.lock.code ++ le 1 k.fault.code ++ le 2 (k.claim.getD 0) ++ le 4 k.stamp.toNat))

/-- The bytes of one open issue (R191; layout log 14). -/
def Issue.scanBytes (id : Nat) (x : Issue) : List Byte :=
  fit 48 (le 1 (presence ([x.failure.isSome, x.request.isSome] ++ x.stamps.map (·.isSome))) ++ le 1 id ++ le 2 x.tool ++
    le 1 (addr x.cell) ++ le 1 x.slot ++ x.origin.bytes ++ flag x.byClass.isSome ++ le 1 (x.byClass.getD 0) ++
    le 1 x.phase.code ++ le 1 x.offer.code ++ flag x.cancelPending ++ le 2 ((x.failure.map (·.code)).getD 0) ++
    le 2 x.pocket.val ++ le 2 (x.request.getD 0) ++ le 1 x.tries ++ le 1 x.deferrals ++ le 2 x.losses ++
    le 1 x.withdraw.code ++ x.stamps.flatMap stampField)

/-- ISSUES: open issues from the start index on (R190, R191). -/
def State.scanIssues (s : State) (start : Nat) : List ScanEntry :=
  (s.openIssues.filter fun p => start ≤ p.1.val).map fun p => (p.1.val, p.2.scanBytes (s.issueId p.1))

/-- CELLS: every cell from the start index on (R190, R191; layout log 14). -/
def State.scanCells (s : State) (start : Nat) : List ScanEntry :=
  ((List.finRange 24).filter fun c => start ≤ addr c).map fun c =>
    let x := s.cell c
    let e := x.inFlight
    (addr c, fit 16 (le 1 (addr c) ++ flag x.enabled ++ le 1 x.magSize ++
      le 1 x.issueLimit ++ le 1 (s.openCount c) ++ le 1 x.standing.code ++ le 2 x.faultCount ++ le 1 x.answers ++
      le 1 x.queue.length ++ le 1 ((e.map (·.payload.kindCode)).getD 0) ++ le 1 ((e.map (·.triesUsed)).getD 0) ++
      le 4 x.lastGrant.toNat))

/-- A request put in its place by pocket, rising. -/
def insertByPocket (r : Request) : List Request → List Request
  | [] => [r]
  | q :: qs => if r.pocket ≤ q.pocket then r :: q :: qs else q :: insertByPocket r qs

/-- The requests as SCAN lists them: the QUEUED ones in queue order, then the others in pocket order (R190). -/
def State.requestList (s : State) : List Request :=
  (s.crib.requests.filter fun r => r.state == .queued) ++
    (s.crib.requests.filter fun r => r.state != .queued).foldr insertByPocket []

/-- The bytes of one request at a position of the list (R191; layout log 14). -/
def State.requestBytes (s : State) (pos : Nat) (r : Request) : List Byte :=
  let queued := r.state == .queued
  let expiry := r.window.map fun w => s.clock + BitVec.ofNat 32 w
  fit 20 (le 1 (presence [r.tool.isSome, queued, expiry.isSome, r.outcome.isSome]) ++ le 2 r.number ++
    le 1 r.movement.code ++ le 2 r.pocket.val ++ le 2 (r.tool.getD 0) ++ claimField r.owner ++ le 1 r.state.code ++
    flag r.movement.inserts ++ le 1 (if queued then pos else 0) ++ stampField expiry ++
    le 1 ((r.outcome.map (·.code)).getD 0))

/-- REQUESTS: the list from the start position on (R190). -/
def State.scanRequests (s : State) (start : Nat) : List ScanEntry :=
  (s.requestList.zipIdx.filter fun p => start ≤ p.2).map fun p => (p.2, s.requestBytes p.2 p.1)

/-- The list of a SCAN written as far as the buffer holds whole entries (R183, R190). No presence mask stands in the result (log
52). -/
def State.writeScan (n : SlotNo) (start size bufLength : Nat) (extra : List Byte) (entries : List ScanEntry)
    (s : State) : State :=
  let written := entries.take (bufLength / size)
  let next := (written.getLast?.map fun e => e.1 + 1).getD start
  s.completeWith n .ok (le 2 written.length ++ le 2 next ++ flag (written.length < entries.length) ++ extra)
    (written.flatMap (·.2))

/-- The work of SCAN: scan kind, start index (R190). The group that REQUESTS carries has no presence bit (log 52). -/
def doScan (img : SlotImage) (n : SlotNo) (s : State) : State :=
  let start := par2 img 1
  let len := img.bufLength.toNat
  match par1 img 0 with
  | 0 => if start ≤ 511 then s.writeScan n start 16 len [] (s.scanPockets start) else s.refuse n .badParam
  | 1 => if start ≤ 31 then s.writeScan n start 48 len [] (s.scanIssues start) else s.refuse n .badParam
  | 2 =>
    if 1 ≤ start ∧ start ≤ 24 then s.writeScan n start 16 len [] (s.scanCells start) else s.refuse n .badParam
  | 3 =>
    if start ≤ 23 then
      s.writeScan n start 20 len (le 1 s.crib.lockBudget ++ le 2 s.budgetCount ++ le 1 s.queuedCount)
        (s.scanRequests start)
    else s.refuse n .badParam
  | _ => s.refuse n .badParam

/-- SCAN (R190, R191). -/
def execScan (img : SlotImage) (s : State) : Result := .next (s.takeOrder .scan img (doScan img))

end Sys2Proof.Machine
end

