-- ==== Sys2Proof/Machine/OrdersSetup.lean ====
section
/-! DEFINITION. The meanings of the orders that configure the part and change the service state: SET_CELL, SET_RIGHT, SET_DRAWER,
SET_LIMITS, LOCK_LAYOUT, START_SERVICE, STOP_SERVICE, RESTORE_CELL (R30 to R32, R111, R119, R123, R186 to R189). -/

namespace Sys2Proof.Machine

/-! ## SET_CELL (R111) -/

/-- The three configuration bytes of a cell record (R111). -/
def Cell.config (x : Cell) : List Byte := flag x.enabled ++ le 1 x.magSize ++ le 1 x.issueLimit

/-- The work of SET_CELL: cell, enabled, magazine size, open-issue limit (R111). -/
def doSetCell (img : SlotImage) (n : SlotNo) (s : State) : State :=
  let limit := par1 img 3
  match asCell (par1 img 0) with
  | some c =>
    if par1 img 1 ≤ 1 ∧ goodSlot (par1 img 2) = true ∧ limit ≤ 8 then
      let t := s.modCell c fun x =>
        { x with enabled := parFlag img 1, magSize := par1 img 2, issueLimit := if limit = 0 then 4 else limit }
      t.complete n .ok ((s.cell c).config ++ (t.cell c).config)
    else s.refuse n .badParam
  | none => s.refuse n .badParam

/-- SET_CELL (R111). -/
def execSetCell (img : SlotImage) (s : State) : Result := .next (s.takeOrder .setCell img (doSetCell img))

/-! ## SET_RIGHT (R123) -/

/-- A permission set as a mask (R176). -/
def Perms.mask (p : Perms) : Nat := presence [p.byNumber, p.byClass, p.returnTool]

/-- An entry's fields (R121, R123). -/
def Right.bytes (r : Right) : List Byte :=
  flag r.enabled ++ le 4 r.cells.toNat ++ [r.value, r.mask] ++ le 1 r.perms.mask

/-- The entry that the parameters give (R123). -/
def rightOf (img : SlotImage) : Right :=
  { enabled := parFlag img 1, cells := BitVec.ofNat 24 (par4 img 2), value := BitVec.ofNat 8 (par1 img 6)
    mask := BitVec.ofNat 8 (par1 img 7)
    perms := ⟨(par1 img 8).testBit 0, (par1 img 8).testBit 1, (par1 img 8).testBit 2⟩ }

/-- The work of SET_RIGHT (R123): entry, enabled, cell set, class value, class mask, permissions. -/
def doSetRight (img : SlotImage) (n : SlotNo) (s : State) : State :=
  match asFin 16 (par1 img 0) with
  | some i =>
    if par4 img 2 < 0x1000000 ∧ par1 img 8 < 8 then
      if s.crib.layoutLock then s.refuse n .layoutLocked
      else
        (s.modLink fun l => { l with rights := l.rights.set i.1 (rightOf img) i.2 }).complete n .ok
          (s.link.rights.get i).bytes
    else s.refuse n .badParam
  | none => s.refuse n .badParam

/-- SET_RIGHT (R123). -/
def execSetRight (img : SlotImage) (s : State) : Result := .next (s.takeOrder .setRight img (doSetRight img))

/-! ## SET_DRAWER (R31, R32) -/

/-- The change that the layout lock allows: none, or a narrowing (R31). -/
def Attribute.mayBecome (old new : Attribute) : Bool :=
  new == old || old == .openAll || new == .closed

/-- The queued requests of a drawer that its attribute does not permit, oldest first (R32). -/
def State.closedOut (s : State) (d : Fin 16) : List Request :=
  s.crib.requests.filter fun r =>
    r.state == .queued && drawerOf r.pocket == d && !(s.crib.drawers.get d).permits r.movement

/-- One of them ended DRAWER_CLOSED (R32). -/
def State.endClosed (s : State) (r : Request) : State := (s.endRequest r).deliverMove r.owner .drawerClosed

/-- The work of SET_DRAWER: drawer, attribute (R31, R32). -/
def doSetDrawer (img : SlotImage) (n : SlotNo) (s : State) : State :=
  match asFin 16 (par1 img 0), asAttribute (par1 img 1) with
  | some d, some a =>
    let old := s.crib.drawers.get d
    if s.crib.layoutLock = true ∧ old.mayBecome a = false then s.refuse n .layoutLocked
    else
      let t := s.modCrib fun c => { c with drawers := c.drawers.set d.1 a d.2 }
      let ended := t.closedOut d
      (ended.foldl State.endClosed t).complete n .ok
        (le 1 d.val ++ le 1 old.code ++ le 1 a.code ++ le 1 ended.length)
  | _, _ => s.refuse n .badParam

/-- SET_DRAWER (R31). -/
def execSetDrawer (img : SlotImage) (s : State) : Result := .next (s.takeOrder .setDrawer img (doSetDrawer img))

/-! ## SET_LIMITS (R188) -/

/-- The nineteen limits in the order of R188, two for each row that names two. -/
structure Limits where
  lockBudget        : Nat
  pickupWindow      : Nat
  insertWindow      : Nat
  spreadLimit       : Nat
  touches           : Nat
  seatWindow        : Nat
  touchWindow       : Nat
  homeWindow        : Nat
  zSoft             : Nat
  xSoft             : Nat
  masterLength      : Nat
  masterRadius      : Nat
  answerWindow      : Nat
  retryLimit        : Nat
  deferralDelay     : Nat
  broadcastInterval : Nat
  pollInterval      : Nat
  holdTime          : Nat
  transitWindow     : Nat
  deriving DecidableEq, Repr

/-- The limits in force. -/
def State.limits (s : State) : Limits :=
  { lockBudget := s.crib.lockBudget, pickupWindow := s.crib.pickupWindow, insertWindow := s.crib.insertWindow
    spreadLimit := s.presetter.spreadLimit, touches := s.presetter.touches, seatWindow := s.presetter.seatWindow
    touchWindow := s.presetter.touchWindow, homeWindow := s.presetter.homeWindow, zSoft := s.presetter.z.softLimit
    xSoft := s.presetter.x.softLimit, masterLength := s.presetter.masterLength
    masterRadius := s.presetter.masterRadius, answerWindow := s.link.answerWindow, retryLimit := s.link.retryLimit
    deferralDelay := s.link.deferralDelay, broadcastInterval := s.link.broadcastInterval
    pollInterval := s.link.pollInterval, holdTime := s.link.holdTime, transitWindow := s.issues.transitWindow }

/-- The limits that an order gives: a value where its bit is set, the one in force elsewhere (R188). -/
def limitsOf (img : SlotImage) (l : Limits) : Limits :=
  let pick := fun (bit v old : Nat) => if (par4 img 0).testBit bit then v else old
  { lockBudget := pick 0 (par1 img 4) l.lockBudget, pickupWindow := pick 1 (par1 img 5) l.pickupWindow
    insertWindow := pick 2 (par1 img 6) l.insertWindow, spreadLimit := pick 3 (par1 img 7) l.spreadLimit
    touches := pick 4 (par1 img 8) l.touches, seatWindow := pick 5 (par2 img 9) l.seatWindow
    touchWindow := pick 6 (par2 img 11) l.touchWindow, homeWindow := pick 7 (par2 img 13) l.homeWindow
    zSoft := pick 8 (par4 img 15) l.zSoft, xSoft := pick 9 (par4 img 19) l.xSoft
    masterLength := pick 10 (par4 img 23) l.masterLength, masterRadius := pick 11 (par4 img 27) l.masterRadius
    answerWindow := pick 12 (par2 img 31) l.answerWindow, retryLimit := pick 13 (par1 img 33) l.retryLimit
    deferralDelay := pick 14 (par2 img 34) l.deferralDelay
    broadcastInterval := pick 15 (par2 img 36) l.broadcastInterval
    pollInterval := pick 16 (par2 img 38) l.pollInterval, holdTime := pick 17 (par2 img 40) l.holdTime
    transitWindow := pick 18 (par1 img 42) l.transitWindow }

/-- A value lies in a range. -/
def inRange (lo hi v : Nat) : Bool := lo ≤ v && v ≤ hi

/-- Every present value lies in its range (R188); `mask` is the presence mask. -/
def Limits.valid (mask : Nat) (l : Limits) : Bool :=
  let ok := fun (bit : Nat) (good : Bool) => !mask.testBit bit || good
  ok 0 (inRange 1 8 l.lockBudget) && ok 1 (inRange 5 255 l.pickupWindow) && ok 2 (inRange 5 255 l.insertWindow) &&
    ok 3 (inRange 0 255 l.spreadLimit) && ok 4 (inRange 1 8 l.touches) && ok 5 (inRange 10 600 l.seatWindow) &&
    ok 6 (inRange 5 600 l.touchWindow) && ok 7 (inRange 10 600 l.homeWindow) && ok 8 (inRange 0 1048575 l.zSoft) &&
    ok 9 (inRange 0 1048575 l.xSoft) && ok 10 (inRange 0 999999 l.masterLength) &&
    ok 11 (inRange 0 999999 l.masterRadius) && ok 12 (inRange 20 1000 l.answerWindow) &&
    ok 13 (inRange 0 15 l.retryLimit) && ok 14 (inRange 100 10000 l.deferralDelay) &&
    ok 15 (l.broadcastInterval == 0 || inRange 200 10000 l.broadcastInterval) &&
    ok 16 (l.pollInterval == 0 || inRange 100 10000 l.pollInterval) && ok 17 (inRange 100 10000 l.holdTime) &&
    ok 18 (inRange 1 60 l.transitWindow)

/-- The limits stored (R188). -/
def State.storeLimits (l : Limits) (s : State) : State :=
  { s with
    crib := { s.crib with lockBudget := l.lockBudget, pickupWindow := l.pickupWindow, insertWindow := l.insertWindow }
    presetter :=
      { s.presetter with
        spreadLimit := l.spreadLimit, touches := l.touches, seatWindow := l.seatWindow, touchWindow := l.touchWindow
        homeWindow := l.homeWindow, z := { s.presetter.z with softLimit := l.zSoft }
        x := { s.presetter.x with softLimit := l.xSoft }, masterLength := l.masterLength
        masterRadius := l.masterRadius }
    link :=
      { s.link with
        answerWindow := l.answerWindow, retryLimit := l.retryLimit, deferralDelay := l.deferralDelay
        broadcastInterval := l.broadcastInterval, pollInterval := l.pollInterval, holdTime := l.holdTime }
    issues := { s.issues with transitWindow := l.transitWindow } }

/-- The nineteen values of the result (R188). -/
def Limits.bytes (l : Limits) : List Byte :=
  le 1 l.lockBudget ++ le 1 l.pickupWindow ++ le 1 l.insertWindow ++ le 1 l.spreadLimit ++ le 1 l.touches ++
    le 2 l.seatWindow ++ le 2 l.touchWindow ++ le 2 l.homeWindow ++ le 4 l.zSoft ++ le 4 l.xSoft ++
    le 4 l.masterLength ++ le 4 l.masterRadius ++ le 2 l.answerWindow ++ le 1 l.retryLimit ++
    le 2 l.deferralDelay ++ le 2 l.broadcastInterval ++ le 2 l.pollInterval ++ le 2 l.holdTime ++
    le 1 l.transitWindow

/-- The broadcast timer restarted by an order that carries its interval (R107, log 39). -/
def State.restartBroadcast (given : Bool) (s : State) : State :=
  if given = true ∧ s.reports.stalled = false then
    s.modLink fun l => { l with broadcastTimer := startTimer l.broadcastInterval }
  else s

/-- The work of SET_LIMITS (R188): a raised budget starts queued requests (R37, R38). -/
def doSetLimits (img : SlotImage) (n : SlotNo) (s : State) : State :=
  let l := limitsOf img s.limits
  if l.valid (par4 img 0) = false then s.refuse n .badParam
  else if (par4 img 0).testBit 0 = true ∧ s.crib.layoutLock = true then s.refuse n .layoutLocked
  else
    let t := (s.storeLimits l).restartBroadcast ((par4 img 0).testBit 15)
    let u := if s.crib.lockBudget < l.lockBudget then t.startQueued else t
    u.complete n .ok l.bytes

/-- SET_LIMITS (R188). -/
def execSetLimits (img : SlotImage) (s : State) : Result := .next (s.takeOrder .setLimits img (doSetLimits img))

/-! ## LOCK_LAYOUT (R30, R189) -/

/-- The work of LOCK_LAYOUT (R30, R189). -/
def doLockLayout (n : SlotNo) (s : State) : State :=
  (s.modCrib fun c => { c with layoutLock := true }).complete n .ok (flag s.crib.layoutLock)

/-- LOCK_LAYOUT (R30, R189). -/
def execLockLayout (img : SlotImage) (s : State) : Result := .next (s.takeOrder .lockLayout img doLockLayout)

/-! ## START_SERVICE and STOP_SERVICE (R102, R186, R187) -/

/-- SERVICE entered: a CRIB_STATE placed, the poll timer started (R102, R186). -/
def State.enterService (s : State) : State :=
  ((s.modOrder fun o => { o with service := .service }).placeCribState).modLink fun l =>
    { l with pollTimer := startTimer l.pollInterval }

/-- The work of START_SERVICE (R47, R186). The pocket of a refusal has no presence bit (log 52). -/
def doStartService (n : SlotNo) (s : State) : State :=
  match s.startServiceCheck with
  | some (st, p) => s.complete n st (le 2 p.val)
  | none => s.enterService.complete n .ok []

/-- START_SERVICE (R186). -/
def execStartService (img : SlotImage) (s : State) : Result := .next (s.takeOrder .startService img doStartService)

/-- The first obstacle to STOP_SERVICE: its kind and number (R187). -/
def State.stopObstacle (s : State) : Option (Nat × Nat) :=
  match s.openIssues.head?, (s.pocketsWhere fun _ k => k.away).head?, s.crib.requests.head?,
    (indices fun n : SlotNo => (s.slot n).context.any (·.long)).head? with
  | some (i, _), _, _, _ => some (0, s.issueId i)
  | none, some p, _, _ => some (1, p.val)
  | none, none, some r, _ => some (1, r.number)
  | none, none, none, some n => some (2, n.val)
  | none, none, none, none => none

/-- The POLLs removed without an outcome (R102). -/
def State.dropPolls (s : State) : State :=
  let inFlight := fun c : CellNo => (s.cell c).inFlight.any Exchange.isPoll
  s.modLink fun l =>
    { l with
      cells := mapVec (fun x => { x with queue := x.queue.filter fun e => !e.isPoll }) l.cells
      attempt := l.attempt.map fun a =>
        if (a.exchange.map (·.1)).any inFlight then { a with attached := false } else a
      pollTimer := none }

/-- SETUP entered (R102, R187). -/
def State.enterSetup (s : State) : State :=
  ((s.modOrder fun o => { o with service := .setup }).dropPolls).grantBuffers

/-- The work of STOP_SERVICE (R187). The obstacle of a refusal has no presence bit (log 52). -/
def doStopService (n : SlotNo) (s : State) : State :=
  match s.stopObstacle with
  | some (kind, number) => s.complete n .busy (le 1 kind ++ le 2 number)
  | none => s.enterSetup.complete n .ok []

/-- STOP_SERVICE (R187). -/
def execStopService (img : SlotImage) (s : State) : Result := .next (s.takeOrder .stopService img doStopService)

/-! ## RESTORE_CELL (R119) -/

/-- The work of RESTORE_CELL (R119). -/
def doRestoreCell (img : SlotImage) (n : SlotNo) (s : State) : State :=
  match asCell (par1 img 0) with
  | some c =>
    if (s.cell c).standing = .good then s.refuse n .wrongState
    else
      (s.makeGood c .restore).complete n .ok (le 1 (s.cell c).standing.code ++ le 2 (s.cell c).faultCount)
  | none => s.refuse n .badParam

/-- RESTORE_CELL (R119). -/
def execRestoreCell (img : SlotImage) (s : State) : Result := .next (s.takeOrder .restoreCell img (doRestoreCell img))

end Sys2Proof.Machine
end

