-- ==== Sys2Proof/Machine/OrdersTools.lean ====
section
/-! DEFINITION. The meanings of the orders on tool records: ENROL, REMOVE, READ_TOOL, FIND, SET_LIFE, REGRIND (R10 to R20). -/

namespace Sys2Proof.Machine

/-! ## ENROL (R10 to R13) -/

/-- A location field of the parameters (R10, R176). -/
def parLocation (img : SlotImage) (i : Nat) : Option Location :=
  match par1 img i with
  | 0 => (asFin 512 (par2 img (i + 1))).map Location.pocket
  | 1 => if goodSlot (par1 img (i + 2)) then (asCell (par1 img (i + 1))).map fun c => .cell c (par1 img (i + 2)) else none
  | 2 => some .presetter
  | 3 => some .loose
  | _ => none

/-- A measured size lies in its range (R1). -/
def goodMeasure (v : Int) : Bool := -2097152 ≤ v && v ≤ 2097151

/-- The parameters of ENROL in the order of R10; none when a value is out of range (R11, first row). -/
def enrolParams (img : SlotImage) (now : Stamp) : Option Tool := do
  let mask := par1 img 0
  let loc ← parLocation img 4
  let life ← asUnit (par1 img 29)
  let percent ← asPercent (par1 img 32)
  let homeNo := asFin 512 (par2 img 7)
  let len := parInt img 21
  let rad := parInt img 25
  if goodTool (par2 img 1) = true ∧ (mask.testBit 0 → homeNo.isSome) ∧ par4 img 9 ≤ 999999 ∧ par4 img 13 ≤ 999999 ∧
      (mask.testBit 1 → goodMeasure len = true ∧ goodMeasure rad = true) ∧ 1 ≤ par2 img 30 ∧ par1 img 36 ≤ 15 ∧
      par1 img 35 ≤ par1 img 36 then
    some
      { number := par2 img 1, cls := par1 img 3, state := .unmeasured, stateBefore := none, claim := none
        location := loc, last := none, home := if mask.testBit 0 then homeNo else none
        nominalLength := par4 img 9, nominalRadius := par4 img 13, lengthTol := par2 img 17
        radiusTol := par2 img 19
        geometry := optPar mask 1 { length := len, radius := rad, stamp := now, generation := 0 }
        outOfTol := false, lifeUnit := life, lifeLimit := par2 img 30, lifeUsed := par2 img 33
        warnPercent := percent, warningSent := false, lifeEnded := false, regrinds := par1 img 35
        regrindMax := par1 img 36, issueCount := par2 img 37 }
  else none

/-- The warning sent and life ended flags set from life used as it stands (R12, R19). -/
def Tool.setFlags (x : Tool) : Tool :=
  { x with warningSent := x.threshold ≤ x.lifeUsed, lifeEnded := x.lifeLimit ≤ x.lifeUsed }

/-- The derived state of a new record (R12). -/
def Tool.derivedState (x : Tool) : ToolState :=
  match x.location with
  | .cell _ _ => .out
  | loc =>
    if x.lifeEnded then .worn
    else if x.geometry.isNone then .unmeasured
    else if x.inTolerance = false then .quarantine
    else match loc with
      | .pocket _ => .ready
      | _ => .passed

/-- A new record with its derived fields (R3, R4, R12). -/
def Tool.enrolled (x : Tool) : Tool :=
  let y := { x.setFlags with outOfTol := x.geometry.isSome && !x.inTolerance }
  { y with
    state := y.derivedState
    home := match y.home, y.location with
      | some h, _ => some h
      | none, .pocket p => some p
      | none, _ => none
    last := match y.location with
      | .cell c m => some (c, m)
      | _ => none }

/-- The checks of R11 after the parameters, in order. -/
def State.enrolCheck (s : State) (x : Tool) : Option Status :=
  let fixedPlace := match x.location with | .pocket _ | .cell _ _ => true | _ => false
  if fixedPlace = true ∧ s.inService = true then some .wrongState
  else if (s.findTool x.number).isSome then some .toolExists
  else if Config.maxTools ≤ s.tools.length then some .tableFull
  else match x.location with
    | .pocket p =>
      if (s.pocket p).content.isSome ∨ (s.pocket p).claim.isSome then some .pocketTaken else none
    | .cell c m => if s.tools.any (fun y => y.occupies c m) then some .slotOccupied else none
    | .presetter =>
      if s.cycleBusy then some .stationBusy
      else if s.tools.any (fun y => y.location == .presetter) then some .stationOccupied
      else none
    | .loose => none

/-- The pocket's side of an ENROL at POCKET p (R13). -/
def State.enrolPocket (x : Tool) (s : State) : State :=
  match x.location with
  | .pocket p =>
    s.changePocket p fun k =>
      { k with
        content := some x.number
        fault := if k.fault = .unknownItem ∧ k.sensor = .present then .clear else k.fault }
  | _ => s

/-- The work of ENROL (R10 to R13). -/
def doEnrol (img : SlotImage) (n : SlotNo) (s : State) : State :=
  match enrolParams img s.clock with
  | none => s.refuse n .badParam
  | some x =>
    match s.enrolCheck x with
    | some st => s.refuse n st
    | none =>
      let y := x.enrolled
      ((s.modTools (putTool y)).enrolPocket y).complete n .ok (le 2 y.number ++ le 1 y.state.code)

/-- ENROL (R10 to R13). -/
def execEnrol (img : SlotImage) (s : State) : Result := .next (s.takeOrder .enrol img (doEnrol img))

/-! ## REMOVE (R14 to R16) -/

/-- A REMOVE of a pocketed tool in SERVICE: checks, claim and REMOVE_OUT request (R15). -/
def State.removeFromPocket (n : SlotNo) (t : Nat) (p : PocketNo) (s : State) : State :=
  if (s.pocket p).stocked = false then s.refuse n .notStocked
  else if (s.attributeOf p).permits .removeOut = false then s.refuse n .drawerDenies
  else
    match (s.claimTool t (.slot n)).requestRemoval .removeOut p (.slot n) with
    | (u, .made num _) => u.setWork n (.remove t num)
    | (u, .denied st) => (u.releaseBack t).refuse n st

/-- The work of REMOVE (R14). -/
def doRemove (img : SlotImage) (n : SlotNo) (s : State) : State :=
  let t := par2 img 0
  if goodTool t = false then s.refuse n .badParam
  else match s.findTool t with
    | none => s.refuse n .unknownTool
    | some x =>
      if x.state = .claimed then s.refuse n .busy
      else match x.location with
        | .pocket p =>
          if s.inService then s.removeFromPocket n t p
          else
            ((s.dropTool t).changePocket p fun k => { k with content := none }).complete n .ok
              (removeResult t x.state)
        | _ => (s.dropTool t).complete n .ok (removeResult t x.state)

/-- REMOVE (R14 to R16). -/
def execRemove (img : SlotImage) (s : State) : Result := .next (s.takeOrder .remove img (doRemove img))

/-! ## READ_TOOL (R17) -/

/-- Geometry fields (R17). -/
def Geometry.bytes (g : Geometry) : List Byte :=
  leInt g.length ++ leInt g.radius ++ le 4 g.stamp.toNat ++ le 2 g.generation

/-- The whole record as READ_TOOL gives it, 56 bytes (R17; layout log 11). -/
def Tool.bytes (x : Tool) : List Byte :=
  le 1 (presence [x.stateBefore.isSome, x.claim.isSome, x.last.isSome, x.home.isSome, x.geometry.isSome]) ++
    le 2 x.number ++ le 1 x.cls ++ le 1 x.state.code ++ optField 1 (x.stateBefore.map fun st => le 1 st.code) ++
    optField 2 (x.claim.map claimField) ++ locationField x.location ++
    optField 2 (x.last.map fun l => le 1 (addr l.1) ++ le 1 l.2) ++ optField 2 (x.home.map fun p => le 2 p.val) ++
    le 4 x.nominalLength ++ le 4 x.nominalRadius ++ le 2 x.lengthTol ++ le 2 x.radiusTol ++
    optField 14 (x.geometry.map (·.bytes)) ++ flag x.outOfTol ++ le 1 x.lifeUnit.code ++ le 2 x.lifeLimit ++
    le 2 x.lifeUsed ++ le 1 x.warnPercent ++ flag x.warningSent ++ flag x.lifeEnded ++ le 1 x.regrinds ++
    le 1 x.regrindMax ++ le 2 x.issueCount ++ le 2 x.threshold

/-- The work of READ_TOOL (R17). -/
def doReadTool (img : SlotImage) (n : SlotNo) (s : State) : State :=
  if goodTool (par2 img 0) = false then s.refuse n .badParam
  else match s.findTool (par2 img 0) with
    | none => s.refuse n .unknownTool
    | some x => s.complete n .ok x.bytes

/-- READ_TOOL (R17). -/
def execReadTool (img : SlotImage) (s : State) : Result := .next (s.takeOrder .readTool img (doReadTool img))

/-! ## FIND (R18) -/

/-- The tools that FIND takes, ascending (R18). -/
def State.matching (s : State) (first cls : Nat) (any : Bool) (states : Nat) : List Nat :=
  (s.tools.filter fun x =>
    first ≤ x.number && states.testBit x.state.code && (any || x.cls == cls)).map (·.number)

/-- The work of FIND (R18): first tool number, class, any-class flag, state set. -/
def doFind (img : SlotImage) (n : SlotNo) (s : State) : State :=
  if goodTool (par2 img 0) = false ∨ par2 img 4 % 512 = 0 then s.refuse n .badParam
  else
    let found := s.matching (par2 img 0) (par1 img 2) (parFlag img 3) (par2 img 4)
    let written := found.take (img.bufLength.toNat / 2)
    s.completeWith n .ok
      (le 2 written.length ++ le 2 (written.getLast?.getD 0) ++ flag (written.length < found.length))
      (written.flatMap (le 2))

/-- FIND (R18). -/
def execFind (img : SlotImage) (s : State) : Result := .next (s.takeOrder .find img (doFind img))

/-! ## SET_LIFE (R19) -/

/-- The three life settings stored, and what follows from them (R19). -/
def Tool.withLife (limit : Nat) (unit : LifeUnit) (percent : Nat) (x : Tool) : Tool :=
  let y := { x with lifeLimit := limit, lifeUnit := unit, warnPercent := percent }
  if x.state = .worn then y
  else
    let z := y.setFlags
    if z.lifeEnded = true ∧ (x.state = .ready ∨ x.state = .passed) then { z with state := .worn } else z

/-- The result of a SET_LIFE (R19). -/
def Tool.lifeResult (x : Tool) : List Byte := le 2 x.threshold ++ le 2 x.lifeUsed ++ le 1 x.state.code

/-- The work of SET_LIFE (R19): tool number, limit, unit, percent. -/
def doSetLife (img : SlotImage) (n : SlotNo) (s : State) : State :=
  let t := par2 img 0
  let limit := par2 img 2
  match asUnit (par1 img 4), asPercent (par1 img 5) with
  | some unit, some percent =>
    if goodTool t = false ∨ limit = 0 then s.refuse n .badParam
    else match s.findTool t with
      | none => s.refuse n .unknownTool
      | some x =>
        if x.state = .claimed then s.refuse n .busy
        else if x.state = .out ∨ x.state = .returning ∨ x.state = .astray then s.refuse n .wrongState
        else
          (s.modTool t (Tool.withLife limit unit percent)).complete n .ok (x.withLife limit unit percent).lifeResult
  | _, _ => s.refuse n .badParam

/-- SET_LIFE (R19). -/
def execSetLife (img : SlotImage) (s : State) : Result := .next (s.takeOrder .setLife img (doSetLife img))

/-! ## REGRIND (R20) -/

/-- A record reground (R20). -/
def Tool.reground (length radius : Option Nat) (x : Tool) : Tool :=
  { x with
    lifeUsed := 0, regrinds := x.regrinds + 1, warningSent := false, lifeEnded := false, outOfTol := false
    geometry := none, nominalLength := length.getD x.nominalLength, nominalRadius := radius.getD x.nominalRadius
    state := .unmeasured }

/-- The work of REGRIND (R20): presence mask, tool number, nominal length, nominal radius. -/
def doRegrind (img : SlotImage) (n : SlotNo) (s : State) : State :=
  let t := par2 img 1
  let length := optPar (par1 img 0) 0 (par4 img 3)
  let radius := optPar (par1 img 0) 1 (par4 img 7)
  if goodTool t = false ∨ 999999 < length.getD 0 ∨ 999999 < radius.getD 0 then s.refuse n .badParam
  else match s.findTool t with
    | none => s.refuse n .unknownTool
    | some x =>
      if x.state = .claimed then s.refuse n .busy
      else if x.state ≠ .worn then s.refuse n .wrongState
      else if x.regrinds = x.regrindMax then s.refuse n .spent
      else
        (s.modTool t (Tool.reground length radius)).complete n .ok (le 1 (x.regrinds + 1) ++ le 1 x.regrindMax)

/-- REGRIND (R20). -/
def execRegrind (img : SlotImage) (s : State) : Result := .next (s.takeOrder .regrind img (doRegrind img))

end Sys2Proof.Machine
end

