-- ==== Sys2Proof/Machine/OrdersWork.lean ====
section
/-! DEFINITION. The meanings of the orders that set work going, and of CANCEL: HOME, CALIBRATE, MEASURE, STOW, ISSUE, RETURN, CANCEL,
CLEAR_FAULT (R45, R46, R52, R64, R69, R70, R81, R132, R159, R160, R184, R185). -/

namespace Sys2Proof.Machine

/-! ## HOME (R52) -/

/-- Some named axis is HOMING. -/
def State.anyHoming (s : State) (axes : AxisSet) : Bool :=
  (axes.z && s.presetter.z.state == .homing) || (axes.x && s.presetter.x.state == .homing)

/-- The named axes made HOMING (R52). -/
def State.startHoming (axes : AxisSet) (s : State) : State :=
  s.modPresetter fun p =>
    { p with
      z := if axes.z then { p.z with state := .homing } else p.z
      x := if axes.x then { p.x with state := .homing } else p.x }

/-- A refusal that carries both axes and no former state (R49, log 10). -/
def State.refuseHome (n : SlotNo) (st : Status) (s : State) : State :=
  s.complete n st (le 2 0 ++ s.presetter.axes.bytes)

/-- The work of HOME: axis set (R52). REFERENCE_LOST shows the axes before they become HOMING (log 48). -/
def doHome (img : SlotImage) (n : SlotNo) (s : State) : State :=
  match asAxisSet (par1 img 0) with
  | none => s.refuseHome n .badParam
  | some axes =>
    if s.cycleBusy then s.refuseHome n .stationBusy
    else if s.anyHoming axes then s.refuseHome n .busy
    else
      ((s.loseReference 1 axes).startHoming axes).setWork n
        (.home axes s.presetter.z.state s.presetter.x.state (1000 * s.presetter.homeWindow))

/-- HOME (R52, R53). -/
def execHome (img : SlotImage) (s : State) : Result := .next (s.takeOrder .home img (doHome img))

/-! ## CALIBRATE (R64) -/

/-- Some record has location PRESETTER. -/
def State.toolAtPresetter (s : State) : Bool := s.tools.any fun x => x.location == .presetter

/-- The checks of R64, in order. -/
def State.calibrateCheck (s : State) : Option Status :=
  if s.presetter.masterLength = 0 ∨ s.presetter.masterRadius = 0 then some .noMaster
  else if s.bothHomed = false then some .axisNotHomed
  else if s.cycleBusy then some .stationBusy
  else if s.toolAtPresetter then some .stationOccupied
  else none

/-- The record of a refused CALIBRATE up to its axes: nothing present (log 9). -/
def emptyCalibrate : List Byte := List.replicate 29 0

/-- The work of CALIBRATE (R64). -/
def doCalibrate (n : SlotNo) (s : State) : State :=
  match s.calibrateCheck with
  | some st => s.refuseRecord n st emptyCalibrate
  | none =>
    ((s.setWork n (.calibrate s.presetter.masterLength s.presetter.masterRadius)).startCycle n).enforceLimits

/-- CALIBRATE (R64, R65). -/
def execCalibrate (img : SlotImage) (s : State) : Result := .next (s.takeOrder .calibrate img doCalibrate)

/-! ## MEASURE (R69, R70) -/

/-- The checks of R69 after the tool number, on the record, in order. -/
def State.measureCheck (s : State) (x : Tool) : Option Status :=
  if x.state = .claimed then some .busy
  else if ¬ (x.state = .unmeasured ∨ x.state = .passed ∨ x.state = .ready ∨ x.state = .quarantine) then
    some .wrongState
  else if s.bothHomed = false then some .axisNotHomed
  else match s.presetter.reference with
    | none => some .noReference
    | some r =>
      if Config.maxUses ≤ r.uses then some .referenceStale
      else if s.cycleBusy then some .stationBusy
      else if s.tools.any (fun y => y.location == .presetter && y.number != x.number) then some .stationOccupied
      else if s.presetter.seated = true ∧ x.location ≠ .presetter then some .stationOccupied
      else none

/-- The record of a refused MEASURE up to its axes: nothing present (log 9). -/
def emptyMeasure : List Byte := List.replicate 60 0

/-- The context of a MEASURE as it starts (R68). -/
def newMeasure (t : Nat) (start : Location) (phase : MeasurePhase) : MeasureCtx :=
  { tool := t, start := start, phase := phase, fetch := none, fetchMade := none, fetchOutcome := none, opened := false
    pendingStatus := none, outcome := none, evaluation := none, store := none, storeMovement := none
    storeMade := none, storeResult := .nothing }

/-- A MEASURE that passed R69 starts, by its tool's location (R70). -/
def State.startMeasure (n : SlotNo) (x : Tool) (s : State) : State :=
  let t := s.claimTool x.number (.slot n)
  match x.location with
  | .pocket p =>
    let m := newMeasure x.number x.location .fetching
    match t.requestRemoval .fetch p (.slot n) with
    | (u, .made num _) =>
      (u.setWork n (.measure { m with fetch := some num, fetchMade := some num })).startCycle n
    | (u, .denied st) => u.finishMeasure n m st
  | .presetter =>
    let phase := if s.presetter.seated then MeasurePhase.touching else .seating
    ((t.setWork n (.measure (newMeasure x.number x.location phase))).startCycle n).enforceLimits
  | loc => (t.setWork n (.measure (newMeasure x.number loc .seating))).startCycle n

/-- The work of MEASURE: tool number (R69, R70). -/
def doMeasure (img : SlotImage) (n : SlotNo) (s : State) : State :=
  let t := par2 img 0
  if goodTool t = false then s.refuseRecord n .badParam emptyMeasure
  else match s.findTool t with
    | none => s.refuseRecord n .unknownTool emptyMeasure
    | some x =>
      match s.measureCheck x with
      | some st => s.refuseRecord n st emptyMeasure
      | none => s.startMeasure n x

/-- MEASURE (R68 to R80). -/
def execMeasure (img : SlotImage) (s : State) : Result := .next (s.takeOrder .measure img (doMeasure img))

/-! ## STOW (R81) -/

/-- The checks of R81 on the record, in order. -/
def stowCheck (x : Tool) : Option Status :=
  if x.state = .claimed then some .busy
  else if ¬ (x.location = .loose ∨ x.location = .presetter) then some .wrongState
  else if ¬ (x.state = .unmeasured ∨ x.state = .passed ∨ x.state = .quarantine ∨ x.state = .worn) then
    some .wrongState
  else none

/-- A STOW that passed its checks: claim and insertion request (R81). -/
def State.startStow (n : SlotNo) (x : Tool) (s : State) : State :=
  let mv := if x.state = .passed then Movement.store else .returnPut
  match (s.claimTool x.number (.slot n)).requestInsertion mv x.number (.slot n) with
  | (u, .made num p) => u.setWork n (.stow { tool := x.number, movement := mv, request := num, pocket := p })
  | (u, .denied st) => (u.releaseBack x.number).refuse n st

/-- The work of STOW: tool number (R81). -/
def doStow (img : SlotImage) (n : SlotNo) (s : State) : State :=
  let t := par2 img 0
  if goodTool t = false then s.refuse n .badParam
  else match s.findTool t with
    | none => s.refuse n .unknownTool
    | some x =>
      match stowCheck x with
      | some st => s.refuse n st
      | none => s.startStow n x

/-- STOW (R81, R82). -/
def execStow (img : SlotImage) (s : State) : Result := .next (s.takeOrder .stow img (doStow img))

/-! ## ISSUE (R132) -/

/-- The request that an ISSUE order makes: cell, magazine slot, mode, tool number or class (R132, log 13). -/
def issueAsk (img : SlotImage) (n : SlotNo) : Option Ask := do
  let c ← asCell (par1 img 0)
  let v := par2 img 3
  if goodSlot (par1 img 1) = false then none
  else match par1 img 2 with
    | 0 => if goodTool v then some ⟨c, par1 img 1, .order n, none, v⟩ else none
    | 1 => if v ≤ 255 then some ⟨c, par1 img 1, .order n, some v, 0⟩ else none
    | _ => none

/-- The work of ISSUE (R128, R132). -/
def doIssue (img : SlotImage) (n : SlotNo) (s : State) : State :=
  match issueAsk img n with
  | none => s.refuse n .badParam
  | some a =>
    match s.acceptIssue a with
    | .error r => s.refuse n r.toStatus
    | .ok t => t

/-- ISSUE (R132). -/
def execIssue (img : SlotImage) (s : State) : Result := .next (s.takeOrder .issue img (doIssue img))

/-! ## RETURN (R159, R160) -/

/-- The checks of R159 on the record, in order. -/
def returnCheck (x : Tool) : Option Status :=
  if x.state = .claimed then some .busy
  else if ¬ (x.state = .returning ∨ x.state = .out ∨ x.state = .astray) then some .wrongState
  else none

/-- A RETURN that passed its checks: claim, RETURN_PUT request, withdraw (R159, R160). -/
def State.startReturn (n : SlotNo) (x : Tool) (s : State) : State :=
  match (s.claimTool x.number (.slot n)).requestInsertion .returnPut x.number (.slot n) with
  | (u, .denied st) =>
    (u.modTool x.number fun y => y.release true y.before y.location).refuse n st
  | (u, .made num p) =>
    let r : ReturnCtx :=
      { tool := x.number, stateBefore := x.state, request := num, pocket := p, opened := false, outcome := none
        withdrawTo := x.withdrawTarget x.state, withdraw := .notSent, tries := 0, acknowledged := false
        released := none }
    let (v, r) := u.queueReturnWithdraw n r
    v.setWork n (.returning r)

/-- The work of RETURN: tool number (R159). -/
def doReturnTool (img : SlotImage) (n : SlotNo) (s : State) : State :=
  let t := par2 img 0
  if goodTool t = false then s.refuse n .badParam
  else match s.findTool t with
    | none => s.refuse n .unknownTool
    | some x =>
      match returnCheck x with
      | some st => s.refuse n st
      | none => s.startReturn n x

/-- RETURN (R159 to R163). -/
def execReturnTool (img : SlotImage) (s : State) : Result := .next (s.takeOrder .returnTool img (doReturnTool img))

/-! ## CANCEL (R184, R185) -/

/-- The cancel of a request and, where it delivers CANCELLED, what its owner does with the outcome (R43). -/
def State.cancelMove (num : Nat) (ended : State → State) (s : State) : State :=
  match s.cancelRequest num with
  | (t, true) => ended t
  | (t, false) => t

/-- The cycle that a slot owns ends ABORTED (R59, R60, R185). -/
def State.abortCycle (m : SlotNo) (s : State) : State :=
  if s.presetter.cycle.any fun c => c.owner == m then s.faultCycle .aborted else s

/-- A cancel taken by the context of a slot, and the status that answers it (R185). -/
def State.cancelContext (m : SlotNo) (s : State) : State × Status :=
  match s.work m with
  | .home .. => (s.endHome m .cancelled, .ok)
  | .calibrate .. => (s.abortCycle m, .ok)
  | .measure c =>
    match c.phase, c.store with
    | .storing, some num => (s.cancelMove num fun t => t.storeEnded m c .cancelled, .ok)
    | _, _ => (s.abortCycle m, .ok)
  | .stow w => (s.cancelMove w.request fun t => t.stowEnded m w .cancelled, .ok)
  | .issue id =>
    match s.openIndex id with
    | some i => s.cancelIssue i
    | none => (s, .noIssue)
  | .returning r =>
    if r.outcome.isSome then (s, .notCancellable)
    else (s.cancelMove r.request fun t => t.returnMove m r .cancelled, .ok)
  | .remove t num => (s.cancelMove num fun u => u.removeEnded m t .cancelled, .ok)
  | .clearRelock _ => (s, .notCancellable)
  | .clearOut p num => (s.cancelMove num fun t => t.clearOutEnded m p .cancelled, .ok)
  | .idle => (s, .noOrder)

/-- The result of a CANCEL that passed its checks: slot, kind and tag of its target, issue id and phase (R184; layout log 11). -/
def cancelResult (target : Option (SlotNo × Context)) (issue : Option (Nat × IssuePhase)) : List Byte :=
  le 1 (presence [issue.isSome]) ++ optField 4 (target.map fun t => le 1 t.1.val ++ le 1 t.2.kind ++ le 2 t.2.tag.toNat) ++
    optField 2 (issue.map fun i => le 1 i.1 ++ le 1 i.2.code)

/-- The issue id and phase of the issue that a slot's order opened. -/
def State.issueTarget (s : State) (m : SlotNo) : Option (Nat × IssuePhase) :=
  match s.work m with
  | .issue id => ((s.openIndex id).bind fun i => (s.issueRec i).issue).map fun x => (id, x.phase)
  | _ => none

/-- A CANCEL that passed its checks completed: the status that its target's rule gives, OK or not, and its result (R184). -/
def State.answerCancel (n : SlotNo) (result : List Byte) (p : State × Status) : State := p.1.complete n p.2 result

/-- A cancel by slot (R184). -/
def State.cancelBySlot (n m : SlotNo) (s : State) : State :=
  match (s.slot m).context with
  | some c =>
    if c.long = true ∧ c.output.isNone = true then
      State.answerCancel n (cancelResult (some (m, c)) (s.issueTarget m)) (s.cancelContext m)
    else s.refuse n .noOrder
  | none => s.refuse n .noOrder

/-- A cancel by issue id (R145, R184). -/
def State.cancelById (n : SlotNo) (id : Nat) (s : State) : State :=
  match s.openIndex id with
  | some i =>
    let phase := (s.issueRec i).issue.map (·.phase)
    State.answerCancel n (cancelResult none (phase.map fun p => (id, p))) (s.cancelIssue i)
  | none => s.refuse n .noIssue

/-- The work of CANCEL: target kind, target value (R184). -/
def doCancel (img : SlotImage) (n : SlotNo) (s : State) : State :=
  let v := par1 img 1
  match par1 img 0 with
  | 0 =>
    match asFin 32 v with
    | some m => if m = n then s.refuse n .badParam else s.cancelBySlot n m
    | none => s.refuse n .badParam
  | 1 => if v ≤ 254 then s.cancelById n v else s.refuse n .badParam
  | _ => s.refuse n .badParam

/-- CANCEL (R184, R185). -/
def execCancel (img : SlotImage) (s : State) : Result := .next (s.takeOrder .cancel img (doCancel img))

/-! ## CLEAR_FAULT (R45, R46) -/

/-- A fault cleared at once, and the order completed OK (R46). -/
def State.clearNow (n : SlotNo) (p : PocketNo) (s : State) : State :=
  let t := s.changePocket p fun k => { k with fault := .clear }
  t.complete n .ok (t.clearResult p)

/-- A CLEAR_FAULT on a pocket with a fault and no claim (R45, R46). A LOCK_JAM whose lock is not JAMMED is CLOSING under another
clear, so BUSY. -/
def State.clearFaultOf (n : SlotNo) (p : PocketNo) (s : State) : State :=
  let k := s.pocket p
  match k.fault, k.sensor with
  | .clear, _ => s.refuse n .wrongState
  | .lockJam, _ => if k.lock = .jammed then (s.sendRelock p).setWork n (.clearRelock p) else s.refuse n .busy
  | .forced, .absent | .unknownItem, .absent => s.clearNow n p
  | .forced, .present => s.refuse n .wrongState
  | .unknownItem, .present =>
    match s.requestRemoval .clearOut p (.slot n) with
    | (t, .made num _) => t.setWork n (.clearOut p num)
    | (t, .denied st) => t.refuse n st

/-- The work of CLEAR_FAULT: pocket (R45, R46). -/
def doClearFault (img : SlotImage) (n : SlotNo) (s : State) : State :=
  match asFin 512 (par2 img 0) with
  | none => s.refuse n .badParam
  | some p =>
    if (s.pocket p).fault = .clear then s.refuse n .wrongState
    else if (s.pocket p).claim.isSome then s.refuse n .busy
    else s.clearFaultOf n p

/-- CLEAR_FAULT (R45, R46). -/
def execClearFault (img : SlotImage) (s : State) : Result := .next (s.takeOrder .clearFault img (doClearFault img))

end Sys2Proof.Machine
end

