-- ==== Sys2Proof/Machine/Port.lean ====
section
/-! DEFINITION. The meanings of the Order Port's series and of a slot read with an unknown kind (R174, R179, R180, R193, R197 to
R200). -/

namespace Sys2Proof.Machine

/-- The port may begin a series: it has access and none is under way (R174). -/
def State.portReady (s : State) : Bool := s.canAccess && s.order.series.isNone

/-- The write of the head of the hold queue waits for the port (R199). -/
def State.reportWaits (s : State) : Bool := !s.reports.hold.isEmpty && s.reports.credit != 0

/-- The lowest slot in POSTED (R179). -/
def State.lowestPosted (s : State) : Option SlotNo := (indices fun n => (s.slot n).state == .posted).head?

/-- A series begun (R174). -/
def State.begin (x : Series) (s : State) : State := s.modOrder fun o => { o with series := some x }

/-- RESULT_WRITE (R174, R180): the result formed first is written first. -/
def execResultWrite (s : State) : Result :=
  match s.order.writeOrder with
  | n :: _ => if s.portReady then .next (s.begin (.resultWrite n)) else .next s
  | [] => .next s

/-- REPORT_WRITE (R174, R199): after every result write that waits. -/
def execReportWrite (s : State) : Result :=
  if s.portReady = true ∧ s.order.writeOrder = [] ∧ s.reportWaits = true then .next (s.begin .reportWrite) else .next s

/-- SLOT_READ (R174, R179): the lowest POSTED slot, when neither a result nor a report waits. -/
def execSlotRead (s : State) : Result :=
  match s.lowestPosted with
  | some n =>
    if s.portReady = true ∧ s.order.writeOrder = [] ∧ s.reportWaits = false then .next (s.begin (.slotRead n))
    else .next s
  | none => .next s

/-- BAD_KIND (R179): the order taken has a kind outside R181. -/
def execBadKind (kind : Byte) (img : SlotImage) (s : State) : Result :=
  match s.order.series with
  | some (.slotRead n) => .next ((s.taken n kind.toNat img).refuse n .badKind).settle
  | _ => .next s

/-- The result is written whole: the slot is DONE and its context ends (R175, R180). -/
def State.resultDone (n : SlotNo) (s : State) : State :=
  ((s.writeAccesses (s.resultSeries n)).setSlot n { state := .done, context := none }).modOrder fun o =>
    { o with series := none, writeOrder := o.writeOrder.filter fun m => m != n }

/-- RESULT_WRITTEN (R180): the status word of the result under way ends good. -/
def execResultWritten (s : State) : Result :=
  match s.order.series with
  | some (.resultWrite n) => .next (s.resultDone n)
  | _ => .next s

/-- The entry is written whole: counted, the head gone, CAU.REPORT set, the stall left at empty (R200, R202). -/
def State.reportDone (s : State) : State :=
  let t := (s.writeAccesses s.reportSeries).modOrder fun o => { o with series := none, cauReport := true }
  let u := t.modReports fun r => { r with written := r.written + 1, hold := r.hold.tail }
  if u.reports.stalled = true ∧ u.reports.hold = [] then u.leaveStall else u

/-- REPORT_WRITE_DONE (R200): the last word of the entry under way ends good. -/
def execReportWriteDone (s : State) : Result :=
  match s.order.series with
  | some .reportWrite => .next s.reportDone
  | _ => .next s

/-- BOARD_FAULT (R193): the series under way ends, its work kept by its owner; the port halts. -/
def execBoardFault (accesses : Nat) (s : State) : Result :=
  match s.order.series with
  | some _ =>
    .next ((s.writePart accesses).modOrder fun o =>
      { o with series := none, halted := true, boardFault := true, cauFault := true })
  | none => .next s

end Sys2Proof.Machine
end

