-- ==== Sys2Proof/Machine/Registers.lean ====
section
/-! DEFINITION. The meanings of the register writes other than CTL (R170, R173, R177, R178, R203, R205, R206). -/

namespace Sys2Proof.Machine

/-- Some slot is TAKEN. -/
def State.anyTaken (s : State) : Bool := (List.finRange 32).any fun n => (s.slot n).state == .taken

/-- BBA_WRITE (R173): taken while the port is disabled and no slot is TAKEN, bits 15:0 cleared. -/
def execBbaWrite (value : Word) (s : State) : Result :=
  if s.order.portEnable = true ∨ s.anyTaken = true then .next s
  else .next (s.modOrder fun o => { o with bba := value &&& 0xFFFF0000#32 })

/-- A 1 written to the PST bit of a slot: POSTED from FREE, a post conflict otherwise (R177, R178). -/
def State.post (n : SlotNo) (s : State) : State :=
  if (s.slot n).state = .free then s.setSlot n { s.slot n with state := .posted }
  else s.modOrder fun o => { o with conflict := o.conflict.orElse fun _ => some n, cauFault := true }

/-- A 1 written to the DON bit of a slot: FREE from DONE, ignored otherwise (R177). -/
def State.free (n : SlotNo) (s : State) : State :=
  if (s.slot n).state = .done then s.setSlot n { s.slot n with state := .free } else s

/-- Each slot whose bit is set, lowest first. -/
def State.forBits (value : Word) (f : SlotNo → State → State) (s : State) : State :=
  (List.finRange 32).foldl (fun t n => if value.getLsbD n.val then f n t else t) s

/-- PST_WRITE (R177, R178). -/
def execPstWrite (value : Word) (s : State) : Result := .next (s.forBits value State.post)

/-- DON_WRITE (R177). -/
def execDonWrite (value : Word) (s : State) : Result := .next (s.forBits value State.free)

/-- A release of n entries (R203). -/
def State.releaseEntries (n : BitVec 16) (s : State) : State :=
  if n.toNat ≤ s.reports.outstanding then s.modReports fun r => { r with released := r.released + n }
  else s.modOrder fun o => { o with releaseError := true, cauFault := true }

/-- RPC_WRITE (R203): the release count in bits 15:0. -/
def execRpcWrite (value : Word) (s : State) : Result := .next (s.releaseEntries (value.setWidth 16))

/-- Clears of CAU bits 1..3; FAULT clears the three latched indications of STA too (R172, R205). -/
def OrderBlock.clearCauses (value : Word) (o : OrderBlock) : OrderBlock :=
  let clearFault := value.getLsbD 3
  { o with
    cauReport := o.cauReport && !value.getLsbD 1
    cauStall := o.cauStall && !value.getLsbD 2
    cauFault := o.cauFault && !clearFault
    conflict := if clearFault then none else o.conflict
    boardFault := o.boardFault && !clearFault
    releaseError := o.releaseError && !clearFault }

/-- CAU_WRITE (R205). -/
def execCauWrite (value : Word) (s : State) : Result := .next (s.modOrder (OrderBlock.clearCauses value))

/-- CEN_WRITE (R206). -/
def execCenWrite (value : Word) (s : State) : Result :=
  .next (s.modOrder fun o => { o with cen := value.setWidth 4 })

/-- IGNORED_REGISTER_WRITE (R170): a write to read-only bits alone is ignored. -/
def execIgnoredRegisterWrite (_reg : Register) (_value : Word) (s : State) : Result := .next s

end Sys2Proof.Machine
end

