-- ==== Sys2Proof/Machine/Send.lean ====
section
/-! DEFINITION. The meanings of the events of the part's own frames on the line: TRANSMIT_ATTEMPT, LOST_ARBITRATION, TRANSMIT_FAULT,
FRAME_SENT, IDLE_RECOVERY (R84, R88, R89, R97, R103 to R105, R135). -/

namespace Sys2Proof.Machine

/-! ## Beginning an attempt (R88) -/

/-- The exchange in flight of a cell whose buffer is ready: no answer window runs (R88, R97). -/
def Cell.ready (c : Cell) : Option Exchange := c.inFlight.filter fun e => e.window.isNone

/-- The ready frames: of the exchanges in address order, then the CRIB_STATE of buffer 0 (R88). -/
def State.readyFrames (s : State) : List Attempt :=
  ((List.finRange 24).filterMap fun c => (s.cell c).ready.map fun e =>
    { buffer := e.buffer.getD 1, frame := e.payload.frame c, exchange := some (c, e.owner), attached := true }) ++
  (s.link.buffer0.map fun cs => { buffer := 0, frame := cs.frame, exchange := none, attached := true }).toList

/-- The ready frame of the lowest class, then of the lowest destination address (R88). -/
def State.nextAttempt (s : State) : Option Attempt :=
  bestBy (fun a b => a.frame.cls < b.frame.cls || (a.frame.cls == b.frame.cls && a.frame.dest < b.frame.dest))
    s.readyFrames

/-- TRANSMIT_ATTEMPT (R88): on an idle line, while the link is ACTIVE. -/
def execTransmitAttempt (s : State) : Result :=
  if s.link.state = .active ∧ s.link.attempt = none then
    match s.nextAttempt with
    | some a => .next (s.modLink fun l => { l with attempt := some a, slotDriven := false })
    | none => .next s
  else .next s

/-! ## The end of an attempt (R89) -/

/-- Buffer 0 takes the CRIB_STATE placed while it was on the line (R89, R100). -/
def Link.takeNext (l : Link) : Link := { l with buffer0 := l.next0.orElse fun _ => l.buffer0, next0 := none }

/-- The attempt over with its frame not sent: the buffer stays ready, or is granted anew when its exchange has ended (R88,
R89). -/
def State.attemptOver (a : Attempt) (s : State) : State :=
  let t := s.modLink fun l => { l with attempt := none }
  if a.buffer = 0 then t.modLink Link.takeNext
  else if a.attached then t
  else t.grantBuffers

/-- The notice LOST_ARBITRATION: one more loss of an issue's frames (R135, log 29). -/
def State.noticeLoss (a : Attempt) (s : State) : State :=
  match a.exchange with
  | some (_, .issue id) =>
    match s.openIndex id with
    | some i => s.modIssue i fun x => { x with losses := min 65535 (x.losses + 1) }
    | none => s
  | _ => s

/-- LOST_ARBITRATION (R88, R135). -/
def execLostArbitration (s : State) : Result :=
  match s.link.attempt with
  | some a => .next ((s.attemptOver a).noticeLoss a)
  | none => .next s

/-- The transmit error count after a transmit fault; OFF above 255 (R89, R103, R104). -/
def State.countFault (a : Attempt) (s : State) : State :=
  let t := s.modLink fun l => { l with errors := l.errors + 8 }
  if 255 < t.link.errors then t.enterOff else t.attemptOver a

/-- TRANSMIT_FAULT (R89, R103). -/
def execTransmitFault (s : State) : Result :=
  match s.link.attempt with
  | some a => .next (s.countFault a)
  | none => .next s

/-- An addressed frame sent: the acknowledgement slot decides (R97). -/
def State.exchangeSent (c : CellNo) (ack : Bool) (s : State) : State :=
  match (s.cell c).inFlight with
  | none => s
  | some e =>
    if ack = false then State.deliverAll (s.failedTry c)
    else if e.payload.expectsAnswer then
      s.modCell c (Cell.modInFlight fun e => { e with acknowledged := true, window := some s.link.answerWindow })
    else State.deliverAll (s.answerEnds c (.answered []))

/-- A frame sent: the error count falls, the broadcast's buffer empties, the exchange takes the end of its attempt (R89,
R97, R103). -/
def State.frameSent (a : Attempt) (ack : Bool) (s : State) : State :=
  let t := s.modLink fun l => { l with errors := l.errors - 1, attempt := none }
  match a.exchange with
  | none => t.modLink fun l => { l with buffer0 := l.next0, next0 := none }
  | some (c, _) => if a.attached then t.exchangeSent c ack else t.grantBuffers

/-- FRAME_SENT (R89, R97). -/
def execFrameSent (ack : Bool) (s : State) : Result :=
  match s.link.attempt with
  | some a => .next (s.frameSent a ack).settle
  | none => .next s

/-! ## The end of OFF (R105) -/

/-- IDLE_RECOVERY (R105, log 35): a link-idle interval of an OFF period, counted; the 128th ends the period. -/
def execIdleRecovery (s : State) : Result :=
  if s.link.state = .off then
    if s.link.idle + 1 < Config.idleIntervalsToRecover then .next (s.modLink fun l => { l with idle := l.idle + 1 })
    else .next (s.linkActive .idleRecovery).grantBuffers
  else .next s

end Sys2Proof.Machine
end

