-- ==== Sys2Proof/Machine/Station.lean ====
section
/-! DEFINITION. The meanings of the presetter station's events and windows (R50, R51, R53 to R61, R74). -/

namespace Sys2Proof.Machine

/-! ## Scales (R50, R51) -/

/-- The counter after a step in a direction; it wraps (R50). -/
def stepCounter (up : Bool) (c : BitVec 20) : BitVec 20 := if up then c + 1 else c - 1

/-- A step beyond the counter range (R50). -/
def beyondRange (up : Bool) (c : BitVec 20) : Bool := if up then c == BitVec.allOnes 20 else c == 0

/-- One step: a range fault of a HOMED axis makes it LOST; in TOUCH the soft limits are compared otherwise (R50, R54; which comes
first, log 49). -/
def State.stepScale (a : Axis) (up : Bool) (s : State) : State :=
  let x := s.axis a
  let t := s.modAxis a fun x => { x with counter := stepCounter up x.counter }
  if x.state = .homed ∧ beyondRange up x.counter = true then t.loseAxis a else t.enforceLimits

/-- A change of both channels: HOMING and HOMED axes become LOST (R50). -/
def State.quadratureFault (a : Axis) (s : State) : State :=
  if (s.axis a).state = .homing ∨ (s.axis a).state = .homed then s.loseAxis a else s

/-- SCALE_STEP (R50, R54; the direction is the operand, log 37). -/
def execScaleStep (a : Axis) (move : ScaleMove) (s : State) : Result :=
  match move with
  | .up => .next (s.stepScale a true).settle
  | .down => .next (s.stepScale a false).settle
  | .both => .next (s.quadratureFault a).settle

/-- The first index mark of a HOMING axis, and the HOMEs that wait for it (R51, R53). -/
def State.markAxis (a : Axis) (s : State) : State :=
  (s.homesOf a).foldl (fun t n => t.checkHomed n) (s.modAxis a fun x => { x with counter := 0, state := .homed })

/-- INDEX_MARK (R51): ignored unless the axis is HOMING. -/
def execIndexMark (a : Axis) (s : State) : Result :=
  if (s.axis a).state = .homing then .next (s.markAxis a).settle else .next s

/-! ## SEATED (R55, R59, R60, R74) -/

/-- The notice SEATED to the owner of the cycle (R59, R72, R74). A CALIBRATE takes no action on it. -/
def State.deliverSeated (n : SlotNo) (s : State) : State :=
  match s.work n with
  | .measure m => s.measureSeated n m
  | _ => s

/-- A rising edge with the cycle in SEAT: TOUCH, the notice, the soft limits (R54, R58, R59, log 36). -/
def State.seatCycle (n : SlotNo) (s : State) : State :=
  ((s.modPresetter Presetter.enterTouch).deliverSeated n).enforceLimits

/-- SEATED_RISING_EDGE (R55, R59, R60, R74). An edge that repeats the level is taken as an edge all the same, the model's choice
(log 56). -/
def execSeatedRisingEdge (s : State) : Result :=
  let t := s.modPresetter fun p => { p with seated := true }
  match s.presetter.cycle with
  | some c => if c.state = .seat then .next (t.seatCycle c.owner).settle else .next t
  | none => .next t

/-- A tool at PRESETTER becomes LOOSE at a falling edge (R74). -/
def State.unseatTool (s : State) : State :=
  s.modTools fun l => l.map fun x => if x.location = .presetter then { x with location := .loose } else x

/-- SEATED_FALLING_EDGE (R55, R60, R74). An edge that repeats the level, which cannot occur, is taken as an edge all the same:
while SEATED is inactive already it makes a tool at PRESETTER LOOSE, the model's choice and an exception to log 1 (log 56). -/
def execSeatedFallingEdge (s : State) : Result :=
  let t := (s.modPresetter fun p => { p with seated := false }).unseatTool
  if s.cycleIn .touch then .next (t.faultCycle .seatLost).settle else .next t

/-! ## Touches (R56, R57) -/

/-- An accepted touch edge: the counter captured while the list is not complete (R56, R57). -/
def AxisRec.touch (touches : Nat) (x : AxisRec) : AxisRec :=
  { x with
    bounce := some Config.bounceMs
    captures := if x.captures.length < touches then x.captures ++ [x.counter.toNat] else x.captures }

/-- A touch edge in TOUCH that is no bounce, and EVALUATE when the lists are complete (R56, R57, R61). -/
def State.acceptTouch (a : Axis) (touches : Nat) (s : State) : State :=
  (s.modAxis a (AxisRec.touch touches)).evaluateIfComplete

/-- TOUCH_EDGE (R56): ignored outside TOUCH and within 50 ms of an accepted edge on the same input (log 25). -/
def execTouchEdge (a : Axis) (s : State) : Result :=
  match s.presetter.cycle with
  | some c =>
    if c.state = .touch ∧ (s.axis a).bounce = none then .next (s.acceptTouch a c.touches).settle else .next s
  | none => .next s

/-! ## Windows (R53, R59, R60) -/

/-- SEAT_WINDOW_EXPIRES (R59). -/
def execSeatWindowExpires (s : State) : Result :=
  if s.cycleIn .seat then .next (s.faultCycle .seatTimeout).settle else .next s

/-- TOUCH_WINDOW_EXPIRES (R60). -/
def execTouchWindowExpires (s : State) : Result :=
  if s.cycleIn .touch then .next (s.faultCycle .touchTimeout).settle else .next s

/-- HOME_WINDOW_EXPIRES (R53): of the HOME in a slot, if one runs there. -/
def execHomeWindowExpires (n : SlotNo) (s : State) : Result := .next (s.endHome n .homeTimeout).settle

end Sys2Proof.Machine
end

