-- ==== Sys2Proof/Machine/Timers.lean ====
section
/-! DEFINITION. The meanings of the windows and timers of the link and the issues (R97, R99 to R101, R140). A timer's expiry is taken
when the command comes, whatever time the model still counts (log 2). -/

namespace Sys2Proof.Machine

/-- ANSWER_WINDOW_EXPIRES (R97): of the exchange in flight for a cell, while its window runs. -/
def execAnswerWindowExpires (c : CellNo) (s : State) : Result :=
  if (s.cell c).inFlight.any fun e => e.window.isSome then .next (State.deliverAll (s.failedTry c)).settle
  else .next s

/-- The deferred offer of an issue. -/
def isDeferredOf (id : Nat) (e : Exchange) : Bool := e.step == .deferred && e.owner == .issue id

/-- The deferred offer of an issue QUEUED again, behind its class (R99). -/
def Cell.requeue (id : Nat) (now : Stamp) (c : Cell) : Cell :=
  match c.queue.find? (isDeferredOf id) with
  | some e =>
    { c with
      queue := insertExchange { e with step := .queued, stamp := now, deferralTimer := none }
        (c.queue.filter fun e => !isDeferredOf id e) }
  | none => c

/-- DEFERRAL_TIMER_EXPIRES (R99). -/
def execDeferralTimerExpires (id : Nat) (s : State) : Result :=
  if s.link.cells.toList.any fun c => c.queue.any (isDeferredOf id) then
    .next (s.modLink fun l => { l with cells := mapVec (Cell.requeue id s.clock) l.cells }).grantBuffers
  else .next s

/-- BROADCAST_TIMER_EXPIRES (R100): while it runs, which is while the Report Writer is not STALLED. -/
def execBroadcastTimerExpires (s : State) : Result :=
  if s.link.broadcastTimer.isSome = true ∧ s.reports.stalled = false then .next s.placeCribState else .next s

/-- HOLD_TIMER_EXPIRES (R100): while it runs, which is while the Report Writer is STALLED. -/
def execHoldTimerExpires (s : State) : Result :=
  if s.link.holdTimer.isSome = true ∧ s.reports.stalled = true then .next s.placeCribState else .next s

/-- The cells in address order from the one after the poll pointer on, wrapping from 24 to 1 (R101). -/
def pollOrder (p : CellNo) : List CellNo := (List.finRange 24).map fun k => p + 1 + k

/-- A cell that dispatch may poll (R101). -/
def Cell.pollable (c : Cell) : Bool :=
  c.enabled && c.queue.length < Config.maxExchanges && !c.queue.any Exchange.isPoll

/-- The POLL of one expiry, if a cell qualifies (R101). -/
def State.dispatchPoll (s : State) : State :=
  match (pollOrder s.link.pollPointer).find? fun c => (s.cell c).pollable with
  | some c => (s.modLink fun l => { l with pollPointer := c }).queueExchange c .poll .link |>.1
  | none => s

/-- POLL_TIMER_EXPIRES (R101): while it runs; it runs on with the poll interval. -/
def execPollTimerExpires (s : State) : Result :=
  if s.link.pollTimer.isSome then
    .next (s.modLink fun l => { l with pollTimer := startTimer l.pollInterval }).dispatchPoll
  else .next s

/-- TRANSIT_WINDOW_EXPIRES (R140): the issue closes ASTRAY. -/
def execTransitWindowExpires (id : Nat) (s : State) : Result :=
  match (s.openIndex id).filter fun i => (s.issueRec i).issue.any fun x => x.phase == .transit with
  | some i => .next (s.closeIssue i .astray).settle
  | none => .next s

end Sys2Proof.Machine
end

