-- ==== Sys2Proof/Machine/Dispatch.lean ====
section
/-! DEFINITION. The meaning of every command, one arm for each. -/

namespace Sys2Proof.Machine

/-- What a command does to everything but the queue. -/
def exec (i : Instr) (s : State) : Host.Outcome State Fault Refusal :=
  match i with
  | .reset seated accesses => Sys2Proof.Machine.execReset seated accesses s
  | .fullReset seated accesses => Sys2Proof.Machine.execFullReset seated accesses s
  | .portEnable on accesses => Sys2Proof.Machine.execPortEnable on accesses s
  | .linkRestart => Sys2Proof.Machine.execLinkRestart s
  | .resume => Sys2Proof.Machine.execResume s
  | .bbaWrite value => Sys2Proof.Machine.execBbaWrite value s
  | .pstWrite value => Sys2Proof.Machine.execPstWrite value s
  | .donWrite value => Sys2Proof.Machine.execDonWrite value s
  | .rpcWrite value => Sys2Proof.Machine.execRpcWrite value s
  | .cauWrite value => Sys2Proof.Machine.execCauWrite value s
  | .cenWrite value => Sys2Proof.Machine.execCenWrite value s
  | .ignoredRegisterWrite reg value => Sys2Proof.Machine.execIgnoredRegisterWrite reg value s
  | .slotRead => Sys2Proof.Machine.execSlotRead s
  | .badKind kind img => Sys2Proof.Machine.execBadKind kind img s
  | .setCell img => Sys2Proof.Machine.execSetCell img s
  | .setRight img => Sys2Proof.Machine.execSetRight img s
  | .setDrawer img => Sys2Proof.Machine.execSetDrawer img s
  | .setLimits img => Sys2Proof.Machine.execSetLimits img s
  | .lockLayout img => Sys2Proof.Machine.execLockLayout img s
  | .startService img => Sys2Proof.Machine.execStartService img s
  | .stopService img => Sys2Proof.Machine.execStopService img s
  | .enrol img => Sys2Proof.Machine.execEnrol img s
  | .remove img => Sys2Proof.Machine.execRemove img s
  | .readTool img => Sys2Proof.Machine.execReadTool img s
  | .find img => Sys2Proof.Machine.execFind img s
  | .setLife img => Sys2Proof.Machine.execSetLife img s
  | .regrind img => Sys2Proof.Machine.execRegrind img s
  | .home img => Sys2Proof.Machine.execHome img s
  | .calibrate img => Sys2Proof.Machine.execCalibrate img s
  | .measure img => Sys2Proof.Machine.execMeasure img s
  | .stow img => Sys2Proof.Machine.execStow img s
  | .issue img => Sys2Proof.Machine.execIssue img s
  | .returnTool img => Sys2Proof.Machine.execReturnTool img s
  | .cancel img => Sys2Proof.Machine.execCancel img s
  | .scan img => Sys2Proof.Machine.execScan img s
  | .clearFault img => Sys2Proof.Machine.execClearFault img s
  | .restoreCell img => Sys2Proof.Machine.execRestoreCell img s
  | .resultWrite => Sys2Proof.Machine.execResultWrite s
  | .resultWritten => Sys2Proof.Machine.execResultWritten s
  | .reportWrite => Sys2Proof.Machine.execReportWrite s
  | .reportWriteDone => Sys2Proof.Machine.execReportWriteDone s
  | .boardFault accesses => Sys2Proof.Machine.execBoardFault accesses s
  | .firstScan modules => Sys2Proof.Machine.execFirstScan modules s
  | .releasedConfirmation pocket => Sys2Proof.Machine.execReleasedConfirmation pocket s
  | .engagedConfirmation pocket => Sys2Proof.Machine.execEngagedConfirmation pocket s
  | .lockConfirmWindowExpires pocket => Sys2Proof.Machine.execLockConfirmWindowExpires pocket s
  | .sensorRemoval pocket => Sys2Proof.Machine.execSensorRemoval pocket s
  | .sensorInsertion pocket => Sys2Proof.Machine.execSensorInsertion pocket s
  | .requestWindowExpires pocket => Sys2Proof.Machine.execRequestWindowExpires pocket s
  | .scaleStep axis move => Sys2Proof.Machine.execScaleStep axis move s
  | .indexMark axis => Sys2Proof.Machine.execIndexMark axis s
  | .seatedRisingEdge => Sys2Proof.Machine.execSeatedRisingEdge s
  | .seatedFallingEdge => Sys2Proof.Machine.execSeatedFallingEdge s
  | .touchEdge axis => Sys2Proof.Machine.execTouchEdge axis s
  | .seatWindowExpires => Sys2Proof.Machine.execSeatWindowExpires s
  | .touchWindowExpires => Sys2Proof.Machine.execTouchWindowExpires s
  | .homeWindowExpires slot => Sys2Proof.Machine.execHomeWindowExpires slot s
  | .frameReceived line => Sys2Proof.Machine.execFrameReceived line s
  | .toolRequest => Sys2Proof.Machine.execToolRequest s
  | .mounted => Sys2Proof.Machine.execMounted s
  | .cancelFrame => Sys2Proof.Machine.execCancelFrame s
  | .usage => Sys2Proof.Machine.execUsage s
  | .returnNotice => Sys2Proof.Machine.execReturnNotice s
  | .dataTaken => Sys2Proof.Machine.execDataTaken s
  | .dataRefused => Sys2Proof.Machine.execDataRefused s
  | .withdrawn => Sys2Proof.Machine.execWithdrawn s
  | .present => Sys2Proof.Machine.execPresent s
  | .transmitAttempt => Sys2Proof.Machine.execTransmitAttempt s
  | .lostArbitration => Sys2Proof.Machine.execLostArbitration s
  | .transmitFault => Sys2Proof.Machine.execTransmitFault s
  | .frameSent ack => Sys2Proof.Machine.execFrameSent ack s
  | .answerWindowExpires cell => Sys2Proof.Machine.execAnswerWindowExpires cell s
  | .deferralTimerExpires issueId => Sys2Proof.Machine.execDeferralTimerExpires issueId s
  | .broadcastTimerExpires => Sys2Proof.Machine.execBroadcastTimerExpires s
  | .holdTimerExpires => Sys2Proof.Machine.execHoldTimerExpires s
  | .pollTimerExpires => Sys2Proof.Machine.execPollTimerExpires s
  | .idleRecovery => Sys2Proof.Machine.execIdleRecovery s
  | .transitWindowExpires issueId => Sys2Proof.Machine.execTransitWindowExpires issueId s

end Sys2Proof.Machine
end

