-- ==== Sys2Proof/Machine/Tick.lean ====
section
/-! DEFINITION. One millisecond with no command waiting: the crib clock and the counts of windows and timers (R192, log 2). -/

namespace Sys2Proof.Machine

/-- A running window or timer one millisecond on; at 0 it is due, and its expiry comes as a command. -/
def countDown (t : Option Nat) : Option Nat := t.map (· - 1)

/-- A bar of touch bounce one millisecond on; it ends after the 50 ms (R56, log 25). -/
def countBounce : Option Nat → Option Nat
  | some (k + 1) => some k
  | _ => none

/-- One millisecond of the Crib Controller. -/
def Crib.tick (c : Crib) : Crib :=
  { c with
    pockets := mapVec (fun k => { k with confirm := countDown k.confirm }) c.pockets
    requests := c.requests.map fun r => { r with window := countDown r.window } }

/-- One millisecond of the Presetter Unit. -/
def Presetter.tick (p : Presetter) : Presetter :=
  { p with
    z := { p.z with bounce := countBounce p.z.bounce }
    x := { p.x with bounce := countBounce p.x.bounce }
    cycle := p.cycle.map fun c =>
      { c with seatTimer := countDown c.seatTimer, touchTimer := countDown c.touchTimer } }

/-- One millisecond of the Issue Manager. -/
def IssueManager.tick (m : IssueManager) : IssueManager :=
  { m with records := mapVec (fun r => { r with issue := r.issue.map fun x =>
      { x with transit := countDown x.transit } }) m.records }

/-- One millisecond of the Cell Link Controller; while it is OFF, `intervals` link-idle intervals more, the 128th of which
comes as a command (R105, log 35). An acknowledgement slot lasts one bit time, so it is over (R84, log 44). -/
def Link.tick (intervals : Nat) (l : Link) : Link :=
  { l with
    idle := if l.state = .off then min (Config.idleIntervalsToRecover - 1) (l.idle + intervals) else l.idle
    slotDriven := false, broadcastTimer := countDown l.broadcastTimer, holdTimer := countDown l.holdTimer
    pollTimer := countDown l.pollTimer
    cells := mapVec (fun c => { c with queue := c.queue.map fun e =>
      { e with deferralTimer := countDown e.deferralTimer, window := countDown e.window } }) l.cells }

/-- The home window of a HOME context one millisecond on (R52). -/
def Work.tick : Work → Work
  | .home axes fz fx w => .home axes fz fx (w - 1)
  | w => w

/-- One millisecond of the Order Engine: the crib clock and the home windows (R52, R192). -/
def OrderBlock.tick (o : OrderBlock) : OrderBlock :=
  { o with
    clock := o.clock + 1
    slots := mapVec (fun x => { x with context := x.context.map fun c => { c with work := c.work.tick } }) o.slots }

/-- One millisecond of the part (log 2). -/
def State.tick (s : State) : State :=
  { s with
    order := s.order.tick, crib := s.crib.tick, presetter := s.presetter.tick, issues := s.issues.tick
    link := s.link.tick (Config.idleIntervals s.freeCount), freeCount := s.freeCount + 1 }

end Sys2Proof.Machine
end

