-- ==== Sys2Proof/Machine/Flags.lean ====
section
/-! DEFINITION. What the registers read and what the output pins show, computed from the State (R170, R172, R204 to R206). -/

namespace Sys2Proof.Machine

/-- Slots in a state, as a mask in which bit n stands for slot n (R170). -/
def State.slotMask (s : State) (st : SlotState) : Nat :=
  presence ((List.finRange 32).map fun n => (s.slot n).state == st)

/-- CTL (R171): only PORT_ENABLE is stored. -/
def State.readCtl (s : State) : Nat := presence [s.order.portEnable]

/-- STA (R172). -/
def State.readSta (s : State) : Nat :=
  presence [s.inService, s.order.halted, s.reports.stalled, s.link.state == .off, s.order.conflict.isSome,
    s.order.boardFault, s.order.releaseError] + 256 * (s.order.conflict.map (·.val)).getD 0

/-- CAU (R205): DONE is the level of DON. -/
def State.readCau (s : State) : Nat :=
  presence [s.slotMask .done != 0, s.order.cauReport, s.order.cauStall, s.order.cauFault]

/-- What a read of a register returns; no read changes the State (R170, R204). -/
def State.readRegister (s : State) : Register → Word
  | .ctl => BitVec.ofNat 32 s.readCtl
  | .sta => BitVec.ofNat 32 s.readSta
  | .bba => s.order.bba
  | .pst => BitVec.ofNat 32 (s.slotMask .posted)
  | .don => BitVec.ofNat 32 (s.slotMask .done)
  | .rpc => BitVec.ofNat 32 s.reports.written.toNat
  | .cau => BitVec.ofNat 32 s.readCau
  | .cen => BitVec.ofNat 32 s.order.cen.toNat

/-- INT is driven low (R206). -/
def State.intAsserted (s : State) : Bool := (BitVec.ofNat 4 s.readCau &&& s.order.cen) != 0

/-- LREQ is asserted: a series of accesses is under way (R174). -/
def State.requestsBus (s : State) : Bool := s.order.series.isSome

/-- LNE is asserted: during a frame of the part, and during the acknowledgement slot of a frame that it acknowledges (R84). -/
def State.drivesLine (s : State) : Bool := s.link.attempt.isSome || s.link.slotDriven

/-- The levels that the part drives while LNE is asserted, recessive as true: its frame under way with the slot recessive, or
the one dominant bit of the slot of a received frame; nothing otherwise (R84). -/
def State.drivenLevels (s : State) : List Bool :=
  match s.link.attempt with
  | some a => a.frame.driven
  | none => if s.link.slotDriven then [false] else []

end Sys2Proof.Machine
end

