-- ==== Sys2Proof/Safety.lean ====
section
/-! DEFINITION. What the statements about the part share: the parts of a State that a command leaves alone, the shape of a finished
and of a waiting order, and the invariants. -/

namespace Sys2Proof.Machine

/-! ## Parts of the blocks, for the frames -/

/-- The registers of the port, the series under way, the service state and the crib clock: all of the Order Port and Engine
but the slots, the results that wait and CAU.STALL. -/
def OrderBlock.portPart (o : OrderBlock) : OrderBlock :=
  { o with
    slots := Vector.replicate 32 { state := .free, context := none }, writeOrder := [], formedNow := []
    cauStall := false }

/-- The drawers, the layout lock, the budget, the windows and the first scan: all of the Crib Controller but the pockets and
the requests. -/
def Crib.layoutPart (c : Crib) : Crib :=
  { c with pockets := Vector.replicate 512 Pocket.reset, requests := [], nextNumber := 0 }

/-- The parameters of the presetter (R66). -/
def Presetter.stationPart (p : Presetter) : Presetter :=
  { p with
    z := { AxisRec.reset with softLimit := p.z.softLimit }, x := { AxisRec.reset with softLimit := p.x.softLimit }
    reference := none, generation := 0, cycle := none, seated := false }

/-- The rights table, the poll pointer and the link parameters (R107, R121). -/
def Link.configPart (l : Link) : Link :=
  { l with
    state := .active, errors := 0, idle := 0, cells := Vector.replicate 24 Cell.reset, rx := [], buffer0 := none
    next0 := none, attempt := none, slotDriven := false, broadcastTimer := none, holdTimer := none, pollTimer := none }

/-- The written and released counts (R196). -/
def ReportWriter.countPart (r : ReportWriter) : BitVec 16 × BitVec 16 := (r.written, r.released)

/-! ## Orders under way (R179, R180) -/

/-- The command that brings an order of a kind from its slot. -/
def orderCommand : OrderKind → SlotImage → Instr
  | .setCell => .setCell | .setRight => .setRight | .setDrawer => .setDrawer | .setLimits => .setLimits
  | .lockLayout => .lockLayout | .startService => .startService | .stopService => .stopService | .enrol => .enrol
  | .remove => .remove | .readTool => .readTool | .find => .find | .setLife => .setLife | .regrind => .regrind
  | .home => .home | .calibrate => .calibrate | .measure => .measure | .stow => .stow | .issue => .issue
  | .returnTool => .returnTool | .cancel => .cancel | .scan => .scan | .clearFault => .clearFault
  | .restoreCell => .restoreCell

/-- The read of slot `n` is under way, between two steps (R174, R179). -/
def State.reading (s : State) (n : SlotNo) : Prop := s.order.series = some (.slotRead n) ∧ s.order.formedNow = []

/-- The order that slot `n` brings passes the checks of R179. -/
def State.accepts (s : State) (k : OrderKind) (img : SlotImage) (n : SlotNo) : Prop :=
  s.reading n ∧ takingCheck k img s.order.service = none

/-- Slot `n` read and its order finished in the same step: the slot TAKEN, its result formed now and last in the line of
results that wait for the port (R174, R179, R180). -/
def State.answered (n : SlotNo) (kind : Nat) (img : SlotImage) (status : Status) (result buffer : List Byte)
    (s : State) : State :=
  s.modOrder fun o =>
    { o with
      series := none, writeOrder := o.writeOrder ++ [n]
      slots := o.slots.set n.1 { state := .taken, context := some { newContext kind img with
        output := some { status := status, stamp := s.clock, result := result, buffer := buffer } } } n.2 }

/-- Slot `n` read and its order under way with its work: the slot TAKEN with the context of a long order (R179, R180). -/
def State.started (n : SlotNo) (kind : Nat) (img : SlotImage) (work : Work) (s : State) : State :=
  s.modOrder fun o =>
    { o with
      series := none
      slots := o.slots.set n.1
        { state := .taken, context := some { newContext kind img with work := work, long := true } } n.2 }

/-- The long order in slot `n` finished: its result formed now, its work gone, last in the line of results that wait for the
port (R180). -/
def State.ended (n : SlotNo) (status : Status) (result buffer : List Byte) (s : State) : State :=
  s.modOrder fun o =>
    { o with
      writeOrder := o.writeOrder ++ [n]
      slots := o.slots.set n.1 { s.slot n with context := (s.slot n).context.map fun c =>
        { c with work := .idle
                 output := some { status := status, stamp := s.clock, result := result, buffer := buffer } } } n.2 }

/-- A long order with this work runs in slot `n`, between two steps (R180). -/
def State.working (s : State) (n : SlotNo) (work : Work) : Prop :=
  (∃ c, (s.slot n).context = some c ∧ c.work = work ∧ c.output = none) ∧ s.order.formedNow = []

/-- The oldest frame in the receive queue, of a kind, between two steps (R92). -/
def State.handsOn (s : State) (kind : Nat) (f : RxFrame) (rest : List RxFrame) : Prop :=
  s.link.rx = f :: rest ∧ f.kind = kind ∧ s.order.formedNow = []

/-! ## The measure cycle and the presetter records, for the statements (R49, R58) -/

/-- The measure cycle just started for a slot: SEAT with its seat window, or TOUCH with both lists empty, no accepted edge
and its touch window, by the level of SEATED (R58). -/
def Presetter.withCycle (n : SlotNo) (p : Presetter) : Presetter :=
  if p.seated then
    { p with
      z := { p.z with captures := [], bounce := none }, x := { p.x with captures := [], bounce := none }
      cycle := some { state := .touch, owner := n, seatTimer := none, touchTimer := some (1000 * p.touchWindow)
                      seatLength := p.seatWindow, touchLength := p.touchWindow, touches := p.touches
                      spreadLimit := p.spreadLimit } }
  else
    { p with
      cycle := some { state := .seat, owner := n, seatTimer := some (1000 * p.seatWindow), touchTimer := none
                      seatLength := p.seatWindow, touchLength := p.touchWindow, touches := p.touches
                      spreadLimit := p.spreadLimit } }

/-- A CALIBRATE whose cycle ends in a fault without means: the cycle IDLE, the order complete with the fault, its record the
captures (none in SEAT), no reference and the axes (R59, R60, R65). -/
def State.calibrateFailed (c : Cycle) (fault : Status) (s : State) : State :=
  let z := if c.state = .seat then [] else s.presetter.z.captures
  let x := if c.state = .seat then [] else s.presetter.x.captures
  let record := le 1 0 ++ captureBytes z ++ captureBytes x ++ List.replicate 26 0 ++ s.presetter.axes.bytes
  State.ended c.owner fault (le 2 record.length) record
    { s with presetter := { s.presetter with cycle := none } }

/-- The status with which the order in a slot has formed its result (R180). -/
def State.formedStatus (s : State) (n : SlotNo) : Option Status :=
  ((s.slot n).context.bind (·.output)).map (·.status)

/-! ## The close of an issue (R143, R144) -/

/-- From `s` the issue in record `i` is closed with a result, `x` its record as it is closed, giving `t`: the record free with
its generation advanced; the claim on the tool released, as OUT at the cell with one more issue for MOUNTED, as ASTRAY at LOOSE
for ASTRAY, as READY otherwise; the result of an ORDER formed in its slot, or ISSUE_CLOSED handed over for a CELL (R143, R144). -/
def State.issueClosed (s : State) (i : IssueNo) (x : Issue) (result : Status) (t : State) : Prop :=
  t.issueRec i =
      { generation :=
          if i.val = 31 ∧ (s.issueRec i).generation.val = 6 then 0 else (s.issueRec i).generation + 1
        issue := none } ∧
    (∀ j, j ≠ i → t.issueRec j = s.issueRec j) ∧
    (t.tools = s.tools.map fun y => if y.number = x.tool then
        (match result with
        | .mounted =>
          { y.release false .out (.cell x.cell x.slot) with
            issueCount := min 65535 ((y.release false .out (.cell x.cell x.slot)).issueCount + 1) }
        | .astray => y.release false .astray .loose
        | _ => y.release false .ready y.location)
      else y) ∧
    (∀ k c, x.origin = .order k → (s.slot k).context = some c → c.output = none →
      t.reports = s.reports ∧ (t.slot k).context = some
        { c with
          work := .idle
          output := some
            { status := result, stamp := s.clock, buffer := []
              result := State.issueResult { s with tools := t.tools } (s.issueId i) x } }) ∧
    ∀ ref, x.origin = .cell ref → t.order.slots = s.order.slots ∧
      t.reports = (s.handReport
        (State.issueClosedReport { s with tools := t.tools } (s.issueId i) x ref result)).reports

/-! ## The invariants -/

/-- What every step keeps: the board area in canonical form; at most 128 entries outstanding, 16 in the hold queue and 8 frames
received; a report under write with credit and an entry; no result formed and not in line; BBA aligned to 64 KiB; the stall by
the length of the hold queue; no series without access; a context exactly for a TAKEN slot (R92, R173, R174, R180, R196 to
R202). -/
def State.inv (s : State) : Prop :=
  Memory.wf s.board = true ∧ s.reports.outstanding ≤ 128 ∧ s.reports.hold.length ≤ 16 ∧ s.link.rx.length ≤ 8 ∧
    (s.order.series = some .reportWrite → s.reports.credit ≠ 0 ∧ s.reports.hold ≠ []) ∧ s.order.formedNow = [] ∧
    s.order.bba &&& 0xFFFF#32 = 0 ∧ (s.reports.stalled = true → s.reports.hold ≠ []) ∧
    (s.reports.stalled = false → s.reports.hold.length < 12) ∧ (s.order.series ≠ none → s.canAccess = true) ∧
    ∀ n, (s.slot n).state = .taken ↔ (s.slot n).context.isSome = true

/-- Requests, claims and locks agree: request numbers are distinct and in range, a request and its pocket name each other, a
started request has its pocket in its own state, a pocket away from LOCKED without a claim is a LOCK_JAM or waits for the reset
relock, and in SERVICE the budget holds (R21, R23, R35 to R37, R42, R48). -/
def State.cribInv (s : State) : Prop :=
  (s.crib.requests.map (·.number)).Nodup ∧ 1 ≤ s.crib.nextNumber ∧ s.crib.nextNumber ≤ 65535 ∧
    (∀ r ∈ s.crib.requests, 1 ≤ r.number ∧ r.number ≤ 65535 ∧ (s.pocket r.pocket).claim = some r.number ∧
      match r.state with
      | .queued => (s.pocket r.pocket).lock = .locked ∨ ((s.pocket r.pocket).lock = .closing ∧
          s.order.service = .setup ∧ (s.pocket r.pocket).fault = .clear)
      | .opening => (s.pocket r.pocket).lock = .opening
      | .opened => (s.pocket r.pocket).lock = .opened
      | .closing => (s.pocket r.pocket).lock = .closing
      | .ended => False) ∧
    (∀ p num, (s.pocket p).claim = some num → ∃ r ∈ s.crib.requests, r.number = num ∧ r.pocket = p) ∧
    (∀ p, (s.pocket p).claim = none → (s.pocket p).lock = .locked ∨ (s.pocket p).fault = .lockJam ∨
      ((s.pocket p).lock = .closing ∧ s.order.service = .setup ∧ (s.pocket p).fault = .clear)) ∧
    (s.order.service = .service → s.budgetCount ≤ s.crib.lockBudget)

/-! ## A request made (R35, R36) -/

/-- From `s` a request with this number was made, giving `u`: its number free and in range, the request last in the list, its
pocket claimed, OPENING with UNLOCK sent where the count is below the budget and QUEUED otherwise, and nothing else changed
outside the Crib Controller (R35, R36). -/
def State.requestMade (s u : State) (num : Nat) (mv : Movement) (p : PocketNo) (tool : Option Nat) (owner : Owner) :
    Prop :=
  (s.cribInv → 1 ≤ num ∧ num ≤ 65535 ∧ ∀ r ∈ s.crib.requests, r.number ≠ num) ∧
    u.crib.requests = s.crib.requests ++
      [{ number := num, movement := mv, pocket := p, tool := tool, owner := owner
         state := if s.budgetCount < s.crib.lockBudget then .opening else .queued, window := none, outcome := none }] ∧
    u.pocket p = (if s.budgetCount < s.crib.lockBudget then
        { s.pocket p with claim := some num, lock := .opening, confirm := some 250, stamp := s.clock }
      else { s.pocket p with claim := some num }) ∧
    (∀ q, q ≠ p → u.pocket q = s.pocket q) ∧ u = { s with crib := u.crib }

end Sys2Proof.Machine
end

