-- ==== Sys2Proof/Certificates/Slice0/Obligations.lean ====
section
/-! DEFINITION. The statements about the part. -/

open Sys2Proof Sys2Proof.Machine

/-! ## The machine -/

/-- A step takes the command at the front of the queue, and exec acts on the state with the queue's rest. -/
def Obligations.StepTakesTheFrontCommand : Prop :=
  ∀ (c : Instr) (rest : List Instr) (s : State), s.pending = c :: rest → step s = exec c { s with pending := rest }

/-- With no command waiting, a step is one millisecond (the model's choice, log 2): the crib clock counts, modulo 2 to the
power 32; a running lock confirm window, request window, seat window, touch window, home window, answer window, deferral timer,
dispatch timer and transit window counts down, and ends at 0; a bar of touch bounce counts down and is gone after its last
millisecond (log 25); an acknowledgement slot is over (log 44); no tool, no report and no byte of the board area changes. -/
def Obligations.EmptyQueueTicks : Prop :=
  ∀ s : State, s.pending = [] → ∃ t, step s = .next t ∧
    t.order.clock = s.order.clock + 1 ∧
    (∀ p, t.pocket p = { s.pocket p with confirm := (s.pocket p).confirm.map (· - 1) }) ∧
    t.crib.requests = s.crib.requests.map (fun r => { r with window := r.window.map (· - 1) }) ∧
    t.presetter.cycle = s.presetter.cycle.map (fun c =>
      { c with seatTimer := c.seatTimer.map (· - 1), touchTimer := c.touchTimer.map (· - 1) }) ∧
    (∀ c, (t.cell c).queue = (s.cell c).queue.map fun e =>
      { e with deferralTimer := e.deferralTimer.map (· - 1), window := e.window.map (· - 1) }) ∧
    t.link.broadcastTimer = s.link.broadcastTimer.map (· - 1) ∧ t.link.holdTimer = s.link.holdTimer.map (· - 1) ∧
    t.link.pollTimer = s.link.pollTimer.map (· - 1) ∧
    (∀ i, t.issueRec i = { s.issueRec i with issue := (s.issueRec i).issue.map fun x =>
      { x with transit := x.transit.map (· - 1) } }) ∧
    (∀ n, t.slot n = { s.slot n with context := (s.slot n).context.map fun c =>
      { c with work := match c.work with
        | .home axes formerZ formerX window => .home axes formerZ formerX (window - 1)
        | work => work } }) ∧
    (∀ a, t.axis a = { s.axis a with bounce := (s.axis a).bounce.bind fun k => if k = 0 then none else some (k - 1) }) ∧
    t.link.slotDriven = false ∧
    t.pending = [] ∧ t.tools = s.tools ∧ t.reports = s.reports ∧ t.board = s.board ∧ t.link.rx = s.link.rx ∧
    t.link.attempt = s.link.attempt ∧ t.crib.layoutPart = s.crib.layoutPart ∧
    t.presetter.stationPart = s.presetter.stationPart ∧ t.presetter.reference = s.presetter.reference ∧
    t.order.writeOrder = s.order.writeOrder ∧ t.order.series = s.order.series ∧
    (∀ r, t.readRegister r = s.readRegister r)

/-- Every command answers a next state in every state; none faults and none is refused. The queue and the count of free values
are left alone. By the model's choice (log 1) a command whose event cannot occur changes nothing: here the handing on of a frame
whose kind is not that of the oldest frame received, or with none received, and the end of a series that is not under way; of
the other commands it is said with each of them. -/
def Obligations.EveryCommandAnswersNext : Prop :=
  ∀ (c : Instr) (s : State),
    (∃ t, exec c s = .next t ∧ t.pending = s.pending ∧ t.freeCount = s.freeCount) ∧
    (∀ kind, (c, kind) ∈ [(Instr.toolRequest, 0x10), (.dataTaken, 0x11), (.dataRefused, 0x12), (.withdrawn, 0x13),
        (.mounted, 0x14), (.usage, 0x15), (.returnNotice, 0x16), (.present, 0x17), (.cancelFrame, 0x18)] →
      (∀ f rest, s.link.rx = f :: rest → f.kind ≠ kind) → exec c s = .next s) ∧
    ((c = .resultWritten ∧ ∀ n, s.order.series ≠ some (.resultWrite n)) ∨
        (c = .reportWriteDone ∧ s.order.series ≠ some .reportWrite) → exec c s = .next s)

/-! ## Resets and CTL (R48, R67, R106, R108, R171, R193, R194, R195, R207) -/

/-- RESET and FULL_RESET leave the same state: every register of the window reads 0, every slot is FREE with no context, the
service state is SETUP, the clock 0, no series is under way, nothing waits to be written, and the report list is empty.
They leave no tool, no issue and no exchange; every pocket empty, without claim and fault, stamp 0, CLOSING
with its lock confirm window of 250 ms, its sensor ABSENT; every drawer OPEN, the layout lock clear; the axes UNHOMED, no
reference, the cycle IDLE; every cell disabled and GOOD; every rights entry disabled, with no cell and no permission; the
poll pointer at cell 1, whose number is 0 here; the parameters at their reset values. The bytes that the part had
written stay (R195; those of a series under way that had ended good among them, log 4). -/
def Obligations.ResetLeaves : Prop :=
  ∀ (seated : Bool) (accesses : Nat) (s : State), ∃ t,
    exec (.reset seated accesses) s = .next t ∧ exec (.fullReset seated accesses) s = .next t ∧
    (∀ r, t.readRegister r = 0) ∧ t.intAsserted = false ∧ t.requestsBus = false ∧
    (∀ n, t.slot n = { state := .free, context := none }) ∧ t.order.service = .setup ∧ t.order.clock = 0 ∧
    t.order.writeOrder = [] ∧ t.reports.written = 0 ∧ t.reports.released = 0 ∧ t.reports.credit = 128 ∧
    t.reports.hold = [] ∧ t.reports.stalled = false ∧ t.pending = s.pending ∧
    t.tools = [] ∧ t.crib.requests = [] ∧ t.crib.nextNumber = 1 ∧
    (∀ p, t.pocket p = { content := none, sensor := .absent, lock := .closing, claim := none, fault := .clear
                         stamp := 0, confirm := some 250 }) ∧
    (∀ d : Fin 16, t.crib.drawers.get d = .openAll) ∧ t.crib.layoutLock = false ∧ t.crib.lockBudget = 4 ∧
    t.crib.pickupWindow = 30 ∧ t.crib.insertWindow = 60 ∧ t.crib.scanDone = false ∧
    (∀ a, t.axis a = { state := .unhomed, counter := 0, softLimit := 1048575, captures := [], bounce := none }) ∧
    t.presetter.reference = none ∧ t.presetter.generation = 0 ∧ t.presetter.cycle = none ∧
    t.presetter.seated = seated ∧ t.presetter.spreadLimit = 3 ∧ t.presetter.touches = 3 ∧
    t.presetter.seatWindow = 120 ∧ t.presetter.touchWindow = 60 ∧ t.presetter.homeWindow = 300 ∧
    t.presetter.masterLength = 0 ∧ t.presetter.masterRadius = 0 ∧
    (∀ i, t.issueRec i = { generation := 0, issue := none }) ∧ t.issues.transitWindow = 10 ∧
    (∀ c, t.cell c = { enabled := false, magSize := 240, issueLimit := 4, standing := .good, faultCount := 0
                       answers := 0, queue := [], lastGrant := 0 }) ∧
    (∀ i : Fin 16, t.link.rights.get i =
      { enabled := false, cells := 0, value := 0, mask := 0
        perms := { byNumber := false, byClass := false, returnTool := false } }) ∧
    t.link.pollPointer = 0 ∧ t.link.state = .active ∧ t.link.errors = 0 ∧
    t.link.rx = [] ∧ t.link.attempt = none ∧ t.link.buffer0 = none ∧ t.link.broadcastTimer = some 1000 ∧
    t.link.holdTimer = none ∧ t.link.pollTimer = none ∧ t.link.answerWindow = 100 ∧ t.link.retryLimit = 3 ∧
    t.link.deferralDelay = 2000 ∧ t.link.broadcastInterval = 1000 ∧ t.link.pollInterval = 250 ∧
    t.link.holdTime = 500 ∧ t.board = (s.writePart accesses).board

/-- PORT_ENABLE is stored as written. When it becomes 0, the series under way ends: only the bytes of its accesses that had
ended good are written (log 4), its slots and the hold queue keep their work, nothing is latched. RESUME leaves HALTED and
changes nothing else. -/
def Obligations.PortEnableAndResume : Prop :=
  ∀ (accesses : Nat) (s : State),
    exec (.portEnable true accesses) s = .next { s with order := { s.order with portEnable := true } } ∧
    exec (.portEnable false accesses) s =
      .next { s with
        order := { s.order with portEnable := false, series := none }
        board := ((s.seriesAccesses.take (min accesses (s.seriesAccesses.length - 1))).foldl Memory.writeAll s.board) } ∧
    exec .resume s = .next { s with order := { s.order with halted := false } }

/-- A link restart, by its steps: the line driven no more, the receive queue, every exchange and every buffer emptied; every
cell GOOD with counts and last grant 0, with a CELL_STANDING for each cell that was not GOOD, in address order; the link
ACTIVE with LINK_STATE if it was OFF; the outcome DROPPED to each owner, in address and queue order; the timers restarted. The
owners: a LIFE_END is reported undelivered, a DENY or POLL changes nothing; an offer that was never acknowledged closes its
issue LINK_RESTART, or with the failure result recorded before, withdraw status NONE; another leaves the offer outcome UNKNOWN and withdraws it; the WITHDRAW of an issue, or of a RETURN
whether its movement has ended or not, is queued again. So every exchange left is a WITHDRAW queued now, and a last grant is 0 or, at such a cell, the clock.
Configuration, rights, parameters and the other blocks are kept. The count 0 in LINK_STATE and that offer outcome are the
model's reading (logs 19 and 30). -/
def Obligations.LinkRestartRestores : Prop :=
  (∀ (s w : State) (standings link : List Report),
    (standings = (List.finRange 24).filterMap fun c =>
      if (s.cell c).standing = .good then none
      else some { Report.blank .cellStanding with
        cell := c.val + 1, code := 5, detail := .plain (le 1 (s.cell c).standing.code ++ le 4 0) }) →
    (link = if s.link.state = .off then
        [{ Report.blank .linkState with code := 3, detail := .plain (le 1 0 ++ le 2 0) }] else []) →
    w = (standings ++ link).foldl (fun u r => u.handReport r)
      { s with link :=
        { s.link with
          attempt := none, slotDriven := false, rx := [], buffer0 := none, next0 := none, state := .active, errors := 0
          idle := 0
          cells := mapVec (fun x =>
            { x with queue := [], standing := .good, faultCount := 0, answers := 0, lastGrant := 0 }) s.link.cells } } →
    ∀ u, u = ((List.finRange 24).flatMap fun c => (s.cell c).queue.map fun e => (c, e)).foldl
        (fun v p => v.exchangeEnded p.1 p.2 (.dropped .linkRestart)) w →
    exec .linkRestart s = .next (State.settle
      { u with link :=
        { u.link with
          broadcastTimer := if u.reports.stalled then u.link.broadcastTimer
            else if u.link.broadcastInterval = 0 then none else some u.link.broadcastInterval
          holdTimer := if u.reports.stalled then (if u.link.holdTime = 0 then none else some u.link.holdTime)
            else u.link.holdTimer
          pollTimer := if s.order.service = .service then
            (if u.link.pollInterval = 0 then none else some u.link.pollInterval) else u.link.pollTimer } })) ∧
  (∀ (u : State) (c : CellNo) (e : Exchange),
    (∀ tool, e.payload = .lifeEnd tool → u.exchangeEnded c e (.dropped .linkRestart) = u.handReport
      { Report.blank .lifeEndUndelivered with
        cell := c.val + 1, tool := tool, code := 4, detail := .plain (le 1 e.triesUsed) }) ∧
    (e.payload = .poll ∨ (∃ ref value reason, e.payload = .deny ref value reason) →
      u.exchangeEnded c e (.dropped .linkRestart) = u) ∧
    (∀ id i x tool slot length radius remaining unit, e.owner = .issue id → u.openIndex id = some i →
      (u.issueRec i).issue = some x →
      (e.payload = .dataOffer id tool slot length radius remaining unit → e.acknowledged = false →
        ∀ result, result = x.failure.getD .linkRestart →
        ∃ v, u.exchangeEnded c e (.dropped .linkRestart) = v ∧ (v.issueRec i).issue = none ∧ v.crib = u.crib ∧
          v.link.cells = u.link.cells ∧
          u.issueClosed i
            { x with
              tries := e.triesUsed, deferrals := e.deferrals, withdraw := .notSent, failure := some result
              closed := some u.clock } result v ∧
          (∀ k, x.origin = .order k → u.working k (.issue id) → v.formedStatus k = some result) ∧
          (∀ ref, x.origin = .cell ref → ∃ w : State, w.clock = u.clock ∧ w.reports = u.reports ∧ w.tools = v.tools ∧
            v = (w.handReport (w.issueClosedReport id
              { x with
                tries := e.triesUsed, deferrals := e.deferrals, withdraw := .notSent, failure := some result
                closed := some u.clock } ref result)).freeRecord i) ∧
          ∀ y, u.findTool x.tool = some y → x.failure ≠ some .mounted → x.failure ≠ some .astray →
            y.stateBefore ≠ some .astray → y.meetsReady = true →
            v.findTool x.tool = some { y with claim := none, stateBefore := none, state := .ready }) ∧
      (e.payload = .dataOffer id tool slot length radius remaining unit → e.acknowledged = true →
        (u.cell x.cell).queue.length < 16 → (u.cell x.cell).standing ≠ .cutOff →
        u.exchangeEnded c e (.dropped .linkRestart) =
          ((u.modIssue i fun x =>
            { x with
              tries := e.triesUsed, deferrals := e.deferrals, offer := .unknown, phase := .withdrawing
              request := none, failure := some (x.failure.getD .linkRestart) }).queueExchange x.cell
            (.withdraw id x.tool x.slot) (.issue id)).1) ∧
      (e.payload = .withdraw id tool slot → (u.cell x.cell).queue.length < 16 → (u.cell x.cell).standing ≠ .cutOff →
        u.exchangeEnded c e (.dropped .linkRestart) =
          ((u.modIssue i fun x =>
            { x with
              phase := .withdrawing, request := none
              failure := some (x.failure.getD .linkRestart) }).queueExchange x.cell
            (.withdraw id x.tool x.slot) (.issue id)).1)) ∧
    (∀ n r d tool slot, e.owner = .slot n → e.payload = .withdraw 255 tool slot → u.work n = .returning r →
      r.withdrawTo = some (d, slot) → (u.cell d).queue.length < 16 → (u.cell d).standing ≠ .cutOff →
      u.exchangeEnded c e (.dropped .linkRestart) =
        ((u.queueExchange d (.withdraw 255 r.tool slot) (.slot n)).1.setWork n
          (.returning { r with withdraw := .pending, tries := 0, acknowledged := false })))) ∧
  ∀ s : State, ∃ t, exec .linkRestart s = .next t ∧
    t.link.state = .active ∧ t.link.errors = 0 ∧ t.link.idle = 0 ∧ t.link.rx = [] ∧ t.link.attempt = none ∧
    t.link.slotDriven = false ∧
    (∀ c, (t.cell c).standing = .good ∧ (t.cell c).faultCount = 0 ∧ (t.cell c).answers = 0 ∧
      (t.cell c).enabled = (s.cell c).enabled ∧ (t.cell c).magSize = (s.cell c).magSize ∧
      (t.cell c).issueLimit = (s.cell c).issueLimit ∧
      (∀ e ∈ (t.cell c).queue, e.stamp = s.clock ∧ ∃ id tool slot, e.payload = .withdraw id tool slot) ∧
      ((t.cell c).lastGrant = 0 ∨ ((t.cell c).queue ≠ [] ∧ (t.cell c).lastGrant = s.clock))) ∧
    t.link.configPart = s.link.configPart ∧ t.presetter = s.presetter ∧ t.order.portPart = s.order.portPart ∧
    t.crib.layoutPart = s.crib.layoutPart ∧ t.reports.countPart = s.reports.countPart ∧ t.board = s.board ∧
    t.pending = s.pending

/-! ## Registers (R170 to R173, R177, R178, R203 to R206) -/

/-- What every register reads in any state, bits not named 0: PORT_ENABLE in CTL, whose other bits read 0; the owners' states
and the three latched indications in STA, the conflict slot in bits 12:8 (0 with no conflict); the base in BBA; the slots
POSTED in PST and those DONE in DON, bit n for slot n; the written count in RPC; in CAU the level of DON and the three latched
causes; CEN as stored. A write to BBA is taken while the port is disabled and no slot is TAKEN, with bits 15:0 cleared, and
ignored otherwise. A write that reaches read-only bits alone changes nothing. A 1 in DON makes a DONE slot FREE and is ignored
for any other; a 0 changes nothing; nothing is latched. -/
def Obligations.RegisterReadsBbaAndDon : Prop :=
  ∀ (value : Word) (reg : Register) (s : State),
    (s.readRegister .ctl = (if s.order.portEnable then 1#32 else 0#32) ∧
      ((s.readRegister .sta).getLsbD 0 = decide (s.order.service = .service) ∧
        (s.readRegister .sta).getLsbD 1 = s.order.halted ∧ (s.readRegister .sta).getLsbD 2 = s.reports.stalled ∧
        (s.readRegister .sta).getLsbD 3 = decide (s.link.state = .off) ∧
        (s.readRegister .sta).getLsbD 4 = s.order.conflict.isSome ∧
        (s.readRegister .sta).getLsbD 5 = s.order.boardFault ∧ (s.readRegister .sta).getLsbD 6 = s.order.releaseError ∧
        (∀ n, s.order.conflict = some n → (s.readRegister .sta).extractLsb' 8 5 = BitVec.ofNat 5 n.val) ∧
        (s.order.conflict = none → (s.readRegister .sta).extractLsb' 8 5 = 0) ∧
        s.readRegister .sta &&& 0xFFFFE080#32 = 0) ∧
      s.readRegister .bba = s.order.bba ∧ (s.inv → s.readRegister .bba &&& 0xFFFF#32 = 0) ∧
      (∀ n : SlotNo, (s.readRegister .pst).getLsbD n.val = decide ((s.slot n).state = .posted) ∧
        (s.readRegister .don).getLsbD n.val = decide ((s.slot n).state = .done)) ∧
      s.readRegister .rpc = s.reports.written.setWidth 32 ∧
      ((s.readRegister .cau).getLsbD 0 = decide (s.readRegister .don ≠ 0) ∧
        (s.readRegister .cau).getLsbD 1 = s.order.cauReport ∧ (s.readRegister .cau).getLsbD 2 = s.order.cauStall ∧
        (s.readRegister .cau).getLsbD 3 = s.order.cauFault ∧ s.readRegister .cau &&& 0xFFFFFFF0#32 = 0) ∧
      s.readRegister .cen = s.order.cen.setWidth 32) ∧
    (s.order.portEnable = false → (∀ n, (s.slot n).state ≠ .taken) →
      exec (.bbaWrite value) s = .next { s with order := { s.order with bba := value &&& 0xFFFF0000#32 } }) ∧
    (s.order.portEnable = true ∨ (∃ n, (s.slot n).state = .taken) → exec (.bbaWrite value) s = .next s) ∧
    exec (.ignoredRegisterWrite reg value) s = .next s ∧
    ∃ t, exec (.donWrite value) s = .next t ∧
      (∀ n : SlotNo, t.slot n =
        if value.getLsbD n.val = true ∧ (s.slot n).state = .done then { s.slot n with state := .free } else s.slot n) ∧
      t = { s with order := { s.order with slots := t.order.slots } }

/-- A 1 in PST makes a FREE slot POSTED. For a slot that is POSTED, TAKEN or DONE it is ignored: the slot keeps its state and its
work, CAU.FAULT is set, and CONFLICT with the lowest such slot unless it is set already. Each bit acts by itself. -/
def Obligations.PostWrite : Prop :=
  ∀ (value : Word) (s : State), ∃ t, exec (.pstWrite value) s = .next t ∧
    (∀ n : SlotNo, t.slot n =
      if value.getLsbD n.val = true ∧ (s.slot n).state = .free then { s.slot n with state := .posted } else s.slot n) ∧
    t.order.conflict = (s.order.conflict.orElse fun _ =>
      (List.finRange 32).find? fun n : SlotNo => value.getLsbD n.val && decide ((s.slot n).state ≠ .free)) ∧
    t.order.cauFault =
      (s.order.cauFault || (List.finRange 32).any fun n : SlotNo => value.getLsbD n.val && decide ((s.slot n).state ≠ .free)) ∧
    t = { s with order :=
      { s.order with slots := t.order.slots, conflict := t.order.conflict, cauFault := t.order.cauFault } }

/-- A release count n in bits 15:0 of RPC. In 1..outstanding it is added to the released count and to the credit, and the head
of the hold queue no longer waits for credit; 0 has no effect; more than outstanding is ignored, with RELEASE_ERROR and
CAU.FAULT set. -/
def Obligations.ReleaseWrite : Prop :=
  ∀ (value : Word) (s : State),
    (1 ≤ (value.setWidth 16).toNat → (value.setWidth 16).toNat ≤ s.reports.outstanding → ∃ t,
      exec (.rpcWrite value) s = .next t ∧
      t = { s with reports := { s.reports with released := s.reports.released + value.setWidth 16 } } ∧
      (s.reports.outstanding ≤ 128 → t.reports.credit = s.reports.credit + (value.setWidth 16).toNat ∧
        t.reportWaits = !s.reports.hold.isEmpty)) ∧
    (value.setWidth 16 = 0#16 → exec (.rpcWrite value) s = .next s) ∧
    (s.reports.outstanding < (value.setWidth 16).toNat →
      exec (.rpcWrite value) s =
        .next { s with order := { s.order with releaseError := true, cauFault := true } })

/-- A 1 in bit 1, 2 or 3 of CAU clears that latched cause; the clear of FAULT clears CONFLICT, BOARD_FAULT and RELEASE_ERROR of
STA too; a 1 in bit 0 and every 0 have no effect. -/
def Obligations.CauseClear : Prop :=
  ∀ (value : Word) (s : State),
    exec (.cauWrite value) s =
      .next { s with order :=
        { s.order with
          cauReport := s.order.cauReport && !value.getLsbD 1
          cauStall := s.order.cauStall && !value.getLsbD 2
          cauFault := s.order.cauFault && !value.getLsbD 3
          conflict := if value.getLsbD 3 then none else s.order.conflict
          boardFault := s.order.boardFault && !value.getLsbD 3
          releaseError := s.order.releaseError && !value.getLsbD 3 } }

/-- CEN is stored and read as written, in four bits. INT is driven low exactly while CAU and CEN have a set bit in common, DONE
being 1 while some slot is DONE. CEN is 0 and INT released after a device reset. -/
def Obligations.EnablesAndInt : Prop :=
  (∀ (value : Word) (s : State), ∃ t, exec (.cenWrite value) s = .next t ∧
    t = { s with order := { s.order with cen := value.setWidth 4 } } ∧ t.readRegister .cen = value &&& 0xF#32) ∧
  (∀ s : State, s.intAsserted =
    ((s.order.cen.getLsbD 0 && (List.finRange 32).any fun n : SlotNo => decide ((s.slot n).state = .done)) ||
      (s.order.cen.getLsbD 1 && s.order.cauReport) || (s.order.cen.getLsbD 2 && s.order.cauStall) ||
      (s.order.cen.getLsbD 3 && s.order.cauFault))) ∧
  State.reset.order.cen = 0 ∧ State.reset.intAsserted = false

/-! ## The Order Port (R173 to R175, R179, R180, R193, R196 to R202) -/

/-- The port, when it may access the board area and no series is under way, begins first the result formed first; with no result
waiting, the head of the hold queue while there is credit; with neither, the read of the lowest POSTED slot. It begins nothing
while a series is under way, while it is disabled and while it is HALTED; no report with an empty hold queue or no credit; no slot
read while a report waits with credit or with no slot POSTED. A command for a series that it does not begin changes nothing (log
1, the model's choice). -/
def Obligations.SeriesBegin : Prop :=
  ∀ s : State,
    (s.order.portEnable = true → s.order.halted = false → s.order.series = none →
      (∀ n rest, s.order.writeOrder = n :: rest →
        exec .resultWrite s = .next { s with order := { s.order with series := some (.resultWrite n) } }) ∧
      (s.order.writeOrder = [] → s.reports.hold ≠ [] → s.reports.credit ≠ 0 →
        exec .reportWrite s = .next { s with order := { s.order with series := some .reportWrite } }) ∧
      (∀ n, s.order.writeOrder = [] → (s.reports.hold = [] ∨ s.reports.credit = 0) → (s.slot n).state = .posted →
        (∀ m < n, (s.slot m).state ≠ .posted) →
        exec .slotRead s = .next { s with order := { s.order with series := some (.slotRead n) } })) ∧
    (s.order.portEnable = false ∨ s.order.halted = true ∨ s.order.series ≠ none →
      exec .resultWrite s = .next s ∧ exec .reportWrite s = .next s ∧ exec .slotRead s = .next s) ∧
    (s.order.writeOrder ≠ [] → exec .reportWrite s = .next s ∧ exec .slotRead s = .next s) ∧
    (s.order.writeOrder = [] → exec .resultWrite s = .next s) ∧
    (s.reports.hold = [] ∨ s.reports.credit = 0 → exec .reportWrite s = .next s) ∧
    ((s.reports.hold ≠ [] ∧ s.reports.credit ≠ 0) ∨ (∀ n, (s.slot n).state ≠ .posted) →
      exec .slotRead s = .next s)

/-- A result written whole: the slot is DONE without a context, the port free, the slot gone from the line of waiting results. The
64 bytes at the slot's 40h read status, tag, completion stamp and result (little-endian, filled up with 0), the word that
holds the status written last; the buffer's bytes stand from the buffer offset on; every other byte reads as before. -/
def Obligations.ResultWritten : Prop :=
  ∀ (n : SlotNo) (c : Context) (out : Output) (s : State),
    s.order.series = some (.resultWrite n) → (s.slot n).context = some c → c.output = some out →
    Memory.wf s.board = true → ∃ t, exec .resultWritten s = .next t ∧
    t.slot n = { state := .done, context := none } ∧ (∀ m, m ≠ n → t.slot m = s.slot m) ∧
    t.order.series = none ∧ t.order.writeOrder = s.order.writeOrder.filter (· != n) ∧
    (∀ i < 64, Memory.read (s.order.bba.toNat + 0x80 * n.val + 0x40 + i) t.board =
      (le 2 out.status.code ++ le 2 c.tag.toNat ++ le 4 out.stamp.toNat ++ fit 56 out.result)[i]?) ∧
    (0x2000 ≤ c.bufOffset.toNat → ∀ i < out.buffer.length,
      Memory.read (s.order.bba.toNat + c.bufOffset.toNat + i) t.board = out.buffer[i]?) ∧
    (∀ a, ¬ (s.order.bba.toNat + 0x80 * n.val + 0x40 ≤ a ∧ a < s.order.bba.toNat + 0x80 * n.val + 0x80) →
      ¬ (s.order.bba.toNat + c.bufOffset.toNat ≤ a ∧
        a < s.order.bba.toNat + c.bufOffset.toNat + out.buffer.length) →
      Memory.read a t.board = Memory.read a s.board) ∧
    (s.order.bba.toNat % 4 = 0 → ∃ earlier, s.resultSeries n = earlier ++
      [(le 2 out.status.code ++ le 2 c.tag.toNat).zipIdx.map fun b =>
        (s.order.bba.toNat + 0x80 * n.val + 0x40 + b.2, b.1)]) ∧
    t = { s with
      order := { s.order with slots := t.order.slots, series := t.order.series, writeOrder := t.order.writeOrder }
      board := t.board }

/-- A report written whole: the written count grows by 1, the head leaves the hold queue, CAU.REPORT is set, the port is free. The
32 bytes of entry (written count modulo 128) of the report list are the report's, with the count before as sequence; every
other byte reads as before. They are, by offset: kind 00h, flags 01h, cell 02h, issue 03h, stamp 04h, tool 08h, code 0Ah, count
0Ch, sequence 0Eh, detail from 10h, filled up with 0; that of a MERGED entry its kind set at 10h and its last stamp at 12h. The
14 kinds have the codes 01h..0Eh. The STALL ends when the queue becomes empty, and nothing of the link changes otherwise. -/
def Obligations.ReportWritten : Prop :=
  ∀ (r : Report) (rest : List Report) (s : State),
    s.order.series = some .reportWrite → s.reports.hold = r :: rest → Memory.wf s.board = true →
    ∃ t, exec .reportWriteDone s = .next t ∧
    t.reports = { s.reports with
      written := s.reports.written + 1, hold := rest, stalled := s.reports.stalled && !rest.isEmpty } ∧
    t.order = { s.order with series := none, cauReport := true } ∧
    (∀ i < 32, Memory.read
        (s.order.bba.toNat + 0x1000 + 0x20 * (s.reports.written.toNat % 128) + i) t.board =
      (r.bytes s.reports.written)[i]?) ∧
    (∀ holds : Nat → List Byte → Prop,
      (∀ offset bytes, holds offset bytes ↔ ∀ i < bytes.length,
        Memory.read (s.order.bba.toNat + 0x1000 + 0x20 * (s.reports.written.toNat % 128) + offset + i) t.board =
          bytes[i]?) →
      holds 0x00 (le 1 r.kind.code) ∧
      holds 0x01 (le 1 (r.held.toNat + 2 * r.bit1.toNat + 4 * r.bit2.toNat + 8 * r.bit3.toNat)) ∧
      holds 0x02 (le 1 r.cell) ∧ holds 0x03 (le 1 r.issue) ∧ holds 0x04 (le 4 r.stamp.toNat) ∧
      holds 0x08 (le 2 r.tool) ∧ holds 0x0A (le 2 r.code) ∧ holds 0x0C (le 2 r.count) ∧
      holds 0x0E (le 2 s.reports.written.toNat) ∧
      (∀ bytes, r.detail = .plain bytes → bytes.length ≤ 16 →
        holds 0x10 (bytes ++ List.replicate (16 - bytes.length) 0)) ∧
      (∀ kinds last, r.detail = .merged kinds last →
        holds 0x10 (le 2 kinds.toNat) ∧ holds 0x12 (le 4 last.toNat) ∧ holds 0x16 (List.replicate 10 0))) ∧
    ([ReportKind.requestDenied, .issueClosed, .lateMount, .mountRejected, .returnNoted, .usageRejected, .lifeWarning,
      .lifeEnd, .lifeEndUndelivered, .pocketFault, .cellStanding, .linkState, .referenceLost, .merged].map
        ReportKind.code = [1, 2, 3, 4, 5, 6, 7, 8, 9, 10, 11, 12, 13, 14]) ∧
    (∀ a, ¬ (s.order.bba.toNat + 0x1000 + 0x20 * (s.reports.written.toNat % 128) ≤ a ∧
        a < s.order.bba.toNat + 0x1000 + 0x20 * (s.reports.written.toNat % 128) + 0x20) →
      Memory.read a t.board = Memory.read a s.board) ∧
    (s.reports.stalled = true → rest = [] → t.link.holdTimer = none ∧
      t.link.broadcastTimer = (if s.link.broadcastInterval = 0 then none else some s.link.broadcastInterval) ∧
      (s.link.attempt = none → t.link.buffer0 = some { service := s.order.service, hold := 0 })) ∧
    (s.reports.stalled = false ∨ rest ≠ [] → t.link = s.link) ∧
    t = { s with order := t.order, reports := t.reports, link := t.link, board := t.board }

/-- A faulted access ends the series under way and halts the port: HALTED, BOARD_FAULT and CAU.FAULT are set. The slots, the hold
queue and the counts keep what the series was about; of its bytes only those of its good accesses stand (log 4). With no
series under way there is no access that could fault, and the command changes nothing (log 1, the model's choice). -/
def Obligations.BoardFaultHalts : Prop :=
  ∀ (accesses : Nat) (s : State),
    (s.order.series ≠ none → exec (.boardFault accesses) s =
      .next { s with
        order := { s.order with series := none, halted := true, boardFault := true, cauFault := true }
        board := (s.seriesAccesses.take (min accesses (s.seriesAccesses.length - 1))).foldl Memory.writeAll s.board }) ∧
    (s.order.series = none → exec (.boardFault accesses) s = .next s)

/-- A slot read that completes makes the slot TAKEN. The order is refused with the first of these that holds: the kind is none of
the 23 (BAD_KIND); the flags are not 0 (BAD_PARAM); the kind is not taken in the service state (WRONG_STATE); FIND, SCAN,
MEASURE or CALIBRATE names a buffer outside 2000h..FFFFh, or MEASURE or CALIBRATE one of under 256 bytes (BAD_BUFFER). A
refusal is a short order, its result fields 0, for a HOME the axes too (logs 8 and 57, the model's choice). An order arrives only
with a slot read (log 1). -/
def Obligations.ChecksAtTaking : Prop :=
  ∀ (k : OrderKind) (kind : Byte) (img : SlotImage) (n : SlotNo) (s : State),
    (s.reading n →
      exec (.badKind kind img) s = .next (s.answered n kind.toNat img .badKind [] []) ∧
      (img.flags ≠ 0 → exec (orderCommand k img) s = .next (s.answered n k.code img .badParam [] [])) ∧
      (img.flags = 0 → s.order.service = .service →
        k = .setCell ∨ k = .setRight ∨ k = .setLimits ∨ k = .startService →
        exec (orderCommand k img) s = .next (s.answered n k.code img .wrongState [] [])) ∧
      (img.flags = 0 → s.order.service = .setup →
        k = .stopService ∨ k = .measure ∨ k = .stow ∨ k = .issue ∨ k = .returnTool ∨ k = .cancel ∨ k = .restoreCell →
        exec (orderCommand k img) s = .next (s.answered n k.code img .wrongState [] [])) ∧
      (img.flags = 0 → k = .find ∨ k = .scan ∨ k = .calibrate ∨ (k = .measure ∧ s.order.service = .service) →
        img.bufOffset.toNat < 0x2000 ∨ 0x10000 < img.bufOffset.toNat + img.bufLength.toNat ∨
          ((k = .measure ∨ k = .calibrate) ∧ img.bufLength.toNat < 256) →
        exec (orderCommand k img) s = .next (s.answered n k.code img .badBuffer [] []))) ∧
    ((∀ m, s.order.series ≠ some (.slotRead m)) →
      exec (orderCommand k img) s = .next s ∧ exec (.badKind kind img) s = .next s)

/-! ## Orders that configure the part (R30 to R32, R47, R102, R111, R119, R123, R186 to R189) -/

/-- SET_CELL stores enabled, magazine size and open-issue limit (0 for 4) of a cell; the result carries the configuration before and
after. A cell outside 1..24, an enabled byte over 1, a size outside 1..240 or a limit over 8 is refused with BAD_PARAM;
that an enabled byte over 1 is refused is the model's choice (log 12). -/
def Obligations.SetCell : Prop :=
  ∀ (img : SlotImage) (n : SlotNo) (s : State), s.accepts .setCell img n →
    (∀ c : CellNo, par1 img 0 = c.val + 1 → par1 img 1 ≤ 1 → 1 ≤ par1 img 2 → par1 img 2 ≤ 240 → par1 img 3 ≤ 8 →
      exec (.setCell img) s =
        .next (State.answered n 0x01 img .ok
          (flag (s.cell c).enabled ++ le 1 (s.cell c).magSize ++ le 1 (s.cell c).issueLimit ++
            (le 1 (par1 img 1) ++ le 1 (par1 img 2) ++ le 1 (if par1 img 3 = 0 then 4 else par1 img 3))) []
          (s.modCell c fun x =>
            { x with
              enabled := par1 img 1 == 1, magSize := par1 img 2
              issueLimit := if par1 img 3 = 0 then 4 else par1 img 3 }))) ∧
    (par1 img 0 = 0 ∨ 24 < par1 img 0 ∨ 1 < par1 img 1 ∨ par1 img 2 = 0 ∨ 240 < par1 img 2 ∨ 8 < par1 img 3 →
      exec (.setCell img) s = .next (s.answered n 0x01 img .badParam [] []))

/-- SET_RIGHT stores one entry of the rights table while the layout lock is clear, and carries the former entry; under the lock it
is refused with LAYOUT_LOCKED, and an entry over 15, a cell set with a bit over 23 or a permission set with a bit over 2 with
BAD_PARAM first. That any enabled byte but 0 is yes is the model's choice (log 12). -/
def Obligations.SetRight : Prop :=
  ∀ (img : SlotImage) (n : SlotNo) (s : State), s.accepts .setRight img n →
    (∀ i : Fin 16, par1 img 0 = i.val → par4 img 2 < 0x1000000 → par1 img 8 < 8 →
      (s.crib.layoutLock = false → exec (.setRight img) s =
        .next (State.answered n 0x02 img .ok (s.link.rights.get i).bytes []
          { s with
            link :=
              { s.link with
                rights := s.link.rights.set i.1
                  { enabled := par1 img 1 != 0, cells := BitVec.ofNat 24 (par4 img 2)
                    value := BitVec.ofNat 8 (par1 img 6), mask := BitVec.ofNat 8 (par1 img 7)
                    perms := { byNumber := (par1 img 8).testBit 0, byClass := (par1 img 8).testBit 1
                               returnTool := (par1 img 8).testBit 2 } } i.2 } })) ∧
      (s.crib.layoutLock = true →
        exec (.setRight img) s = .next (s.answered n 0x02 img .layoutLocked [] []))) ∧
    (15 < par1 img 0 ∨ 0x1000000 ≤ par4 img 2 ∨ 8 ≤ par1 img 8 →
      exec (.setRight img) s = .next (s.answered n 0x02 img .badParam [] []))

/-- SET_DRAWER gives a drawer its attribute at once. Under the layout lock a change other than a narrowing (none, from OPEN, or to
CLOSED) is refused with LAYOUT_LOCKED. Otherwise the order completes OK, and its result carries the drawer, both attributes and
how many queued requests were ended: those of the drawer that the new attribute does not permit, each gone from the list with its
pocket's claim and handed to its owner as DRAWER_CLOSED, oldest first. Where it shuts none out nothing else changes; where it
shuts out the one of a STOW, both results are formed in this step. The owners: STOW, REMOVE, a MEASURE in FETCHING and a RETURN
with no withdraw PENDING end DRAWER_CLOSED; a MEASURE in STORING ends OK; an issue withdraws with DRAWER_CLOSED. -/
def Obligations.SetDrawer : Prop :=
  ∀ (img : SlotImage) (n : SlotNo) (s : State), s.accepts .setDrawer img n →
    (∀ (d : Fin 16) (a : Attribute), par1 img 0 = d.val → par1 img 1 = a.code →
      (s.crib.layoutLock = true → a ≠ s.crib.drawers.get d → s.crib.drawers.get d ≠ .openAll → a ≠ .closed →
        exec (.setDrawer img) s = .next (s.answered n 0x03 img .layoutLocked [] [])) ∧
      (s.crib.layoutLock = false ∨ a = s.crib.drawers.get d ∨ s.crib.drawers.get d = .openAll ∨ a = .closed →
        ((∀ r ∈ s.crib.requests, r.state = .queued → r.pocket.val / 32 = d.val → a.permits r.movement = true) →
          exec (.setDrawer img) s =
            .next (State.answered n 0x03 img .ok
              (le 1 d.val ++ le 1 (s.crib.drawers.get d).code ++ le 1 a.code ++ le 1 0) []
              { s with crib := { s.crib with drawers := s.crib.drawers.set d.1 a d.2 } })) ∧
        (∀ shut, shut = s.crib.requests.filter (fun r =>
            decide (r.state = .queued) && decide (r.pocket.val / 32 = d.val) && !a.permits r.movement) →
          exec (.setDrawer img) s = .next (State.settle (State.complete n .ok
            (le 1 d.val ++ le 1 (s.crib.drawers.get d).code ++ le 1 a.code ++ le 1 shut.length)
            (shut.foldl (fun u r => (u.endRequest r).deliverMove r.owner .drawerClosed)
              { s.taken n 0x03 img with crib := { s.crib with drawers := s.crib.drawers.set d.1 a d.2 } }))) ∧
          ∀ r m w, shut = [r] → r.owner = .slot m → m ≠ n → s.working m (.stow w) →
            ∃ t, exec (.setDrawer img) s = .next t ∧ t.formedStatus m = some .drawerClosed ∧
              (t.slot n).context.bind (·.output) = some
                { status := .ok, stamp := s.clock
                  result := le 1 d.val ++ le 1 (s.crib.drawers.get d).code ++ le 1 a.code ++ le 1 1, buffer := [] } ∧
              t.order.writeOrder = s.order.writeOrder ++ if m < n then [m, n] else [n, m]) ∧
        ((s.crib.requests.map (·.number)).Nodup → ∃ t, exec (.setDrawer img) s = .next t ∧
          (∀ e : Fin 16, t.crib.drawers.get e = if e = d then a else s.crib.drawers.get e) ∧
          t.crib.requests = s.crib.requests.filter (fun r =>
            !(decide (r.state = .queued) && decide (r.pocket.val / 32 = d.val) && !a.permits r.movement)) ∧
          (∀ r ∈ s.crib.requests, r.state = .queued → r.pocket.val / 32 = d.val → a.permits r.movement = false →
            (t.pocket r.pocket).claim = none) ∧
          t.order.portPart = { s.order with series := none }.portPart ∧ t.presetter.stationPart = s.presetter.stationPart ∧
          t.board = s.board))) ∧
    (15 < par1 img 0 ∨ 3 < par1 img 1 → exec (.setDrawer img) s = .next (s.answered n 0x03 img .badParam [] [])) ∧
    ∀ u : State,
      (∀ m c, (u.slot m).context = some c → c.output = none → ∀ t, t = u.deliverMove (.slot m) .drawerClosed →
        ((∃ w, c.work = .stow w) ∨ (∃ tool num, c.work = .remove tool num) → t.formedStatus m = some .drawerClosed) ∧
        (∀ x, c.work = .measure x → x.pendingStatus = none →
          (x.phase = .fetching → t.formedStatus m = some .drawerClosed) ∧
          (x.phase = .storing → t.formedStatus m = some .ok)) ∧
        (∀ r, c.work = .returning r → r.withdraw ≠ .pending → t.formedStatus m = some .drawerClosed)) ∧
      (∀ id i x, u.openIndex id = some i → (u.issueRec i).issue = some x → (u.cell x.cell).queue.length < 16 →
        (u.cell x.cell).standing ≠ .cutOff → u.deliverMove (.issue id) .drawerClosed =
          ((u.modIssue i fun x =>
            { x with
              phase := .withdrawing, request := none
              failure := some (x.failure.getD .drawerClosed) }).queueExchange x.cell
            (.withdraw id x.tool x.slot) (.issue id)).1)

/-- SET_LIMITS carries a 4-byte presence mask (log 7) and a field for each of nineteen limits, in the order of R188. A present
value outside its range is refused with BAD_PARAM, then a present lock budget under the layout lock with LAYOUT_LOCKED, and a
refusal leaves every limit as it was. Otherwise every present value is stored and every other kept, and the result carries all
nineteen. A budget that rises starts queued requests; an order that carries the broadcast interval restarts the broadcast timer
with it while the Report Writer is not STALLED, and another leaves that timer alone (the model's reading, log 39). -/
def Obligations.SetLimits : Prop :=
  ∀ (img : SlotImage) (n : SlotNo) (s : State), s.accepts .setLimits img n →
    ∀ (present : Nat → Bool) (pick : Nat → Nat → Nat → Nat) (l : Limits),
    (∀ bit, present bit = (par4 img 0).testBit bit) → (∀ bit v old, pick bit v old = if present bit then v else old) →
    l =
      { lockBudget := pick 0 (par1 img 4) s.crib.lockBudget, pickupWindow := pick 1 (par1 img 5) s.crib.pickupWindow
        insertWindow := pick 2 (par1 img 6) s.crib.insertWindow
        spreadLimit := pick 3 (par1 img 7) s.presetter.spreadLimit
        touches := pick 4 (par1 img 8) s.presetter.touches, seatWindow := pick 5 (par2 img 9) s.presetter.seatWindow
        touchWindow := pick 6 (par2 img 11) s.presetter.touchWindow
        homeWindow := pick 7 (par2 img 13) s.presetter.homeWindow
        zSoft := pick 8 (par4 img 15) s.presetter.z.softLimit, xSoft := pick 9 (par4 img 19) s.presetter.x.softLimit
        masterLength := pick 10 (par4 img 23) s.presetter.masterLength
        masterRadius := pick 11 (par4 img 27) s.presetter.masterRadius
        answerWindow := pick 12 (par2 img 31) s.link.answerWindow, retryLimit := pick 13 (par1 img 33) s.link.retryLimit
        deferralDelay := pick 14 (par2 img 34) s.link.deferralDelay
        broadcastInterval := pick 15 (par2 img 36) s.link.broadcastInterval
        pollInterval := pick 16 (par2 img 38) s.link.pollInterval, holdTime := pick 17 (par2 img 40) s.link.holdTime
        transitWindow := pick 18 (par1 img 42) s.issues.transitWindow } →
    ∀ (good : Prop) (bytes : List Byte) (u : State),
    (good ↔
      (present 0 → 1 ≤ l.lockBudget ∧ l.lockBudget ≤ 8) ∧ (present 1 → 5 ≤ l.pickupWindow ∧ l.pickupWindow ≤ 255) ∧
      (present 2 → 5 ≤ l.insertWindow ∧ l.insertWindow ≤ 255) ∧ (present 3 → l.spreadLimit ≤ 255) ∧
      (present 4 → 1 ≤ l.touches ∧ l.touches ≤ 8) ∧ (present 5 → 10 ≤ l.seatWindow ∧ l.seatWindow ≤ 600) ∧
      (present 6 → 5 ≤ l.touchWindow ∧ l.touchWindow ≤ 600) ∧ (present 7 → 10 ≤ l.homeWindow ∧ l.homeWindow ≤ 600) ∧
      (present 8 → l.zSoft ≤ 1048575) ∧ (present 9 → l.xSoft ≤ 1048575) ∧ (present 10 → l.masterLength ≤ 999999) ∧
      (present 11 → l.masterRadius ≤ 999999) ∧ (present 12 → 20 ≤ l.answerWindow ∧ l.answerWindow ≤ 1000) ∧
      (present 13 → l.retryLimit ≤ 15) ∧ (present 14 → 100 ≤ l.deferralDelay ∧ l.deferralDelay ≤ 10000) ∧
      (present 15 → l.broadcastInterval = 0 ∨ (200 ≤ l.broadcastInterval ∧ l.broadcastInterval ≤ 10000)) ∧
      (present 16 → l.pollInterval = 0 ∨ (100 ≤ l.pollInterval ∧ l.pollInterval ≤ 10000)) ∧
      (present 17 → 100 ≤ l.holdTime ∧ l.holdTime ≤ 10000) ∧
      (present 18 → 1 ≤ l.transitWindow ∧ l.transitWindow ≤ 60)) →
    (bytes = le 1 l.lockBudget ++ le 1 l.pickupWindow ++ le 1 l.insertWindow ++ le 1 l.spreadLimit ++ le 1 l.touches ++
      le 2 l.seatWindow ++ le 2 l.touchWindow ++ le 2 l.homeWindow ++ le 4 l.zSoft ++ le 4 l.xSoft ++
      le 4 l.masterLength ++ le 4 l.masterRadius ++ le 2 l.answerWindow ++ le 1 l.retryLimit ++
      le 2 l.deferralDelay ++ le 2 l.broadcastInterval ++ le 2 l.pollInterval ++ le 2 l.holdTime ++
      le 1 l.transitWindow) →
    u =
      { s with
        crib :=
          { s.crib with lockBudget := l.lockBudget, pickupWindow := l.pickupWindow, insertWindow := l.insertWindow }
        presetter :=
          { s.presetter with
            spreadLimit := l.spreadLimit, touches := l.touches, seatWindow := l.seatWindow
            touchWindow := l.touchWindow, homeWindow := l.homeWindow
            z := { s.presetter.z with softLimit := l.zSoft }, x := { s.presetter.x with softLimit := l.xSoft }
            masterLength := l.masterLength, masterRadius := l.masterRadius }
        link :=
          { s.link with
            answerWindow := l.answerWindow, retryLimit := l.retryLimit, deferralDelay := l.deferralDelay
            broadcastInterval := l.broadcastInterval, pollInterval := l.pollInterval, holdTime := l.holdTime
            broadcastTimer := if present 15 = true ∧ s.reports.stalled = false then
                (if l.broadcastInterval = 0 then none else some l.broadcastInterval)
              else s.link.broadcastTimer }
        issues := { s.issues with transitWindow := l.transitWindow } } →
    (¬ good → exec (.setLimits img) s = .next (s.answered n 0x04 img .badParam [] [])) ∧
    (good → present 0 = true → s.crib.layoutLock = true →
      exec (.setLimits img) s = .next (s.answered n 0x04 img .layoutLocked [] [])) ∧
    (good → present 0 = false ∨ s.crib.layoutLock = false → exec (.setLimits img) s =
      .next (State.answered n 0x04 img .ok bytes []
        (if s.crib.lockBudget < l.lockBudget then u.startQueued else u)))

/-- LOCK_LAYOUT sets the layout lock, and its result tells whether it was set. START_SERVICE is refused with MAP_MISMATCH and
the lowest pocket whose sensor disagrees with its content, else with FAULT_PRESENT and the lowest pocket away from LOCKED or
with a fault; with neither the service state is SERVICE, the poll timer runs, a CRIB_STATE stands in buffer 0, or behind the
one of buffer 0 that is on the line, and the broadcast timer, or in the stall the hold timer, starts anew; nothing else
changes. STOP_SERVICE is refused with BUSY and the first obstacle: the lowest open issue; the lowest pocket away from LOCKED;
the oldest request; the lowest slot with a long order; that the lowest issue, the oldest request and the lowest slot are the
ones named is the model's reading (log 33), and so are results without a presence mask (log 52). With none the service state
is SETUP, no POLL is left in any queue and the poll timer stands; other exchanges go on. -/
def Obligations.LayoutLockAndServiceState : Prop :=
  ∀ (img : SlotImage) (n : SlotNo) (s : State),
    (s.accepts .lockLayout img n → exec (.lockLayout img) s =
      .next (State.answered n 0x05 img .ok (flag s.crib.layoutLock) []
        { s with crib := { s.crib with layoutLock := true } })) ∧
    (s.accepts .startService img n →
      (∀ p, (s.pocket p).mismatch = true → (∀ q < p, (s.pocket q).mismatch = false) →
        exec (.startService img) s = .next (s.answered n 0x06 img .mapMismatch (le 2 p.val) [])) ∧
      (∀ p, (∀ q, (s.pocket q).mismatch = false) → (s.pocket p).lock ≠ .locked ∨ (s.pocket p).fault ≠ .clear →
        (∀ q < p, (s.pocket q).lock = .locked ∧ (s.pocket q).fault = .clear) →
        exec (.startService img) s = .next (s.answered n 0x06 img .faultPresent (le 2 p.val) [])) ∧
      ((∀ q, (s.pocket q).mismatch = false) → (∀ q, (s.pocket q).lock = .locked ∧ (s.pocket q).fault = .clear) →
        ∀ (cs : CribState) (placed : Link),
        cs = { service := .service, hold := if s.reports.stalled then s.link.holdTime else 0 } →
        ((∀ a, s.link.attempt = some a → a.buffer ≠ 0) → placed = { s.link with buffer0 := some cs }) →
        (∀ a, s.link.attempt = some a → a.buffer = 0 → placed = { s.link with next0 := some cs }) →
        exec (.startService img) s = .next (State.answered n 0x06 img .ok [] []
          { s with
            order := { s.order with service := .service }
            link := { placed with
              broadcastTimer := if s.reports.stalled ∨ s.link.broadcastInterval = 0 then none
                else some s.link.broadcastInterval
              holdTimer := if s.reports.stalled = true ∧ s.link.holdTime ≠ 0 then some s.link.holdTime else none
              pollTimer := if s.link.pollInterval = 0 then none else some s.link.pollInterval } }))) ∧
    (s.accepts .stopService img n →
      (∀ i x more, s.openIssues = (i, x) :: more →
        exec (.stopService img) s = .next (s.answered n 0x07 img .busy (le 1 0 ++ le 2 (s.issueId i)) [])) ∧
      (∀ p, s.openIssues = [] → (s.pocket p).lock ≠ .locked → (∀ q < p, (s.pocket q).lock = .locked) →
        exec (.stopService img) s = .next (s.answered n 0x07 img .busy (le 1 1 ++ le 2 p.val) [])) ∧
      (s.openIssues = [] → (∀ q, (s.pocket q).lock = .locked) →
        (∀ r more, s.crib.requests = r :: more →
          exec (.stopService img) s = .next (s.answered n 0x07 img .busy (le 1 1 ++ le 2 r.number) [])) ∧
        (∀ m, s.crib.requests = [] → m ≠ n → (∃ c, (s.slot m).context = some c ∧ c.long = true) →
          (∀ k < m, k ≠ n → ∀ c, (s.slot k).context = some c → c.long = false) →
          exec (.stopService img) s = .next (s.answered n 0x07 img .busy (le 1 2 ++ le 2 m.val) [])) ∧
        (s.crib.requests = [] → (∀ m, m ≠ n → ∀ c, (s.slot m).context = some c → c.long = false) →
          ∃ t, exec (.stopService img) s = .next t ∧ t.order.service = .setup ∧ t.link.pollTimer = none ∧
            (∀ c, ∀ e ∈ (t.cell c).queue, e.payload ≠ .poll) ∧
            (∀ c, (t.cell c).queue.length = ((s.cell c).queue.filter fun e => e.payload != .poll).length) ∧
            t = State.answered n 0x07 img .ok [] []
              { s with order := { s.order with service := .setup }, link := t.link })))

/-- RESTORE_CELL returns a WEAK or CUT_OFF cell to GOOD with fault count and answers 0, hands over CELL_STANDING with cause RESTORE,
and carries the former standing and count. A GOOD cell is refused with WRONG_STATE, a cell outside 1..24 with BAD_PARAM. -/
def Obligations.RestoreCell : Prop :=
  ∀ (img : SlotImage) (n : SlotNo) (s : State), s.accepts .restoreCell img n →
    (∀ c : CellNo, par1 img 0 = c.val + 1 →
      ((s.cell c).standing ≠ .good → exec (.restoreCell img) s =
        .next (State.answered n 0x17 img .ok (le 1 (s.cell c).standing.code ++ le 2 (s.cell c).faultCount) []
          ((s.modCell c fun x => { x with standing := .good, faultCount := 0, answers := 0 }).handReport
            { Report.blank .cellStanding with
              cell := c.val + 1, code := 0x04
              detail := .plain (le 1 (s.cell c).standing.code ++ le 1 0 ++ le 2 0 ++ le 1 0) }))) ∧
      ((s.cell c).standing = .good →
        exec (.restoreCell img) s = .next (s.answered n 0x17 img .wrongState [] []))) ∧
    (par1 img 0 = 0 ∨ 24 < par1 img 0 → exec (.restoreCell img) s = .next (s.answered n 0x17 img .badParam [] []))

/-! ## Tool records (R2, R3, R10 to R20) -/

/-- ENROL, by its parameters in the order of R10 behind a presence mask for home pocket and geometry (log 7): BAD_PARAM where one is
out of its range, the first row of R11; then the first check of R11 that fails; each changes no state but its slot's. An accepted
one puts the record with its derived fields into the table; at POCKET p the pocket's content is the tool, its stamp the clock, its
fault cleared when it was UNKNOWN_ITEM with the item sensed; nothing else changes, no report and no exchange. -/
def Obligations.Enrol : Prop :=
  ∀ (img : SlotImage) (n : SlotNo) (s : State), s.accepts .enrol img n →
    ∀ (place : Location → Prop) (good : Prop),
    (∀ loc, place loc ↔
      (par1 img 4 = 0 ∧ ∃ p : PocketNo, par2 img 5 = p.val ∧ loc = .pocket p) ∨
      (par1 img 4 = 1 ∧ ∃ c : CellNo, par1 img 5 = c.val + 1 ∧ 1 ≤ par1 img 6 ∧ par1 img 6 ≤ 240 ∧
        loc = .cell c (par1 img 6)) ∨
      (par1 img 4 = 2 ∧ loc = .presetter) ∨ (par1 img 4 = 3 ∧ loc = .loose)) →
    (good ↔ par2 img 1 ≠ 0 ∧ (∃ loc, place loc) ∧ ((par1 img 0).testBit 0 = true → par2 img 7 ≤ 511) ∧
      par4 img 9 ≤ 999999 ∧ par4 img 13 ≤ 999999 ∧
      ((par1 img 0).testBit 1 = true → -2097152 ≤ parInt img 21 ∧ parInt img 21 ≤ 2097151 ∧
        -2097152 ≤ parInt img 25 ∧ parInt img 25 ≤ 2097151) ∧
      par1 img 29 ≤ 1 ∧ 1 ≤ par2 img 30 ∧ (par1 img 32 = 0 ∨ (50 ≤ par1 img 32 ∧ par1 img 32 ≤ 99)) ∧
      par1 img 35 ≤ par1 img 36 ∧ par1 img 36 ≤ 15) →
    (¬ good → exec (.enrol img) s = .next (s.answered n 0x08 img .badParam [] [])) ∧
    (∀ (loc : Location) (unit : LifeUnit) (home : Option PocketNo) (x : Tool), good → place loc →
      LifeUnit.code unit = par1 img 29 →
      (home.map (·.val) = if (par1 img 0).testBit 0 then some (par2 img 7) else none) →
      x =
        { number := par2 img 1, cls := par1 img 3, state := .unmeasured, stateBefore := none, claim := none
          location := loc, last := none, home := home, nominalLength := par4 img 9, nominalRadius := par4 img 13
          lengthTol := par2 img 17, radiusTol := par2 img 19
          geometry := if (par1 img 0).testBit 1 then
              some { length := parInt img 21, radius := parInt img 25, stamp := s.clock, generation := 0 }
            else none
          outOfTol := false, lifeUnit := unit, lifeLimit := par2 img 30, lifeUsed := par2 img 33
          warnPercent := if par1 img 32 = 0 then 90 else par1 img 32, warningSent := false, lifeEnded := false
          regrinds := par1 img 35, regrindMax := par1 img 36, issueCount := par2 img 37 } →
      (∀ st, s.enrolCheck x = some st → exec (.enrol img) s = .next (s.answered n 0x08 img st [] [])) ∧
      (s.enrolCheck x = none →
        (∀ p, loc = .pocket p → exec (.enrol img) s =
          .next (State.answered n 0x08 img .ok (le 2 x.number ++ le 1 x.enrolled.state.code) []
            (State.modPocket p
              (fun k => { k with
                content := some x.number, stamp := s.clock
                fault := if k.fault = .unknownItem ∧ k.sensor = .present then .clear else k.fault })
              { s with tools := putTool x.enrolled s.tools }))) ∧
        ((∀ p, loc ≠ .pocket p) → exec (.enrol img) s =
          .next (State.answered n 0x08 img .ok (le 2 x.number ++ le 1 x.enrolled.state.code) []
            { s with tools := putTool x.enrolled s.tools }))))

/-- The checks of an ENROL on the table and the place, in their order: a POCKET or CELL while in SERVICE; a record of that number;
1024 records; a pocket with content or claim; a cell and slot that an OUT or ASTRAY record names, a claimed record read by its
state before claim (the model's reading, log 42); a busy station; a tool at PRESETTER already. And the derived fields of the record: the flags by life used, the out-of-tolerance flag, the state, the
home pocket and the last cell and slot by the place. -/
def Obligations.EnrolChecksAndDerivedState : Prop :=
  (∀ (x : Tool) (s : State),
    ((∃ p, x.location = .pocket p) ∨ (∃ c m, x.location = .cell c m) → s.order.service = .service →
      s.enrolCheck x = some .wrongState) ∧
    ((∀ p, x.location ≠ .pocket p) ∧ (∀ c m, x.location ≠ .cell c m) ∨ s.order.service = .setup →
      ((s.findTool x.number).isSome = true → s.enrolCheck x = some .toolExists) ∧
      (s.findTool x.number = none →
        (1024 ≤ s.tools.length → s.enrolCheck x = some .tableFull) ∧
        (s.tools.length < 1024 →
          (∀ p, x.location = .pocket p → s.enrolCheck x =
            if (s.pocket p).content.isSome ∨ (s.pocket p).claim.isSome then some .pocketTaken else none) ∧
          (∀ c m, x.location = .cell c m → s.enrolCheck x =
            if ∃ y ∈ s.tools, y.occupies c m = true then some .slotOccupied else none) ∧
          (x.location = .presetter → s.enrolCheck x =
            if s.presetter.cycle.isSome then some .stationBusy
            else if ∃ y ∈ s.tools, y.location = .presetter then some .stationOccupied else none) ∧
          (x.location = .loose → s.enrolCheck x = none))))) ∧
  ∀ x : Tool,
    x.enrolled.warningSent = decide (max 1 (x.lifeLimit * x.warnPercent / 100) ≤ x.lifeUsed) ∧
    x.enrolled.lifeEnded = decide (x.lifeLimit ≤ x.lifeUsed) ∧
    x.enrolled.outOfTol = (x.geometry.isSome && !x.inTolerance) ∧
    (∀ c m, x.location = .cell c m → x.enrolled.state = .out ∧ x.enrolled.last = some (c, m) ∧
      x.enrolled.home = x.home) ∧
    ((∀ c m, x.location ≠ .cell c m) → x.enrolled.last = none ∧
      (x.lifeLimit ≤ x.lifeUsed → x.enrolled.state = .worn) ∧
      (x.lifeUsed < x.lifeLimit →
        (x.geometry = none → x.enrolled.state = .unmeasured) ∧
        (x.geometry.isSome = true →
          (x.inTolerance = false → x.enrolled.state = .quarantine) ∧
          (x.inTolerance = true → ∀ p, x.location = .pocket p → x.enrolled.state = .ready) ∧
          (x.inTolerance = true → (∀ p, x.location ≠ .pocket p) → x.enrolled.state = .passed)))) ∧
    (∀ p, x.location = .pocket p → x.enrolled.home = some (x.home.getD p))

/-- A claim copies the state of a record and makes it CLAIMED. A release clears the claim and gives the record the state and location
that its owner names, but for two cases. For an owner that is no RETURN, a record whose state before claim is ASTRAY is ASTRAY at
LOOSE (that the content of a pocket it was just sensed in goes too is the model's choice, log 46). A record named READY that does not meet the conditions of READY is
WORN with its life ended, UNMEASURED without geometry, QUARANTINE and out of tolerance with sizes out of tolerance, and PASSED
otherwise, out of a pocket. REMOVE of an unclaimed tool deletes its record and answers its number and state; of a tool in a pocket in SETUP it clears
the pocket's content and stamps it; in SERVICE it is refused with NOT_STOCKED or DRAWER_DENIES, or takes the tool's claim and
makes a REMOVE_OUT request; refused with BUSY while another request claims the pocket, or with CRIB_BUSY, the claim is
released with the state before claim and the order completes with that status. Number 0, an
unknown and a claimed tool are refused with BAD_PARAM, UNKNOWN_TOOL and BUSY. -/
def Obligations.Remove : Prop :=
  (∀ (x : Tool) (owner : Owner),
    x.take owner = { x with state := .claimed, stateBefore := some x.state, claim := some owner }) ∧
  (∀ (isReturn : Bool) (named : ToolState) (loc : Location) (x y : Tool) (inTolerance : Prop),
    y = { x with claim := none, stateBefore := none, location := loc } →
    (inTolerance ↔ ∃ g, x.geometry = some g ∧ (g.length - x.nominalLength).natAbs ≤ x.lengthTol ∧
      (g.radius - x.nominalRadius).natAbs ≤ x.radiusTol) →
    (isReturn = false → x.stateBefore = some .astray →
      x.release isReturn named loc = { y with state := .astray, location := .loose }) ∧
    (isReturn = true ∨ x.stateBefore ≠ some .astray →
      (named ≠ .ready → x.release isReturn named loc = { y with state := named }) ∧
      (named = .ready →
        (x.lifeLimit ≤ x.lifeUsed → x.release isReturn named loc = { y with state := .worn }) ∧
        (x.lifeUsed < x.lifeLimit →
          (x.geometry = none → x.release isReturn named loc = { y with state := .unmeasured }) ∧
          (x.geometry.isSome = true → ¬ inTolerance →
            x.release isReturn named loc = { y with state := .quarantine, outOfTol := true }) ∧
          (inTolerance →
            (∀ p, loc = .pocket p → x.release isReturn named loc = { y with state := .ready }) ∧
            ((∀ p, loc ≠ .pocket p) → x.release isReturn named loc = { y with state := .passed })))))) ∧
  ∀ (img : SlotImage) (n : SlotNo) (s : State), s.accepts .remove img n →
    (par2 img 0 = 0 → exec (.remove img) s = .next (s.answered n 0x09 img .badParam [] [])) ∧
    (par2 img 0 ≠ 0 → s.findTool (par2 img 0) = none →
      exec (.remove img) s = .next (s.answered n 0x09 img .unknownTool [] [])) ∧
    (∀ x, par2 img 0 ≠ 0 → s.findTool (par2 img 0) = some x →
      (x.state = .claimed → exec (.remove img) s = .next (s.answered n 0x09 img .busy [] [])) ∧
      (x.state ≠ .claimed →
        ((∀ p, x.location ≠ .pocket p) → exec (.remove img) s =
          .next (State.answered n 0x09 img .ok (le 2 (par2 img 0) ++ le 1 x.state.code) []
            { s with tools := s.tools.filter fun y => y.number != par2 img 0 })) ∧
        (∀ p, x.location = .pocket p →
          (s.order.service = .setup → exec (.remove img) s =
            .next (State.answered n 0x09 img .ok (le 2 (par2 img 0) ++ le 1 x.state.code) []
              (State.modPocket p (fun k => { k with content := none, stamp := s.clock })
                { s with tools := s.tools.filter fun y => y.number != par2 img 0 }))) ∧
          (s.order.service = .service →
            ((s.pocket p).stocked = false →
              exec (.remove img) s = .next (s.answered n 0x09 img .notStocked [] [])) ∧
            ((s.pocket p).stocked = true → s.attributeOf p = .closed →
              exec (.remove img) s = .next (s.answered n 0x09 img .drawerDenies [] [])) ∧
            ((s.pocket p).stocked = true → s.attributeOf p ≠ .closed →
              (∀ u num, (s.claimTool (par2 img 0) (.slot n)).requestRemoval .removeOut p (.slot n) =
                  (u, .made num p) →
                exec (.remove img) s = .next (u.started n 0x09 img (.remove (par2 img 0) num))) ∧
              (∀ st,
                (st = .busy ∧ (s.pocket p).claim.isSome = true) ∨
                  (st = .cribBusy ∧ (s.pocket p).claim = none ∧ s.crib.lockBudget ≤ s.budgetCount ∧
                    16 ≤ s.queuedCount) →
                ∃ t, exec (.remove img) s = .next (State.answered n 0x09 img st [] [] t) ∧
                  t = { s with tools := t.tools } ∧ (∀ m, m ≠ par2 img 0 → t.findTool m = s.findTool m) ∧
                  t.findTool (par2 img 0) = some ((x.take (.slot n)).release false x.state x.location) ∧
                  (x.state ≠ .astray → (x.state = .ready → x.meetsReady = true) →
                    t.findTool (par2 img 0) = some { x with claim := none, stateBefore := none })))))))

/-- READ_TOOL answers the record as it stands, 56 bytes in the model's layout (log 11), each field at its offset as
the statement lists them, and changes nothing; number 0 is refused with
BAD_PARAM, an unknown number with UNKNOWN_TOOL. FIND writes the numbers that match, ascending as the table lists them, as many as
the buffer holds at two bytes each, and answers their count, the last of them and whether more match. That any byte but 0 of the
any-class flag is yes, and that only the nine low bits of the state set count, is the model's choice (log 12). -/
def Obligations.ReadToolAndFind : Prop :=
  ∀ (img : SlotImage) (n : SlotNo) (s : State),
    (s.accepts .readTool img n →
      (par2 img 0 = 0 → exec (.readTool img) s = .next (s.answered n 0x0A img .badParam [] [])) ∧
      (par2 img 0 ≠ 0 → s.findTool (par2 img 0) = none →
        exec (.readTool img) s = .next (s.answered n 0x0A img .unknownTool [] [])) ∧
      (∀ x, par2 img 0 ≠ 0 → s.findTool (par2 img 0) = some x →
        exec (.readTool img) s = .next (s.answered n 0x0A img .ok x.bytes []) ∧ x.bytes.length = 56 ∧
        ∀ holds : Nat → List Byte → Prop,
        (∀ offset bytes, holds offset bytes ↔ (x.bytes.drop offset).take bytes.length = bytes) →
        holds 0 (le 1 (presence
          [x.stateBefore.isSome, x.claim.isSome, x.last.isSome, x.home.isSome, x.geometry.isSome])) ∧
        holds 1 (le 2 x.number) ∧ holds 3 (le 1 x.cls) ∧ holds 4 (le 1 x.state.code) ∧
        holds 5 (match x.stateBefore with | some st => le 1 (ToolState.code st) | none => le 1 0) ∧
        holds 6 (match x.claim with
          | some (.issue id) => le 1 0 ++ le 1 id | some (.slot k) => le 1 1 ++ le 1 k.val | none => le 2 0) ∧
        holds 8 (match x.location with
          | .pocket p => le 1 0 ++ le 2 p.val | .cell c m => le 1 1 ++ le 1 (c.val + 1) ++ le 1 m
          | .presetter => le 1 2 ++ le 2 0 | .loose => le 1 3 ++ le 2 0) ∧
        holds 11 (match x.last with | some (c, m) => le 1 (c.val + 1) ++ le 1 m | none => le 2 0) ∧
        holds 13 (match x.home with | some p => le 2 p.val | none => le 2 0) ∧
        holds 15 (le 4 x.nominalLength) ∧ holds 19 (le 4 x.nominalRadius) ∧ holds 23 (le 2 x.lengthTol) ∧
        holds 25 (le 2 x.radiusTol) ∧
        holds 27 (match x.geometry with
          | some g => le 4 (BitVec.ofInt 32 g.length).toNat ++ le 4 (BitVec.ofInt 32 g.radius).toNat ++
              le 4 g.stamp.toNat ++ le 2 g.generation
          | none => List.replicate 14 0) ∧
        holds 41 (le 1 x.outOfTol.toNat) ∧ holds 42 (le 1 x.lifeUnit.code) ∧ holds 43 (le 2 x.lifeLimit) ∧
        holds 45 (le 2 x.lifeUsed) ∧ holds 47 (le 1 x.warnPercent) ∧ holds 48 (le 1 x.warningSent.toNat) ∧
        holds 49 (le 1 x.lifeEnded.toNat) ∧ holds 50 (le 1 x.regrinds) ∧ holds 51 (le 1 x.regrindMax) ∧
        holds 52 (le 2 x.issueCount) ∧ holds 54 (le 2 (max 1 (x.lifeLimit * x.warnPercent / 100))))) ∧
    (s.accepts .find img n →
      (par2 img 0 = 0 ∨ par2 img 4 % 512 = 0 →
        exec (.find img) s = .next (s.answered n 0x0B img .badParam [] [])) ∧
      (∀ found, par2 img 0 ≠ 0 → par2 img 4 % 512 ≠ 0 →
        found = (s.tools.filter fun x => decide (par2 img 0 ≤ x.number) && (par2 img 4).testBit x.state.code &&
          (par1 img 3 != 0 || x.cls == par1 img 2)).map (·.number) →
        exec (.find img) s = .next (s.answered n 0x0B img .ok
          (le 2 (min (img.bufLength.toNat / 2) found.length) ++
            le 2 ((found.take (img.bufLength.toNat / 2)).getLast?.getD 0) ++
            flag (img.bufLength.toNat / 2 < found.length))
          ((found.take (img.bufLength.toNat / 2)).flatMap (le 2)))))

/-- SET_LIFE, taken in either service state, stores limit, unit and percent (0 for 90) of an unclaimed record that is not OUT,
RETURNING or ASTRAY, and keeps life used. On a READY, PASSED, QUARANTINE or UNMEASURED record both flags are set anew, and a
READY or PASSED record whose life has ended is WORN; a WORN record keeps flags and state. The premise says that no two records
have one number (R1). -/
def Obligations.SetLife : Prop :=
  ∀ (img : SlotImage) (n : SlotNo) (s : State), s.reading n → img.flags = 0 → (s.tools.map (·.number)).Nodup →
    (par2 img 0 = 0 ∨ par2 img 2 = 0 ∨ 1 < par1 img 4 ∨ (par1 img 5 ≠ 0 ∧ (par1 img 5 < 50 ∨ 99 < par1 img 5)) →
      exec (.setLife img) s = .next (s.answered n 0x0C img .badParam [] [])) ∧
    (∀ unit percent, par2 img 0 ≠ 0 → par2 img 2 ≠ 0 → (LifeUnit.code unit = par1 img 4) →
      (percent = if par1 img 5 = 0 then 90 else par1 img 5) → 50 ≤ percent → percent ≤ 99 →
      (s.findTool (par2 img 0) = none →
        exec (.setLife img) s = .next (s.answered n 0x0C img .unknownTool [] [])) ∧
      (∀ x, s.findTool (par2 img 0) = some x →
        (x.state = .claimed → exec (.setLife img) s = .next (s.answered n 0x0C img .busy [] [])) ∧
        (x.state = .out ∨ x.state = .returning ∨ x.state = .astray →
          exec (.setLife img) s = .next (s.answered n 0x0C img .wrongState [] [])) ∧
        (x.state = .worn → exec (.setLife img) s =
          .next (State.answered n 0x0C img .ok
            (le 2 (max 1 (par2 img 2 * percent / 100)) ++ le 2 x.lifeUsed ++ le 1 8) []
            (s.modTool (par2 img 0) fun y =>
              { y with lifeLimit := par2 img 2, lifeUnit := unit, warnPercent := percent }))) ∧
        (x.state = .ready ∨ x.state = .passed ∨ x.state = .quarantine ∨ x.state = .unmeasured →
          ∃ t st, exec (.setLife img) s =
              .next (State.answered n 0x0C img .ok
                (le 2 (max 1 (par2 img 2 * percent / 100)) ++ le 2 x.lifeUsed ++ le 1 (ToolState.code st)) [] t) ∧
            (st = if par2 img 2 ≤ x.lifeUsed ∧ (x.state = .ready ∨ x.state = .passed) then .worn else x.state) ∧
            t = { s with tools := t.tools } ∧
            t.findTool (par2 img 0) = some
              { x with
                lifeLimit := par2 img 2, lifeUnit := unit, warnPercent := percent
                warningSent := decide (max 1 (par2 img 2 * percent / 100) ≤ x.lifeUsed)
                lifeEnded := decide (par2 img 2 ≤ x.lifeUsed), state := st } ∧
            ∀ m, m ≠ par2 img 0 → t.findTool m = s.findTool m)))

/-- REGRIND, taken in either service state, of an unclaimed WORN record with regrinds left sets life used to 0, counts the regrind,
clears the three flags and the geometry, stores the nominal sizes given and makes the record UNMEASURED; everything else of the
record, and every other record, is kept. -/
def Obligations.Regrind : Prop :=
  ∀ (img : SlotImage) (n : SlotNo) (s : State), s.reading n → img.flags = 0 →
    (par2 img 1 = 0 ∨ ((par1 img 0).testBit 0 = true ∧ 999999 < par4 img 3) ∨
        ((par1 img 0).testBit 1 = true ∧ 999999 < par4 img 7) →
      exec (.regrind img) s = .next (s.answered n 0x0D img .badParam [] [])) ∧
    (par2 img 1 ≠ 0 → ((par1 img 0).testBit 0 = true → par4 img 3 ≤ 999999) →
      ((par1 img 0).testBit 1 = true → par4 img 7 ≤ 999999) →
      (s.findTool (par2 img 1) = none →
        exec (.regrind img) s = .next (s.answered n 0x0D img .unknownTool [] [])) ∧
      (∀ x, s.findTool (par2 img 1) = some x →
        (x.state = .claimed → exec (.regrind img) s = .next (s.answered n 0x0D img .busy [] [])) ∧
        (x.state ≠ .claimed → x.state ≠ .worn →
          exec (.regrind img) s = .next (s.answered n 0x0D img .wrongState [] [])) ∧
        (x.state = .worn → x.regrinds = x.regrindMax →
          exec (.regrind img) s = .next (s.answered n 0x0D img .spent [] [])) ∧
        (x.state = .worn → x.regrinds ≠ x.regrindMax →
          ∃ t, exec (.regrind img) s =
              .next (State.answered n 0x0D img .ok (le 1 (x.regrinds + 1) ++ le 1 x.regrindMax) [] t) ∧
            t = { s with tools := t.tools } ∧
            t.findTool (par2 img 1) = some
              { x with
                lifeUsed := 0, regrinds := x.regrinds + 1, warningSent := false, lifeEnded := false
                outOfTol := false, geometry := none, state := .unmeasured
                nominalLength := if (par1 img 0).testBit 0 then par4 img 3 else x.nominalLength
                nominalRadius := if (par1 img 0).testBit 1 then par4 img 7 else x.nominalRadius } ∧
            ∀ m, m ≠ par2 img 1 → t.findTool m = s.findTool m)))


/-! ## Orders that set work going (R36, R45, R46, R52, R58, R62 to R64, R69, R70, R81, R128 to R133, R159, R160) -/

/-- HOME: an axis set of 0 or above 3 is refused with BAD_PARAM, a cycle under way with STATION_BUSY, a named axis that is
HOMING with BUSY, each with both axes in the result, as they stand when it is formed (the model's choice of the moment, log
47), behind two zero bytes for the former states and no mask (the model's layout, log 10), and no state changed. Otherwise a
present reference is lost with REFERENCE_LOST of cause HOME and the axes as they stood (log 48), each named axis is HOMING
whatever it was, its counter kept, and the order waits with its home window and the former states. -/
def Obligations.HomeOrder : Prop :=
  ∀ (img : SlotImage) (n : SlotNo) (s : State), s.accepts .home img n →
    (par1 img 0 = 0 ∨ 3 < par1 img 0 → exec (.home img) s =
      .next (s.answered n 0x0E img .badParam (le 2 0 ++ s.presetter.axes.bytes) [])) ∧
    (∀ axes : AxisSet, par1 img 0 = axes.code → axes.z = true ∨ axes.x = true →
      (s.presetter.cycle.isSome = true → exec (.home img) s =
        .next (s.answered n 0x0E img .stationBusy (le 2 0 ++ s.presetter.axes.bytes) [])) ∧
      (s.presetter.cycle = none → (∃ a, axes.names a = true ∧ (s.axis a).state = .homing) → exec (.home img) s =
        .next (s.answered n 0x0E img .busy (le 2 0 ++ s.presetter.axes.bytes) [])) ∧
      (s.presetter.cycle = none → (∀ a, axes.names a = true → (s.axis a).state ≠ .homing) → ∀ u,
        (s.presetter.reference = none → u = s) →
        (∀ r, s.presetter.reference = some r → u = s.handReport
          { Report.blank .referenceLost with
            code := 1, detail := .plain (le 1 axes.code ++ le 2 r.generation ++ le 2 r.uses ++ s.presetter.axes.bytes) }) →
        exec (.home img) s =
          .next (State.started n 0x0E img
            (.home axes s.presetter.z.state s.presetter.x.state (1000 * s.presetter.homeWindow))
            { u with presetter :=
              { s.presetter with
                reference := none
                z := if axes.z then { s.presetter.z with state := .homing } else s.presetter.z
                x := if axes.x then { s.presetter.x with state := .homing } else s.presetter.x } })))

/-- CALIBRATE, by its checks in their order: NO_MASTER, AXIS_NOT_HOMED, STATION_BUSY, STATION_OCCUPIED, each with a record of
zeros and the axes (log 9) and no state changed. Otherwise it copies the master sizes, starts the cycle for its slot and waits;
a counter at or above its soft limit at the entry into TOUCH ends it OVERTRAVEL at once. Each record carries the axes as they stand
when the result is formed: the model's choice of the moment (log 47). -/
def Obligations.CalibrateOrder : Prop :=
  ∀ (img : SlotImage) (n : SlotNo) (s : State), s.accepts .calibrate img n →
    (∀ empty, empty = List.replicate 29 0 ++ s.presetter.axes.bytes →
      (s.presetter.masterLength = 0 ∨ s.presetter.masterRadius = 0 → exec (.calibrate img) s =
        .next (s.answered n 0x0F img .noMaster (le 2 39) empty)) ∧
      (s.presetter.masterLength ≠ 0 → s.presetter.masterRadius ≠ 0 →
        ((∃ a, (s.axis a).state ≠ .homed) → exec (.calibrate img) s =
          .next (s.answered n 0x0F img .axisNotHomed (le 2 39) empty)) ∧
        ((∀ a, (s.axis a).state = .homed) →
          (s.presetter.cycle.isSome = true → exec (.calibrate img) s =
            .next (s.answered n 0x0F img .stationBusy (le 2 39) empty)) ∧
          (s.presetter.cycle = none → (∃ x ∈ s.tools, x.location = .presetter) → exec (.calibrate img) s =
            .next (s.answered n 0x0F img .stationOccupied (le 2 39) empty)) ∧
          (s.presetter.cycle = none → (∀ x ∈ s.tools, x.location ≠ .presetter) →
            (s.presetter.seated = false ∨ (∀ a, (s.axis a).counter.toNat < (s.axis a).softLimit) →
              exec (.calibrate img) s =
                .next (State.started n 0x0F img (.calibrate s.presetter.masterLength s.presetter.masterRadius)
                  { s with presetter := s.presetter.withCycle n })) ∧
            (s.presetter.seated = true → (∃ a, (s.axis a).softLimit ≤ (s.axis a).counter.toNat) →
              exec (.calibrate img) s =
                .next (State.ended n .overtravel (le 2 39) empty
                  (State.started n 0x0F img (.calibrate s.presetter.masterLength s.presetter.masterRadius)
                    { s with presetter := { s.presetter.withCycle n with cycle := none } })))))))

/-- MEASURE, by its checks in their order, each refusal with a record of zeros and the axes (log 9) and no state changed. The axes
are those at the forming of the result: the model's choice of the moment (log 47). -/
def Obligations.MeasureChecks : Prop :=
  ∀ (img : SlotImage) (n : SlotNo) (s : State) (x : Tool) (refusedWith : Status → Prop), s.accepts .measure img n →
    (∀ st, refusedWith st ↔ exec (.measure img) s =
      .next (s.answered n 0x10 img st (le 2 70) (List.replicate 60 0 ++ s.presetter.axes.bytes))) →
    (par2 img 0 = 0 → refusedWith .badParam) ∧
    (par2 img 0 ≠ 0 → s.findTool (par2 img 0) = none → refusedWith .unknownTool) ∧
    (par2 img 0 ≠ 0 → s.findTool (par2 img 0) = some x →
      (x.state = .claimed → refusedWith .busy) ∧
      (x.state = .out ∨ x.state = .returning ∨ x.state = .astray ∨ x.state = .worn → refusedWith .wrongState) ∧
      (x.state = .unmeasured ∨ x.state = .passed ∨ x.state = .ready ∨ x.state = .quarantine →
        ((∃ a, (s.axis a).state ≠ .homed) → refusedWith .axisNotHomed) ∧
        ((∀ a, (s.axis a).state = .homed) →
          (s.presetter.reference = none → refusedWith .noReference) ∧
          (∀ r, s.presetter.reference = some r →
            (256 ≤ r.uses → refusedWith .referenceStale) ∧
            (r.uses < 256 →
              (s.presetter.cycle.isSome = true → refusedWith .stationBusy) ∧
              (s.presetter.cycle = none →
                ((∃ y ∈ s.tools, y.location = .presetter ∧ y.number ≠ x.number) → refusedWith .stationOccupied) ∧
                (s.presetter.seated = true → x.location ≠ .presetter → refusedWith .stationOccupied)))))))

/-- A MEASURE that passes the checks claims its record for its slot. From LOOSE it starts the cycle and waits in SEATING; from
PRESETTER likewise, or in TOUCHING when SEATED is active and no counter is at its soft limit; with a counter
at or beyond it, the order ends OVERTRAVEL in the same step, its claim released with the state before claim (its record in the
model's layout, log 9, with the axes at the end of the cycle, log 47); from POCKET p it asks for the FETCH, and then starts the cycle and waits in FETCHING, or completes with the refusal, no cycle started. -/
def Obligations.MeasureStarts : Prop :=
  ∀ (img : SlotImage) (n : SlotNo) (s : State) (x : Tool) (r : Reference), s.accepts .measure img n →
    par2 img 0 ≠ 0 → s.findTool (par2 img 0) = some x →
    x.state = .unmeasured ∨ x.state = .passed ∨ x.state = .ready ∨ x.state = .quarantine →
    (∀ a, (s.axis a).state = .homed) → s.presetter.reference = some r → r.uses < 256 → s.presetter.cycle = none →
    (∀ y ∈ s.tools, y.location = .presetter → y.number = x.number) →
    (x.location = .loose → s.presetter.seated = false → exec (.measure img) s =
      .next (State.started n 0x10 img (.measure (newMeasure x.number .loose .seating))
        { s.claimTool x.number (.slot n) with presetter := s.presetter.withCycle n })) ∧
    (x.location = .presetter → s.presetter.seated = false → exec (.measure img) s =
      .next (State.started n 0x10 img (.measure (newMeasure x.number .presetter .seating))
        { s.claimTool x.number (.slot n) with presetter := s.presetter.withCycle n })) ∧
    (x.location = .presetter → s.presetter.seated = true →
      (∀ a, (s.axis a).counter.toNat < (s.axis a).softLimit) → exec (.measure img) s =
        .next (State.started n 0x10 img (.measure (newMeasure x.number .presetter .touching))
          { s.claimTool x.number (.slot n) with presetter := s.presetter.withCycle n })) ∧
    (x.location = .presetter → s.presetter.seated = true →
      (∃ a, (s.axis a).softLimit ≤ (s.axis a).counter.toNat) → ∀ m,
      m = { newMeasure x.number .presetter .touching with
        outcome := some
          { fault := some .overtravel, zCaptures := [], xCaptures := [], means := none, axes := s.presetter.axes } } →
      ∃ t, exec (.measure img) s = .next (State.ended n .overtravel (le 2 (t.measureRecord m).length)
          (t.measureRecord m) (State.started n 0x10 img (.measure (newMeasure x.number .presetter .touching)) t)) ∧
        t = { s with tools := t.tools, presetter := { s.presetter.withCycle n with cycle := none } } ∧
        (∀ k, k ≠ x.number → t.findTool k = s.findTool k) ∧
        t.findTool x.number = some ((x.take (.slot n)).release false x.state .presetter)) ∧
    (∀ p, x.location = .pocket p → s.presetter.seated = false →
      (∀ u num, (s.claimTool x.number (.slot n)).requestRemoval .fetch p (.slot n) = (u, .made num p) →
        exec (.measure img) s =
          .next (State.started n 0x10 img
            (.measure { newMeasure x.number (.pocket p) .fetching with fetch := some num, fetchMade := some num })
            { u with presetter := s.presetter.withCycle n })) ∧
      (∀ u st, (s.claimTool x.number (.slot n)).requestRemoval .fetch p (.slot n) = (u, .denied st) →
        ∃ record t, exec (.measure img) s = .next (State.answered n 0x10 img st (le 2 record.length) record t) ∧
          t = { s with tools := t.tools } ∧
          ((x.state = .ready → x.meetsReady = true) →
            t.findTool x.number = some { x with claim := none, stateBefore := none })))

/-- STOW, by its checks in their order; a refusal changes no state. A STOW that passes claims the record and asks for STORE for a
PASSED tool and RETURN_PUT for another; made, it waits with the request; refused, the claim is released with the state before
claim and the order completes with that status. -/
def Obligations.StowOrder : Prop :=
  ∀ (img : SlotImage) (n : SlotNo) (s : State), s.accepts .stow img n →
    (par2 img 0 = 0 → exec (.stow img) s = .next (s.answered n 0x11 img .badParam [] [])) ∧
    (par2 img 0 ≠ 0 → s.findTool (par2 img 0) = none →
      exec (.stow img) s = .next (s.answered n 0x11 img .unknownTool [] [])) ∧
    (∀ x, par2 img 0 ≠ 0 → s.findTool (par2 img 0) = some x →
      (x.state = .claimed → exec (.stow img) s = .next (s.answered n 0x11 img .busy [] [])) ∧
      (x.state ≠ .claimed → x.location ≠ .loose → x.location ≠ .presetter →
        exec (.stow img) s = .next (s.answered n 0x11 img .wrongState [] [])) ∧
      (x.state = .ready ∨ x.state = .out ∨ x.state = .returning ∨ x.state = .astray →
        exec (.stow img) s = .next (s.answered n 0x11 img .wrongState [] [])) ∧
      (x.state = .unmeasured ∨ x.state = .passed ∨ x.state = .quarantine ∨ x.state = .worn →
        x.location = .loose ∨ x.location = .presetter →
        ∀ mv : Movement, (x.state = .passed → mv = .store) → (x.state ≠ .passed → mv = .returnPut) →
        (∀ u num p, (s.claimTool x.number (.slot n)).requestInsertion mv x.number (.slot n) = (u, .made num p) →
          exec (.stow img) s = .next (State.started n 0x11 img
            (.stow { tool := x.number, movement := mv, request := num, pocket := p }) u)) ∧
        (∀ u st, (s.claimTool x.number (.slot n)).requestInsertion mv x.number (.slot n) = (u, .denied st) →
          ∃ t, exec (.stow img) s = .next (State.answered n 0x11 img st [] [] t) ∧
            t = { s with tools := t.tools } ∧
            t.findTool x.number = some { x with claim := none, stateBefore := none })))

/-- RETURN, by its checks in their order; a refusal changes no state. A RETURN that passes claims the record and asks for
RETURN_PUT; refused, the claim is released with the state before claim. Made, it queues a WITHDRAW of issue id FFh toward the cell
of an OUT tool or the last cell of an ASTRAY one: PENDING when queued, UNCONFIRMED when refused, NONE when there is no cell. -/
def Obligations.ReturnOrder : Prop :=
  ∀ (img : SlotImage) (n : SlotNo) (s : State), s.accepts .returnTool img n →
    (par2 img 0 = 0 → exec (.returnTool img) s = .next (s.answered n 0x13 img .badParam [] [])) ∧
    (par2 img 0 ≠ 0 → s.findTool (par2 img 0) = none →
      exec (.returnTool img) s = .next (s.answered n 0x13 img .unknownTool [] [])) ∧
    (∀ x, par2 img 0 ≠ 0 → s.findTool (par2 img 0) = some x →
      (x.state = .claimed → exec (.returnTool img) s = .next (s.answered n 0x13 img .busy [] [])) ∧
      (x.state ≠ .claimed → x.state ≠ .returning → x.state ≠ .out → x.state ≠ .astray →
        exec (.returnTool img) s = .next (s.answered n 0x13 img .wrongState [] [])) ∧
      (x.state = .returning ∨ x.state = .out ∨ x.state = .astray →
        (∀ u st, (s.claimTool x.number (.slot n)).requestInsertion .returnPut x.number (.slot n) = (u, .denied st) →
          ∃ t, exec (.returnTool img) s = .next (State.answered n 0x13 img st [] [] t) ∧
            t = { s with tools := t.tools } ∧
            t.findTool x.number = some { x with claim := none, stateBefore := none }) ∧
        (∀ u num p, (s.claimTool x.number (.slot n)).requestInsertion .returnPut x.number (.slot n) =
            (u, .made num p) →
          ∀ target, (target = if x.state = .astray then x.last else
              match x.state, x.location with | .out, .cell c m => some (c, m) | _, _ => none) →
          ∀ v withdraw,
            (target = none → v = u ∧ withdraw = .notSent) →
            (∀ c m, target = some (c, m) →
              v = (u.queueExchange c (.withdraw 0xFF x.number m) (.slot n)).1 ∧
              withdraw = if (u.queueExchange c (.withdraw 0xFF x.number m) (.slot n)).2.isNone then .pending
                else .unconfirmed) →
            exec (.returnTool img) s = .next (State.started n 0x13 img
              (.returning
                { tool := x.number, stateBefore := x.state, request := num, pocket := p, opened := false
                  outcome := none, withdrawTo := target, withdraw := withdraw, tries := 0, acknowledged := false
                  released := none }) v))))

/-- ISSUE carries cell 1..24, magazine slot 1..240, a mode and a tool number 1..65535 or a class 0..255; anything else is refused
with BAD_PARAM. That tool number and class share one field of 2 bytes, and that a class above 255 is BAD_PARAM, is the model's
reading (log 13). A first check of R128 that fails, or a selection that fails, completes the order with its status. A selected tool
is claimed, the lowest free record filled, the offer queued, and the order waits for the close; when the offer cannot be queued
the issue closes NO_ANSWER in the same step. -/
def Obligations.IssueOrder : Prop :=
  ∀ (img : SlotImage) (n : SlotNo) (s : State), s.accepts .issue img n →
    (par1 img 0 = 0 ∨ 24 < par1 img 0 ∨ par1 img 1 = 0 ∨ 240 < par1 img 1 ∨ 1 < par1 img 2 ∨
        (par1 img 2 = 0 ∧ par2 img 3 = 0) ∨ (par1 img 2 = 1 ∧ 255 < par2 img 3) →
      exec (.issue img) s = .next (s.answered n 0x12 img .badParam [] [])) ∧
    (∀ (c : CellNo) (a : Ask), par1 img 0 = c.val + 1 → 1 ≤ par1 img 1 → par1 img 1 ≤ 240 →
      (par1 img 2 = 0 ∧ par2 img 3 ≠ 0 ∧ a = ⟨c, par1 img 1, .order n, none, par2 img 3⟩) ∨
        (par1 img 2 = 1 ∧ par2 img 3 ≤ 255 ∧ a = ⟨c, par1 img 1, .order n, some (par2 img 3), 0⟩) →
      (∀ r, s.acceptCheck a = some r → exec (.issue img) s = .next (s.answered n 0x12 img r.toStatus [] [])) ∧
      (∀ r, s.acceptCheck a = none → s.selectTool a = .error r →
        exec (.issue img) s = .next (s.answered n 0x12 img r.toStatus [] [])) ∧
      (∀ (t : Nat) (y : Tool) (i : IssueNo) (v : State) (full : Option QueueRefusal),
        s.acceptCheck a = none → s.selectTool a = .ok t → s.findTool t = some y → s.freeIssue = some i →
        (({ s.claimTool t (.issue (s.issueId i)) with
            issues :=
              { s.issues with
                records := (s.issues.records.set i.1
                  { s.issueRec i with issue := some (newIssue a t (y.pocket?.getD 0) s.clock) } i.2) } }).queueExchange c
            (.dataOffer (s.issueId i) y.number (par1 img 1) ((y.geometry.map fun g : Geometry => g.length).getD 0)
              ((y.geometry.map fun g : Geometry => g.radius).getD 0) (y.lifeLimit - y.lifeUsed) y.lifeUnit)
            (.issue (s.issueId i)) = (v, full)) →
        (full = none → exec (.issue img) s = .next (State.started n 0x12 img (.issue (s.issueId i)) v)) ∧
        (full ≠ none → ∃ u result, exec (.issue img) s = .next (State.ended n .noAnswer result []
            (State.started n 0x12 img (.issue (s.issueId i)) u)) ∧
          (u.issueRec i).issue = none ∧ u.link = s.link ∧ u.crib = s.crib ∧ u.reports = s.reports)))

/-- CANCEL (result bytes in the model's layout, log 11; a RETURN after its movement is NOT_CANCELLABLE by log 32). Target kinds above
1, slots above 31 or its own and issue id 255 are BAD_PARAM; a slot with no long order under way NO_ORDER; an id that is not open
NO_ISSUE. Every other CANCEL answers slot, kind and tag of its target, or zeros for an id, and issue id and phase of an issue. HOME
ends CANCELLED, its HOMING axes UNHOMED (one that a second HOME made HOMING too, the model's choice, log 55); CALIBRATE and a MEASURE with its cycle end ABORTED; a MEASURE in STORING ends OK, STOW,
RETURN, REMOVE and CLEAR_OUT end CANCELLED, each with its request cancelled: removed when QUEUED, else relocked and CLOSING; where
the request is CLOSING already nothing more happens. That the result of a cancelled CLEAR_OUT carries no fault is the model's choice (log 59). A relock is NOT_CANCELLABLE. An issue in OFFER_WAIT: recalled and closed when
never acknowledged, withdrawn when acknowledged, cancel pending when in flight; in UNLOCK_WAIT or PICKUP its request is cancelled
and it withdraws; in TRANSIT TOO_LATE; in WITHDRAWING NOT_CANCELLABLE. -/
def Obligations.CancelOrder : Prop :=
  ∀ (img : SlotImage) (n : SlotNo) (s : State), s.accepts .cancel img n →
    ∀ (answers : Status → List Byte → State → Prop) (live stopped : Nat → State → Prop),
    (∀ st result t, answers st result t ↔ exec (.cancel img) s = .next t ∧
      (t.slot n).context.bind (·.output) = some { status := st, stamp := s.clock, result := result, buffer := [] }) →
    (∀ num t, live num t ↔ ∃ r, t.findRequest num = some r ∧
      (r.state = .queued ∨ r.state = .opening ∨ r.state = .opened)) →
    (∀ num t, stopped num t ↔ ∃ r, s.findRequest num = some r ∧
      (r.state = .queued → t.crib.requests = s.crib.requests.filter (fun q => q.number != r.number) ∧
        (t.pocket r.pocket).claim = none ∧ (t.pocket r.pocket).lock = (s.pocket r.pocket).lock) ∧
      (r.state = .opening ∨ r.state = .opened →
        t.crib.requests = s.crib.requests.map (fun q =>
          if q.number = r.number then { q with state := .closing, window := none, outcome := some .cancelled } else q) ∧
        t.pocket r.pocket = { s.pocket r.pocket with lock := .closing, confirm := some 250, stamp := s.clock })) →
    (1 < par1 img 0 ∨ (par1 img 0 = 0 ∧ (32 ≤ par1 img 1 ∨ par1 img 1 = n.val)) ∨
        (par1 img 0 = 1 ∧ par1 img 1 = 255) →
      exec (.cancel img) s = .next (s.answered n 0x14 img .badParam [] [])) ∧
    (∀ m : SlotNo, par1 img 0 = 0 → par1 img 1 = m.val → m ≠ n →
      ((∀ c, (s.slot m).context = some c → c.long = false ∨ c.output.isSome = true) →
        exec (.cancel img) s = .next (s.answered n 0x14 img .noOrder [] [])) ∧
      (∀ c target plain, (s.slot m).context = some c → c.long = true → c.output = none →
        (target = le 1 m.val ++ le 1 c.kind ++ le 2 c.tag.toNat) → (plain = le 1 0 ++ target ++ List.replicate 2 0) →
        (∀ axes fz fx w, c.work = .home axes fz fx w → ∃ t, answers .ok plain t ∧ t.formedStatus m = some .cancelled ∧
          t.order.writeOrder = s.order.writeOrder ++ (if m < n then [m, n] else [n, m]) ∧
          (∀ a, (t.axis a).state =
            if axes.names a = true ∧ (s.axis a).state = .homing then .unhomed else (s.axis a).state) ∧
          t = { s with order := t.order, presetter := t.presetter }) ∧
        (∀ ml mr cycle, c.work = .calibrate ml mr → s.presetter.cycle = some cycle → cycle.owner = m →
          ∃ t, answers .ok plain t ∧ t.formedStatus m = some .aborted ∧
            t = { s with order := t.order, presetter := { s.presetter with cycle := none } }) ∧
        (∀ x, c.work = .measure x → x.phase ≠ .storing →
          (∀ cycle, s.presetter.cycle = some cycle → cycle.owner = m →
            (x.phase = .seating ∨ x.phase = .touching → ∃ t, answers .ok plain t ∧ t.formedStatus m = some .aborted ∧
              t = { s with order := t.order, tools := t.tools, presetter := { s.presetter with cycle := none } }) ∧
            (∀ num, x.phase = .fetching → x.pendingStatus = none → x.fetch = some num → live num s →
              ∃ t, answers .ok plain t ∧ t.formedStatus m = some .aborted ∧ stopped num t ∧
                t.presetter = { s.presetter with cycle := none })) ∧
          ((∀ cycle, s.presetter.cycle = some cycle → cycle.owner ≠ m) →
            exec (.cancel img) s = .next (s.answered n 0x14 img .ok plain []))) ∧
        (∀ x num, c.work = .measure x → x.phase = .storing → x.store = some num → live num s →
          ∃ t, answers .ok plain t ∧ t.formedStatus m = some .ok ∧ stopped num t) ∧
        (∀ w, c.work = .stow w → live w.request s → ∃ t, answers .ok plain t ∧ t.formedStatus m = some .cancelled ∧
          stopped w.request t ∧ t.tools = (s.releaseBack w.tool).tools) ∧
        (∀ tool num, c.work = .remove tool num → live num s → ∃ t, answers .ok plain t ∧
          t.formedStatus m = some .cancelled ∧ stopped num t ∧ t.tools = (s.releaseBack tool).tools) ∧
        (∀ p num, c.work = .clearOut p num → live num s → ∃ t, answers .ok plain t ∧
          t.formedStatus m = some .cancelled ∧ stopped num t ∧ t.tools = s.tools) ∧
        (∀ r, c.work = .returning r → r.outcome = none → live r.request s → ∃ t, answers .ok plain t ∧
          stopped r.request t ∧
          (t.tools = s.tools.map fun y => if y.number = r.tool then y.release true y.before y.location else y) ∧
          (r.withdraw ≠ .pending → t.formedStatus m = some .cancelled) ∧
          (∀ d slot e, r.withdraw = .pending → r.withdrawTo = some (d, slot) →
            (s.cell d).queue.find? (fun e => e.owner == .slot m) = some e →
            (e.step ≠ .inFlight → t.formedStatus m = some .cancelled ∧
              ∀ e' ∈ (t.cell d).queue, e'.owner ≠ .slot m) ∧
            (e.step = .inFlight → ∃ r', t.work m = .returning r' ∧ r'.outcome = some .cancelled ∧
              r'.withdraw = .pending ∧ t.link = s.link))) ∧
        (∀ num r, ((∃ x, c.work = .measure x ∧ x.phase = .storing ∧ x.store = some num) ∨
              (∃ w, c.work = .stow w ∧ w.request = num) ∨ (∃ tool, c.work = .remove tool num) ∨
              (∃ p, c.work = .clearOut p num) ∨ (∃ x, c.work = .returning x ∧ x.outcome = none ∧ x.request = num)) →
          s.findRequest num = some r → r.state = .closing →
          exec (.cancel img) s = .next (s.answered n 0x14 img .ok plain [])) ∧
        ((∃ p, c.work = .clearRelock p) ∨ (∃ r, c.work = .returning r ∧ r.outcome.isSome = true) →
          exec (.cancel img) s = .next (s.answered n 0x14 img .notCancellable plain [])))) ∧
    (par1 img 0 = 1 → par1 img 1 ≠ 255 → s.openIndex (par1 img 1) = none →
      exec (.cancel img) s = .next (s.answered n 0x14 img .noIssue [] [])) ∧
    (∀ id i x result, s.openIndex id = some i → (s.issueRec i).issue = some x →
      (par1 img 0 = 1 ∧ par1 img 1 = id ∧ id ≠ 255 ∧
          result = le 1 1 ++ List.replicate 4 0 ++ (le 1 id ++ le 1 x.phase.code)) ∨
        (∃ m c, par1 img 0 = 0 ∧ par1 img 1 = m.val ∧ m ≠ n ∧ (s.slot m).context = some c ∧ c.long = true ∧
          c.output = none ∧ c.work = .issue id ∧
          result = le 1 1 ++ (le 1 m.val ++ le 1 c.kind ++ le 2 c.tag.toNat) ++ (le 1 id ++ le 1 x.phase.code)) →
      (x.phase = .transit → exec (.cancel img) s = .next (s.answered n 0x14 img .tooLate result [])) ∧
      (x.phase = .withdrawing → exec (.cancel img) s = .next (s.answered n 0x14 img .notCancellable result [])) ∧
      (x.phase = .offerWait → x.cancelPending = true →
        exec (.cancel img) s = .next (s.answered n 0x14 img .ok result [])) ∧
      (∀ e, x.phase = .offerWait → x.cancelPending = false →
        (s.cell x.cell).queue.find? (fun e => e.owner == .issue id) = some e →
        (e.step = .inFlight → exec (.cancel img) s = .next (State.answered n 0x14 img .ok result []
          (s.modIssue i fun x => { x with failure := some (x.failure.getD .cancelled), cancelPending := true }))) ∧
        (e.step ≠ .inFlight → e.acknowledged = false → x.origin ≠ .order n → ∃ t, answers .ok result t ∧
          (t.issueRec i).issue = none ∧ (∀ e' ∈ (t.cell x.cell).queue, e'.owner ≠ .issue id) ∧ t.crib = s.crib ∧
          ∀ k, x.origin = .order k → s.working k (.issue id) → x.failure = none →
            t.formedStatus k = some .cancelled) ∧
        (e.step ≠ .inFlight → e.acknowledged = true → (s.cell x.cell).queue.length ≤ 16 →
          (s.cell x.cell).standing ≠ .cutOff → ∃ t, answers .ok result t ∧ t.crib = s.crib ∧
          (t.issueRec i).issue = some
            { x with
              deferrals := e.deferrals, offer := .unknown, phase := .withdrawing, request := none
              failure := some (x.failure.getD .cancelled) } ∧
          (∃ e' ∈ (t.cell x.cell).queue, e'.payload = .withdraw id x.tool x.slot ∧ e'.owner = .issue id))) ∧
      (∀ num, x.phase = .unlockWait ∨ x.phase = .pickup → x.request = some num → live num s →
        (s.cell x.cell).queue.length < 16 → (s.cell x.cell).standing ≠ .cutOff → ∃ t, answers .ok result t ∧
        stopped num t ∧
        (t.issueRec i).issue = some
          { x with phase := .withdrawing, request := none, failure := some (x.failure.getD .cancelled) } ∧
        (∃ e' ∈ (t.cell x.cell).queue, e'.payload = .withdraw id x.tool x.slot ∧ e'.owner = .issue id)))

/-- SCAN (entry layouts and the next index of an empty list by the model's reading, log 14; no presence mask,
log 52). It writes the entries of its kind from
the start index on, rising, as many whole entries as the buffer holds, and answers how many, where to go on (the start index when
none is written) and whether more remain; REQUESTS adds lock budget, budget count and the length of the queue. POCKETS lists the
pockets with a fault, away from LOCKED or with a sensor that disagrees; ISSUES the open issues by index; CELLS every cell;
REQUESTS the queued requests in queue order, then the others by pocket. It changes no state. A kind above 3 or a start out of its
range is refused with BAD_PARAM. -/
def Obligations.ScanOrder : Prop :=
  ∀ (img : SlotImage) (n : SlotNo) (s : State), s.accepts .scan img n →
    ∀ (start : Nat) (writes : Nat → List Byte → List (Nat × List Byte) → Prop) (stamp : Option Stamp → List Byte),
    start = par2 img 1 → (∀ t, stamp t = match t with | some t => le 4 t.toNat | none => List.replicate 4 0) →
    (∀ size extra entries, writes size extra entries ↔
      (∀ e ∈ entries, e.2.length = size ∧ start ≤ e.1) ∧ (entries.map (·.1)).Pairwise (· < ·) ∧
      exec (.scan img) s = .next (s.answered n 0x15 img .ok
        (le 2 (min (img.bufLength.toNat / size) entries.length) ++
          le 2 ((((entries.take (img.bufLength.toNat / size)).getLast?).map fun e => e.1 + 1).getD start) ++
          flag (img.bufLength.toNat / size < entries.length) ++ extra)
        ((entries.take (img.bufLength.toNat / size)).flatMap (·.2)))) →
    (par1 img 0 = 0 → start ≤ 511 → writes 16 []
      (((List.finRange 512).filter fun p => decide (start ≤ p.val) &&
        (decide ((s.pocket p).fault ≠ .clear) || decide ((s.pocket p).lock ≠ .locked) ||
          ((s.pocket p).sensor == .present) != (s.pocket p).content.isSome)).map fun p =>
        (p.val, fit 16 (le 1 (presence [(s.pocket p).content.isSome, (s.pocket p).claim.isSome]) ++ le 2 p.val ++
          le 2 ((s.pocket p).content.getD 0) ++ le 1 (s.pocket p).sensor.code ++ le 1 (s.pocket p).lock.code ++
          le 1 (s.pocket p).fault.code ++ le 2 ((s.pocket p).claim.getD 0) ++ le 4 (s.pocket p).stamp.toNat)))) ∧
    (par1 img 0 = 1 → start ≤ 31 → writes 48 []
      ((List.finRange 32).filterMap fun i => if i.val < start then none else (s.issueRec i).issue.map fun x =>
        (i.val, fit 48 (le 1 (presence [x.failure.isSome, x.request.isSome, x.opened.isSome, x.unlocked.isSome,
            x.removed.isSome, x.closed.isSome]) ++ le 1 (8 * i.val + (s.issueRec i).generation.val) ++ le 2 x.tool ++
          le 1 (x.cell.val + 1) ++ le 1 x.slot ++
          (match x.origin with | .order k => le 1 0 ++ le 1 k.val | .cell reference => le 1 1 ++ le 1 reference) ++
          flag x.byClass.isSome ++ le 1 (x.byClass.getD 0) ++ le 1 x.phase.code ++ le 1 x.offer.code ++
          flag x.cancelPending ++ le 2 ((x.failure.map fun st : Status => st.code).getD 0) ++ le 2 x.pocket.val ++
          le 2 (x.request.getD 0) ++ le 1 x.tries ++ le 1 x.deferrals ++ le 2 x.losses ++ le 1 x.withdraw.code ++
          stamp x.opened ++ stamp x.unlocked ++ stamp x.removed ++ stamp x.closed)))) ∧
    (par1 img 0 = 2 → 1 ≤ start → start ≤ 24 → writes 16 []
      (((List.finRange 24).filter fun c => decide (start ≤ c.val + 1)).map fun c =>
        (c.val + 1, fit 16 (le 1 (c.val + 1) ++ flag (s.cell c).enabled ++ le 1 (s.cell c).magSize ++
          le 1 (s.cell c).issueLimit ++ le 1 (s.openIssues.countP fun p => p.2.cell == c) ++
          le 1 (s.cell c).standing.code ++ le 2 (s.cell c).faultCount ++ le 1 (s.cell c).answers ++
          le 1 (s.cell c).queue.length ++ le 1 (((s.cell c).inFlight.map fun e => e.payload.kindCode).getD 0) ++
          le 1 (((s.cell c).inFlight.map fun e => e.triesUsed).getD 0) ++ le 4 (s.cell c).lastGrant.toNat)))) ∧
    (par1 img 0 = 3 → start ≤ 23 → ∃ others : List Request,
      others.Perm (s.crib.requests.filter fun r => r.state != .queued) ∧
      others.Pairwise (fun q r => q.pocket ≤ r.pocket) ∧
      writes 20 (le 1 s.crib.lockBudget ++ le 2 s.budgetCount ++ le 1 s.queuedCount)
        ((((s.crib.requests.filter fun r => r.state == .queued) ++ others).zipIdx.filter fun p => start ≤ p.2).map fun p =>
          (p.2, fit 20 (le 1 (presence [p.1.tool.isSome, p.1.state == .queued, p.1.window.isSome, p.1.outcome.isSome]) ++
            le 2 p.1.number ++ le 1 p.1.movement.code ++ le 2 p.1.pocket.val ++ le 2 (p.1.tool.getD 0) ++
            (match p.1.owner with | .issue id => le 1 0 ++ le 1 id | .slot m => le 1 1 ++ le 1 m.val) ++
            le 1 p.1.state.code ++ flag p.1.movement.inserts ++
            le 1 (if p.1.state == .queued then p.2 else 0) ++
            stamp (p.1.window.map fun w => s.clock + BitVec.ofNat 32 w) ++
            le 1 ((p.1.outcome.map fun o : MoveOutcome => o.code).getD 0))))) ∧
    (3 < par1 img 0 ∨ (par1 img 0 = 0 ∧ 511 < par2 img 1) ∨ (par1 img 0 = 1 ∧ 31 < par2 img 1) ∨
        (par1 img 0 = 2 ∧ (par2 img 1 = 0 ∨ 24 < par2 img 1)) ∨ (par1 img 0 = 3 ∧ 23 < par2 img 1) →
      exec (.scan img) s = .next (s.answered n 0x15 img .badParam [] []))

/-- CLEAR_FAULT. A pocket above 511 is refused with BAD_PARAM, one without fault with WRONG_STATE, one with a claim with BUSY. A
JAMMED lock is sent RELOCK and the order waits; a LOCK_JAM whose lock is CLOSING is BUSY. FORCED or UNKNOWN_ITEM with the sensor
ABSENT is cleared at once; FORCED with the sensor PRESENT is refused with WRONG_STATE; UNKNOWN_ITEM with the sensor PRESENT makes
a CLEAR_OUT request, or is refused with CRIB_BUSY. -/
def Obligations.ClearFaultOrder : Prop :=
  ∀ (img : SlotImage) (n : SlotNo) (s : State), s.accepts .clearFault img n →
    (512 ≤ par2 img 0 → exec (.clearFault img) s = .next (s.answered n 0x16 img .badParam [] [])) ∧
    (∀ p : PocketNo, par2 img 0 = p.val →
      ((s.pocket p).fault = .clear → exec (.clearFault img) s = .next (s.answered n 0x16 img .wrongState [] [])) ∧
      ((s.pocket p).fault ≠ .clear → (s.pocket p).claim.isSome = true →
        exec (.clearFault img) s = .next (s.answered n 0x16 img .busy [] [])) ∧
      ((s.pocket p).claim = none →
        ((s.pocket p).fault = .lockJam → (s.pocket p).lock = .jammed → exec (.clearFault img) s =
          .next (State.started n 0x16 img (.clearRelock p)
            (s.modPocket p fun k => { k with lock := .closing, confirm := some 250, stamp := s.clock }))) ∧
        ((s.pocket p).fault = .lockJam → (s.pocket p).lock = .closing →
          exec (.clearFault img) s = .next (s.answered n 0x16 img .busy [] [])) ∧
        ((s.pocket p).fault = .forced ∨ (s.pocket p).fault = .unknownItem → (s.pocket p).sensor = .absent →
          exec (.clearFault img) s = .next (State.answered n 0x16 img .ok (le 1 0) []
            (s.modPocket p fun k => { k with fault := .clear, stamp := s.clock }))) ∧
        ((s.pocket p).fault = .forced → (s.pocket p).sensor = .present →
          exec (.clearFault img) s = .next (s.answered n 0x16 img .wrongState [] [])) ∧
        ((s.pocket p).fault = .unknownItem → (s.pocket p).sensor = .present → (s.pocket p).content = none →
          (∀ u num, s.requestRemoval .clearOut p (.slot n) = (u, .made num p) →
            exec (.clearFault img) s = .next (State.started n 0x16 img (.clearOut p num) u)) ∧
          (s.crib.lockBudget ≤ s.budgetCount → 16 ≤ s.queuedCount →
            exec (.clearFault img) s = .next (s.answered n 0x16 img .cribBusy [] [])))))

/-! ## The drawer chain and the requests (R23 to R28, R36 to R45, R48) -/

/-- The lock table. A released confirmation changes an OPENING pocket alone, to OPEN, and starts the window of its request; an
engaged confirmation changes a CLOSING pocket alone, to LOCKED, and ends the request that names it; a lock confirm window that
expires makes an OPENING or CLOSING pocket JAMMED with fault LOCK_JAM and ends its request; an ignored one, and an expiry where no window runs (log 1, the model's choice), changes nothing.
Content and sensor stay. The premise says that claim and requests of the pocket agree. -/
def Obligations.LockTable : Prop :=
  ∀ (p : PocketNo) (s : State), (∀ q ∈ s.crib.requests, q.pocket = p ↔ (s.pocket p).claim = some q.number) →
    ((s.pocket p).lock ≠ .opening → exec (.releasedConfirmation p) s = .next s) ∧
    ((s.pocket p).lock ≠ .closing → exec (.engagedConfirmation p) s = .next s) ∧
    ((s.pocket p).lock ≠ .opening → (s.pocket p).lock ≠ .closing →
      exec (.lockConfirmWindowExpires p) s = .next s) ∧
    ((s.pocket p).lock = .opening → ∃ t, exec (.releasedConfirmation p) s = .next t ∧
      t.pocket p = { s.pocket p with lock := .opened, confirm := none, stamp := s.clock } ∧
      (∀ q, q ≠ p → t.pocket q = s.pocket q) ∧
      ∀ r, s.requestAt p = some r → t.crib.requests = s.crib.requests.map fun q =>
        if q.number = r.number then
          { q with
            state := .opened
            window := some (1000 * if r.movement.inserts then s.crib.insertWindow else s.crib.pickupWindow) }
        else q) ∧
    ((s.pocket p).lock = .closing → ∃ t, exec (.engagedConfirmation p) s = .next t ∧
      (t.pocket p).lock = .locked ∧ (t.pocket p).confirm = none ∧ (t.pocket p).content = (s.pocket p).content ∧
      (t.pocket p).sensor = (s.pocket p).sensor ∧
      ∀ r, s.requestAt p = some r → (t.pocket p).claim = none ∧ ∀ q ∈ t.crib.requests, q.number ≠ r.number) ∧
    (∀ w, (s.pocket p).confirm = some w → (s.pocket p).lock = .opening ∨ (s.pocket p).lock = .closing →
      ∃ t, exec (.lockConfirmWindowExpires p) s = .next t ∧
        (t.pocket p).lock = .jammed ∧ (t.pocket p).fault = .lockJam ∧ (t.pocket p).confirm = none ∧
        (t.pocket p).content = (s.pocket p).content ∧ (t.pocket p).sensor = (s.pocket p).sensor ∧
        (t.pocket p).stamp = s.clock ∧ (∀ q, q ≠ p → t.pocket q = s.pocket q) ∧
        ∀ r, s.requestAt p = some r →
          (t.pocket p).claim = none ∧ t.crib.requests = s.crib.requests.filter fun q => q.number != r.number)

/-- What the lock's events and the request window do beyond the pocket. OPENED takes an issue to PICKUP. A jam while opening
ends a REMOVE with LOCK_JAM and writes POCKET_FAULT; a jam of a relock writes it alone, with the request or with none; a
relock of CLEAR_FAULT ends its order, OK with the resulting fault or LOCK_JAM without a report. A jam while opening ends a
STOW, a CLEAR_OUT, a MEASURE in FETCHING and a RETURN with LOCK_JAM too, a MEASURE in STORING with OK, and makes an issue
withdraw. A request window that expires takes a pocket and request to CLOSING: a STOW or a RETURN ends INSERT_TIMEOUT, a
REMOVE, a CLEAR_OUT and a MEASURE in FETCHING, its cycle withdrawn, PICKUP_TIMEOUT, each claim released with the state before
claim; a MEASURE in STORING ends OK, NOT_STORED, with its verdict; an issue withdraws with PICKUP_TIMEOUT. A PENDING withdraw
of a RETURN is recalled with either; in flight, the RETURN waits for it. Tool and issue of a POCKET_FAULT, its bit 2 in an
unlock jam, read before the owner's release, and the zero results of a failed REMOVE and of a failed CLEAR_FAULT are the model's choice
(logs 17, 54, 45 and 59), the layout of the results of STOW and MEASURE is its reading (logs 11 and 9); where no window runs nothing changes (log 1, the model's choice). -/
def Obligations.LockEventsReachTheOwner : Prop :=
  ∀ (p : PocketNo) (s : State), s.order.formedNow = [] →
    (∀ r id i, (s.pocket p).lock = .opening → s.requestAt p = some r → r.owner = .issue id → s.openIndex id = some i →
      ∃ t, exec (.releasedConfirmation p) s = .next t ∧
        (t.issueRec i).issue = (s.issueRec i).issue.map (fun x => { x with unlocked := some s.clock, phase := .pickup }) ∧
        t = { s with crib := t.crib, issues := t.issues }) ∧
    (∀ w r n tool num, (s.pocket p).lock = .opening → (s.pocket p).confirm = some w → s.requestAt p = some r →
      r.owner = .slot n → s.working n (.remove tool num) →
      ∃ t, exec (.lockConfirmWindowExpires p) s = .next (State.handReport
          (s.pocketFaultReport .lockJam p .jammed (s.pocket p).content (some r)) (State.ended n .lockJam [] [] t)) ∧
        t = { s.releaseBack tool with crib := t.crib }) ∧
    (∀ w r report, (s.pocket p).lock = .opening → (s.pocket p).confirm = some w → s.requestAt p = some r →
      report = s.pocketFaultReport .lockJam p .jammed (s.pocket p).content (some r) →
      (∀ n status, r.owner = .slot n →
        (status = .lockJam ∧ ((∃ stow, s.working n (.stow stow)) ∨ (∃ q num, s.working n (.clearOut q num)) ∨
            (∃ m, s.working n (.measure m) ∧ m.phase = .fetching ∧ m.pendingStatus = none) ∨
            (∃ x, s.working n (.returning x) ∧ x.withdraw ≠ .pending))) ∨
          (status = .ok ∧ ∃ m, s.working n (.measure m) ∧ m.phase = .storing) →
        ∃ t, exec (.lockConfirmWindowExpires p) s = .next t ∧ t.formedStatus n = some status ∧
          t.reports = (s.handReport report).reports) ∧
      (∀ id i x, r.owner = .issue id → s.openIndex id = some i → (s.issueRec i).issue = some x →
        (s.cell x.cell).queue.length < 16 → (s.cell x.cell).standing ≠ .cutOff →
        ∃ t, exec (.lockConfirmWindowExpires p) s = .next t ∧
          (t.issueRec i).issue = some
            { x with phase := .withdrawing, request := none, failure := some (x.failure.getD .lockJam) } ∧
          t.tools = s.tools ∧ t.reports = (s.handReport report).reports ∧
          (t.cell x.cell).queue.length = (s.cell x.cell).queue.length + 1)) ∧
    (∀ w r, (s.pocket p).lock = .closing → (s.pocket p).confirm = some w → s.requestAt p = some r →
      ∃ t, exec (.lockConfirmWindowExpires p) s = .next (State.handReport
          (s.pocketFaultReport .lockJam p .jammed (s.pocket p).content (some r)) t) ∧ t = { s with crib := t.crib }) ∧
    (∀ w, (s.pocket p).lock = .closing → (s.pocket p).confirm = some w → s.requestAt p = none → s.relockOf p = none →
      exec (.lockConfirmWindowExpires p) s = .next (State.handReport
        (s.pocketFaultReport .lockJam p .jammed (s.pocket p).content none)
        (s.modPocket p fun k => { k with lock := .jammed, fault := .lockJam, confirm := none, stamp := s.clock }))) ∧
    (∀ n, (s.pocket p).lock = .closing → s.requestAt p = none → s.relockOf p = some n → s.working n (.clearRelock p) →
      (∀ w, (s.pocket p).confirm = some w → exec (.lockConfirmWindowExpires p) s = .next (State.ended n .lockJam [] []
        (s.modPocket p fun k =>
          { k with lock := .jammed, fault := .lockJam, confirm := none, stamp := s.clock }))) ∧
      (∀ fault, fault = (if (s.pocket p).sensor = .present ∧ (s.pocket p).content = none then .unknownItem else .clear) →
        exec (.engagedConfirmation p) s = .next (State.startQueued (State.ended n .ok (le 1 (PocketFault.code fault)) []
          (s.modPocket p fun k => { k with lock := .locked, fault := fault, confirm := none, stamp := s.clock }))))) ∧
    (∀ r n w stow, s.requestAt p = some r → r.pocket = p → r.state = .opened → r.window = some w → r.owner = .slot n →
      s.working n (.stow stow) →
      ∃ t, exec (.requestWindowExpires p) s =
          .next (State.ended n .insertTimeout (t.stowResult stow false) [] t) ∧
        t = { s.releaseBack stow.tool with crib := t.crib } ∧
        t.pocket p = { s.pocket p with lock := .closing, confirm := some 250, stamp := s.clock } ∧
        t.crib.requests = s.crib.requests.map fun q =>
          if q.number = r.number then { q with state := .closing, window := none, outcome := some .windowExpired }
          else q) ∧
    (∀ r n w (closing : State → Prop), s.requestAt p = some r → r.pocket = p → r.state = .opened → r.window = some w →
      r.owner = .slot n →
      (∀ t, closing t ↔ t.pocket p = { s.pocket p with lock := .closing, confirm := some 250, stamp := s.clock } ∧
        (∀ q, q ≠ p → t.pocket q = s.pocket q) ∧ t.crib.requests = s.crib.requests.map fun q =>
          if q.number = r.number then { q with state := .closing, window := none, outcome := some .windowExpired }
          else q) →
      (∀ tool num, s.working n (.remove tool num) →
        ∃ t, exec (.requestWindowExpires p) s = .next (State.ended n .pickupTimeout [] [] t) ∧
          t = { s.releaseBack tool with crib := t.crib } ∧ closing t) ∧
      (∀ q num, s.working n (.clearOut q num) →
        ∃ t, exec (.requestWindowExpires p) s = .next (State.ended n .pickupTimeout [] [] t) ∧
          t = { s with crib := t.crib } ∧ closing t) ∧
      (∀ m, s.working n (.measure m) → m.phase = .fetching → m.pendingStatus = none → m.evaluation = none →
        ∃ t, exec (.requestWindowExpires p) s = .next t ∧ t.formedStatus n = some .pickupTimeout ∧ closing t ∧
          t.tools = (s.releaseBack m.tool).tools ∧ t.reports = s.reports ∧
          (∀ c, s.presetter.cycle = some c → c.owner = n → t.presetter = { s.presetter with cycle := none }) ∧
          ((∀ c, s.presetter.cycle = some c → c.owner ≠ n) → t.presetter = s.presetter)) ∧
      (∀ m m' e, s.working n (.measure m) → m.phase = .storing → m.evaluation = some e →
        m' = { m with store := none, storeResult := .notStored .windowExpired } →
        ∃ t, exec (.requestWindowExpires p) s =
            .next (State.ended n .ok (le 2 (t.measureRecord m').length) (t.measureRecord m') t) ∧
          t = { s with crib := t.crib, tools := t.tools } ∧ closing t ∧
          t.tools = s.tools.map fun y => if y.number = m.tool then y.release false e.verdict y.location else y)) ∧
    (∀ r n x cmd outcome status reports, s.requestAt p = some r → r.owner = .slot n → s.working n (.returning x) →
      (cmd = .lockConfirmWindowExpires p ∧ (s.pocket p).lock = .opening ∧ (s.pocket p).confirm.isSome = true ∧
          outcome = .lockJam ∧ status = .lockJam ∧ reports = (s.handReport
            (s.pocketFaultReport .lockJam p .jammed (s.pocket p).content (some r))).reports) ∨
        (cmd = .requestWindowExpires p ∧ r.pocket = p ∧ r.state = .opened ∧ r.window.isSome = true ∧
          outcome = .windowExpired ∧ status = .insertTimeout ∧ reports = s.reports) →
      ∃ t, exec cmd s = .next t ∧ t.reports = reports ∧
        (t.tools = s.tools.map fun y => if y.number = x.tool then y.release true y.before y.location else y) ∧
        (x.withdraw ≠ .pending → t.formedStatus n = some status) ∧
        (∀ d slot e, x.withdraw = .pending → x.withdrawTo = some (d, slot) →
          (s.cell d).queue.find? (fun e => e.owner == .slot n) = some e →
          (e.step ≠ .inFlight → t.formedStatus n = some status ∧ ∀ e' ∈ (t.cell d).queue, e'.owner ≠ .slot n) ∧
          (e.step = .inFlight → t.link.cells = s.link.cells ∧ ∃ x', t.work n = .returning x' ∧
            x'.outcome = some outcome ∧ x'.withdraw = .pending))) ∧
    (∀ r id i x w, s.requestAt p = some r → r.pocket = p → r.state = .opened → r.window = some w → r.owner = .issue id →
      s.openIndex id = some i → (s.issueRec i).issue = some x → (s.cell x.cell).queue.length < 16 →
      (s.cell x.cell).standing ≠ .cutOff →
      ∃ t, exec (.requestWindowExpires p) s = .next t ∧
        (t.issueRec i).issue = some
          { x with
            phase := .withdrawing, request := none, failure := some (x.failure.getD .pickupTimeout) } ∧
        t.tools = s.tools ∧ t.reports = s.reports ∧
        t.pocket p = { s.pocket p with lock := .closing, confirm := some 250, stamp := s.clock } ∧
        (t.cell x.cell).queue.length = (s.cell x.cell).queue.length + 1) ∧
    ((∀ r, s.requestAt p = some r → r.state ≠ .opened ∨ r.window = none) →
      exec (.requestWindowExpires p) s = .next s)

/-- Requests made. Vacant and stocked by their five and three conditions; what each attribute permits; the home pocket or the lowest
pocket for a STORE, the lowest RETURN_ONLY and then the lowest OPEN one for a RETURN_PUT; the checks of a removal in their order;
a request that passes has a free number, claims its pocket, and is OPENING with UNLOCK sent below the budget, else QUEUED, at
most 16, else CRIB_BUSY. A CLEAR_OUT needs an unknown item, else WRONG_STATE. An insertion goes to its destination, or is refused
NO_ROOM where there is none. While the count is below the budget the oldest queued request whose drawer permits its movement starts: request and pocket
OPENING, UNLOCK sent with its lock confirm window of 250 ms, the pocket stamped, nothing else changed; and so on until the budget
is used up or none is left that could start. -/
def Obligations.RequestsMade : Prop :=
  (∀ k : Pocket,
    (k.vacant = true ↔
      k.content = none ∧ k.sensor = .absent ∧ k.claim = none ∧ k.lock = .locked ∧ k.fault = .clear) ∧
    (k.stocked = true ↔ k.content.isSome = true ∧ k.sensor = .present ∧ k.fault = .clear)) ∧
  (∀ (a : Attribute) (mv : Movement), a.permits mv = true ↔
    mv = .clearOut ∨ a = .openAll ∨ (a = .issueOnly ∧ mv ≠ .returnPut) ∨
      (a = .returnOnly ∧ (mv = .returnPut ∨ mv = .fetch ∨ mv = .removeOut))) ∧
  ∀ s : State,
    (∀ (fits : PocketNo → Prop) (home : Option PocketNo),
      (∀ p, fits p ↔ (s.pocket p).vacant = true ∧ (s.attributeOf p).permits .store = true) →
      (∀ h, home = some h → fits h → s.storePocket home = some h) ∧
      ((∀ h, home = some h → ¬ fits h) →
        (∀ p, fits p → (∀ q < p, ¬ fits q) → s.storePocket home = some p) ∧
        ((∀ p, ¬ fits p) → s.storePocket home = none))) ∧
    (∀ fits : Attribute → PocketNo → Prop,
      (∀ a p, fits a p ↔ (s.pocket p).vacant = true ∧ s.attributeOf p = a) →
      (∀ p, fits .returnOnly p → (∀ q < p, ¬ fits .returnOnly q) → s.returnPocket = some p) ∧
      ((∀ q, ¬ fits .returnOnly q) →
        (∀ p, fits .openAll p → (∀ q < p, ¬ fits .openAll q) → s.returnPocket = some p) ∧
        ((∀ p, ¬ fits .openAll p) → s.returnPocket = none))) ∧
    (∀ (mv : Movement) (p : PocketNo) (owner : Owner), mv.inserts = false →
      ((s.attributeOf p).permits mv = false → s.requestRemoval mv p owner = (s, .denied .drawerDenies)) ∧
      ((s.attributeOf p).permits mv = true → (s.pocket p).claim.isSome = true →
        s.requestRemoval mv p owner = (s, .denied .busy)) ∧
      ((s.attributeOf p).permits mv = true → (s.pocket p).claim = none →
        (mv ≠ .clearOut → (s.pocket p).stocked = false → s.requestRemoval mv p owner = (s, .denied .notStocked)) ∧
        ((mv ≠ .clearOut ∧ (s.pocket p).stocked = true) ∨
            (mv = .clearOut ∧ (s.pocket p).fault = .unknownItem ∧ (s.pocket p).sensor = .present ∧
              (s.pocket p).content = none) →
          (s.crib.lockBudget ≤ s.budgetCount → 16 ≤ s.queuedCount →
            s.requestRemoval mv p owner = (s, .denied .cribBusy)) ∧
          (s.budgetCount < s.crib.lockBudget ∨ s.queuedCount < 16 → ∃ u num,
            s.requestRemoval mv p owner = (u, .made num p) ∧ s.requestMade u num mv p none owner)) ∧
        (mv = .clearOut → ¬ ((s.pocket p).fault = .unknownItem ∧ (s.pocket p).sensor = .present ∧
            (s.pocket p).content = none) →
          s.requestRemoval mv p owner = (s, .denied .wrongState)))) ∧
    (∀ (mv : Movement) (tool : Nat) (owner : Owner) (dest : Option PocketNo),
      (mv = .store ∧ dest = s.storePocket ((s.findTool tool).bind (·.home))) ∨
        (mv = .returnPut ∧ dest = s.returnPocket) →
      (dest = none → s.requestInsertion mv tool owner = (s, .denied .noRoom)) ∧
      ∀ p, dest = some p →
        (s.crib.lockBudget ≤ s.budgetCount → 16 ≤ s.queuedCount →
          s.requestInsertion mv tool owner = (s, .denied .cribBusy)) ∧
        (s.budgetCount < s.crib.lockBudget ∨ s.queuedCount < 16 → ∃ u num,
          s.requestInsertion mv tool owner = (u, .made num p) ∧ s.requestMade u num mv p (some tool) owner)) ∧
    (∀ (startable : Request → Prop), (∀ r, startable r ↔ r.state = .queued ∧
        (s.attributeOf r.pocket).permits r.movement = true) →
      (∀ before r after, s.budgetCount < s.crib.lockBudget → s.crib.requests = before ++ r :: after → startable r →
        (∀ q ∈ before, ¬ startable q) → ∀ t,
        t = State.modPocket r.pocket
          (fun k => { k with lock := .opening, confirm := some 250, stamp := s.clock })
          { s with crib := { s.crib with requests := s.crib.requests.map fun q =>
            if q.number = r.number then { q with state := .opening } else q } } →
        s.startOne = t ∧ s.startQueued = t.startQueued) ∧
      (s.crib.lockBudget ≤ s.budgetCount ∨ (∀ r ∈ s.crib.requests, ¬ startable r) →
        s.startOne = s ∧ s.startQueued = s)) ∧
    (s.startQueued.crib.lockBudget ≤ s.startQueued.budgetCount ∨
      ∀ r ∈ s.startQueued.crib.requests, r.state = .queued → (s.attributeOf r.pocket).permits r.movement = false)

/-- The expected change of a request in OPENING or OPEN: its window stops, RELOCK is sent, pocket and request are CLOSING, the
outcome SENSED. A removal other than CLEAR_OUT clears the content and makes the tool LOOSE, and ends a REMOVE OK with the
record deleted or takes an issue to TRANSIT; CLEAR_OUT clears the fault and ends its order; an insertion places the tool in
the pocket, and ends a STOW or a MEASURE in STORING with OK, the tool READY after a STORE where it meets the conditions of
READY; it gives a RETURN its outcome, which ends it OK unless its withdraw is PENDING. After an insertion the pocket names the
tool exactly when the tool is there: a MEASURE whose state before claim is ASTRAY leaves it ASTRAY at LOOSE and the content is
cleared with it, the model's choice (log 46). The state CLAIMED in the result of a REMOVE is the model's reading (log 15), and
so is the layout of the results (logs 9 and 11); the moment of the axes and the store fields of a MEASURE's record are its
choice (logs 47 and 51). -/
def Obligations.ExpectedChange : Prop :=
  ∀ (p : PocketNo) (s : State) (r : Request), s.order.formedNow = [] → s.crib.scanDone = true →
    s.requestAt p = some r → r.pocket = p → r.state = .opening ∨ r.state = .opened → ∀ requests,
    (requests = s.crib.requests.map fun q =>
      if q.number = r.number then { q with state := .closing, window := none, outcome := some .sensed } else q) →
    (r.movement.inserts = false → (s.pocket p).sensor = .present → ∀ crib,
      (crib = ({ s with crib := { s.crib with requests := requests } }.modPocket p fun k =>
        { k with
          sensor := .absent, content := if r.movement = Movement.clearOut then k.content else none
          fault := if r.movement = Movement.clearOut then .clear else k.fault
          lock := .closing, confirm := some 250, stamp := s.clock }).crib) →
      (∃ t, exec (.sensorRemoval p) s = .next t ∧ t.crib = crib) ∧
      (∀ n num, r.movement = .clearOut → r.owner = .slot n → s.working n (.clearOut p num) →
        exec (.sensorRemoval p) s = .next (State.ended n .ok (le 1 0) [] { s with crib := crib })) ∧
      (∀ n tool num, r.movement = .removeOut → r.owner = .slot n → s.working n (.remove tool num) →
        (s.pocket p).content = some tool →
        exec (.sensorRemoval p) s = .next (State.ended n .ok (le 2 tool ++ le 1 3) []
          { s with crib := crib, tools := s.tools.filter fun x => x.number != tool })) ∧
      (∀ id i x, r.movement = .issuePick → r.owner = .issue id → s.openIndex id = some i →
        (s.issueRec i).issue = some x → (s.pocket p).content = some x.tool →
        exec (.sensorRemoval p) s = .next
          ((State.modTool x.tool (fun y => { y with location := .loose, last := some (x.cell, x.slot) })
            { s with crib := crib }).modIssue i fun x =>
            { x with
              unlocked := some (x.unlocked.getD s.clock), removed := some s.clock, request := none, phase := .transit
              transit := some (60000 * s.issues.transitWindow) })) ∧
      (∀ n m, r.movement = .fetch → r.owner = .slot n → s.working n (.measure m) → m.phase = .fetching →
        m.pendingStatus = none → (s.pocket p).content = some m.tool →
        ∃ t, exec (.sensorRemoval p) s = .next t ∧
          t.work n = .measure { m with fetch := none, fetchOutcome := some .sensed, phase := .seating } ∧
          t = { s.modTool m.tool (fun y => { y with location := .loose }) with crib := crib, order := t.order })) ∧
    (r.movement.inserts = true → (s.pocket p).sensor = .absent → ∀ tool crib, r.tool = some tool →
      (crib = ({ s with crib := { s.crib with requests := requests } }.modPocket p fun k =>
        { k with
          sensor := .present, content := some tool, lock := .closing, confirm := some 250, stamp := s.clock }).crib) →
      ∀ (cleared : Crib) (sides : State → Prop),
      (cleared = (State.modPocket p (fun k => { k with content := none }) { s with crib := crib }).crib) →
      (∀ t, sides t ↔
        (((∃ y, t.findTool tool = some y ∧ y.location ≠ .pocket p) → t.crib = cleared) ∧
          ((∀ y, t.findTool tool = some y → y.location = .pocket p) → t.crib = crib))) →
      (∃ t, exec (.sensorInsertion p) s = .next t ∧ sides t ∧
        (∀ y, t.findTool tool = some y → ((t.pocket p).content = some tool ↔ y.location = .pocket p)) ∧
        ((∀ n, r.owner = .slot n → ∀ u num, s.work n ≠ .remove u num) → ∀ x, s.findTool tool = some x → ∃ y, t.findTool tool = some y ∧
          (x.stateBefore ≠ some .astray → y.location = .pocket p) ∧
          y.home = (if r.movement = .store then some (x.home.getD p) else x.home))) ∧
      (∀ n stow, r.movement = .returnPut → stow.movement = .returnPut → stow.tool = tool → stow.pocket = p →
        r.owner = .slot n → s.working n (.stow stow) →
        ∃ t, exec (.sensorInsertion p) s = .next (State.ended n .ok
            (le 1 1 ++ le 2 tool ++ le 1 2 ++ le 2 stow.request ++ le 2 p.val ++ t.toolAfter tool) [] t) ∧
          t = { s with crib := t.crib, tools := t.tools } ∧ sides t ∧
          ∀ x, s.findTool tool = some x → x.stateBefore ≠ some .astray → x.before ≠ .ready →
            t.findTool tool = some
              { x with
                claim := none, stateBefore := none, location := .pocket p
                state := if x.lifeEnded then .worn else x.before }) ∧
      (∀ n stow, r.movement = .store → stow.movement = .store → stow.tool = tool → stow.pocket = p →
        r.owner = .slot n → s.working n (.stow stow) →
        ∃ t, exec (.sensorInsertion p) s = .next (State.ended n .ok
            (le 1 1 ++ le 2 tool ++ le 1 1 ++ le 2 stow.request ++ le 2 p.val ++ t.toolAfter tool) [] t) ∧
          t = { s with crib := t.crib, tools := t.tools } ∧ sides t ∧
          ∀ x, s.findTool tool = some x → x.stateBefore ≠ some .astray → x.inTolerance = true → x.lifeUsed < x.lifeLimit →
            t.findTool tool = some
              { x with
                claim := none, stateBefore := none, location := .pocket p, home := some (x.home.getD p)
                state := .ready }) ∧
      (∀ n m m', r.owner = .slot n → s.working n (.measure m) → m.phase = .storing → m.tool = tool →
        m.evaluation.isSome = true → m.storeMovement = some r.movement →
        m' = { m with store := none, storeResult := .stored } →
        ∃ t, exec (.sensorInsertion p) s =
            .next (State.ended n .ok (le 2 (t.measureRecord m').length) (t.measureRecord m') t) ∧
          t = { s with crib := t.crib, tools := t.tools } ∧ sides t ∧
          (∀ x, s.findTool tool = some x → x.stateBefore = some .astray → t.crib = cleared ∧ t.findTool tool = some
            { x with
              claim := none, stateBefore := none, state := .astray, location := .loose
              home := if r.movement = .store then some (x.home.getD p) else x.home }) ∧
          ∀ x, s.findTool tool = some x → x.stateBefore ≠ some .astray →
            (r.movement = .store → x.inTolerance = true → x.lifeUsed < x.lifeLimit → t.findTool tool = some
              { x with
                claim := none, stateBefore := none, location := .pocket p, home := some (x.home.getD p)
                state := .ready }) ∧
            (r.movement = .returnPut → t.findTool tool = some
              { x with
                claim := none, stateBefore := none, location := .pocket p
                state := if x.lifeEnded then .worn else .quarantine })) ∧
      (∀ n w x y, r.movement = .returnPut → r.owner = .slot n → s.working n (.returning w) → w.tool = tool →
        s.findTool tool = some x →
        y = { x with
          claim := none, stateBefore := none, location := .pocket p
          state := if x.lifeEnded then .worn else .quarantine } →
        ∃ t, t = { s with crib := crib, tools := t.tools } ∧ t.findTool tool = some y ∧
          (w.withdraw = .pending → ∃ u, exec (.sensorInsertion p) s = .next u ∧ u = { t with order := u.order } ∧
            u.work n = .returning
              { w with
                outcome := some .sensed
                released := some
                  { lifeUsed := x.lifeUsed, warningSent := x.warningSent, lifeEnded := x.lifeEnded, state := y.state
                    location := .pocket p } }) ∧
          (w.withdraw ≠ .pending → exec (.sensorInsertion p) s = .next (State.ended n .ok
            (le 1 (presence [true, w.withdrawTo.isSome]) ++ le 2 tool ++ le 1 w.stateBefore.code ++ le 2 w.request ++
              le 1 MoveOutcome.sensed.code ++ le 2 w.pocket.val ++
              optField 2 (w.withdrawTo.map fun k => le 1 (k.1.val + 1) ++ le 1 k.2) ++ le 1 w.withdraw.code ++
              le 1 w.tries ++ flag w.acknowledged ++ le 2 x.lifeUsed ++ flag x.warningSent ++ flag x.lifeEnded ++
              le 1 y.state.code ++ locationField (.pocket p)) [] t))))

/-- Sensor changes that no request expects. Before the first scan they are kept for it; the first scan, taken once, gives every
pocket what its module or the latest early report says, ABSENT where the module is silent, and nothing else. In SETUP a change
sets sensor and stamp. In SERVICE a removal with content is a forced removal (FORCED unless LOCK_JAM, the tool LOOSE and ASTRAY
by state or by state before claim, no last cell, POCKET_FAULT), one without content sets the sensor; an insertion without content
is an unknown item (UNKNOWN_ITEM unless LOCK_JAM, POCKET_FAULT), one with content sets the sensor. A report that changes nothing
is no change (log 1). By the model's reading an early report stands in place of the module's word and the first scan stamps
nothing (log 26); tool and issue of a POCKET_FAULT are its choice (log 17). -/
def Obligations.SensorsWithoutRequest : Prop :=
  ∀ (p : PocketNo) (s : State), s.order.formedNow = [] →
    (∀ modules : Vector (Option Word) 16,
      (s.crib.scanDone = true → exec (.firstScan modules) s = .next s) ∧
      (s.crib.scanDone = false → ∃ t, exec (.firstScan modules) s = .next t ∧ t.crib.scanDone = true ∧
        t.crib.early = [] ∧
        (∀ q, t.pocket q = { s.pocket q with sensor :=
          match (s.crib.early.find? fun e => e.1 == q), modules.get (drawerOf q) with
          | some e, _ => e.2
          | none, some w => if w.getLsbD (q.val % 32) then .present else .absent
          | none, none => .absent }) ∧
        t = { s with crib := { s.crib with pockets := t.crib.pockets, scanDone := true, early := [] } })) ∧
    (s.crib.scanDone = false →
      exec (.sensorRemoval p) s = .next { s with crib :=
        { s.crib with early := (p, .absent) :: s.crib.early.filter fun e => e.1 != p } } ∧
      exec (.sensorInsertion p) s = .next { s with crib :=
        { s.crib with early := (p, .present) :: s.crib.early.filter fun e => e.1 != p } }) ∧
    (s.crib.scanDone = true →
      ((s.pocket p).sensor = .absent → exec (.sensorRemoval p) s = .next s) ∧
      ((s.pocket p).sensor = .present → exec (.sensorInsertion p) s = .next s) ∧
      ((s.pocket p).sensor = .present → (∀ r, s.requestAt p = some r →
          (r.state ≠ .opening ∧ r.state ≠ .opened) ∨ r.movement.inserts = true) →
        (s.order.service = .setup ∨ (s.pocket p).content = none →
          exec (.sensorRemoval p) s =
            .next (s.modPocket p fun k => { k with sensor := .absent, stamp := s.clock })) ∧
        (∀ tool, s.order.service = .service → (s.pocket p).content = some tool →
          exec (.sensorRemoval p) s = .next (State.handReport
            (s.pocketFaultReport .forced p (s.pocket p).lock (some tool) (s.requestAt p))
            ((s.modPocket p fun k =>
                { k with
                  sensor := .absent, content := none, stamp := s.clock
                  fault := if k.fault = .lockJam then .lockJam else .forced }).modTool tool fun x =>
              { x with
                location := .loose, last := none, state := if x.state = .claimed then .claimed else .astray
                stateBefore := if x.state = .claimed then some .astray else x.stateBefore })))) ∧
      ((s.pocket p).sensor = .absent → (∀ r, s.requestAt p = some r →
          (r.state ≠ .opening ∧ r.state ≠ .opened) ∨ r.movement.inserts = false) →
        (s.order.service = .setup ∨ (s.pocket p).content.isSome = true →
          exec (.sensorInsertion p) s =
            .next (s.modPocket p fun k => { k with sensor := .present, stamp := s.clock })) ∧
        (s.order.service = .service → (s.pocket p).content = none →
          exec (.sensorInsertion p) s = .next (State.handReport
            (s.pocketFaultReport .unknownItem p (s.pocket p).lock none (s.requestAt p))
            (s.modPocket p fun k =>
              { k with
                sensor := .present, stamp := s.clock
                fault := if k.fault = .lockJam then .lockJam else .unknownItem }))))) ∧
    (∀ reason lock tool r, s.pocketFaultReport reason p lock tool r =
      { kind := .pocketFault, held := false, bit1 := false
        bit2 := ((tool.bind s.findTool).map fun x => x.state == .claimed).getD false
        bit3 := false, cell := 0, issue := s.owningIssue tool r, stamp := 0, tool := tool.getD 0, code := reason.code
        count := 1
        detail := .plain (le 2 p.val ++ le 1 lock.code ++ le 2 ((r.map (·.number)).getD 0) ++
          le 1 ((r.map (·.movement.code)).getD 0xFF)) })

/-! ## The presetter station (R49 to R63, R74 to R77) -/

/-- A step of a scale counts, modulo 1048576, in every state of the axis and changes nothing else, but for two cases: in TOUCH
a counter at or above its soft limit ends the cycle OVERTRAVEL; a HOMED axis that leaves its range is LOST. A change of both
channels leaves the counter, makes a HOMING or HOMED axis LOST and changes nothing otherwise. A loss removes the reference,
with REFERENCE_LOST of cause AXIS_LOST if it was present, and ends the HOME that waits for the axis with AXIS_LOST. The index
mark sets a HOMING axis to 0 and HOMED, ending the HOME OK with the last, and is ignored otherwise; the home window ends a
HOME with HOME_TIMEOUT. A loss ends the cycle of a CALIBRATE or a MEASURE with AXIS_LOST, also by a step below 0 in TOUCH (log
49): a MEASURE in SEATING or TOUCHING ends, and one in FETCHING cancels its request and ends, its claim released with the
state before claim. The direction is the operand (log 37). The layout of the results (logs 9 and 10), the moment of the axes
in them (log 47), the axis states in REFERENCE_LOST, after the loss (log 48), that a HOME waits on where an axis is not
HOMED though none is HOMING (log 53), that the end of a HOME makes an axis UNHOMED that a second HOME made HOMING (log 55), and
that a home window that does not run expires without effect (log 1) are the model's. -/
def Obligations.ScaleAndIndexMark : Prop :=
  ∀ (a : Axis) (s : State), s.order.formedNow = [] →
    (∀ (up : Bool) (move : ScaleMove) (u : State), (move = if up then .up else .down) →
      u = s.modAxis a (fun x => { x with counter := if up then x.counter + 1 else x.counter - 1 }) →
      ((s.axis a).state ≠ .homed ∨ (s.axis a).counter.toNat ≠ (if up then 1048575 else 0) →
        ((∀ c, s.presetter.cycle = some c → c.state ≠ .touch) ∨
            (∀ b, (u.axis b).counter.toNat < (u.axis b).softLimit) →
          exec (.scaleStep a move) s = .next u) ∧
        (∀ c ml mr, s.presetter.cycle = some c → c.state = .touch → s.working c.owner (.calibrate ml mr) →
          (∃ b, (u.axis b).softLimit ≤ (u.axis b).counter.toNat) →
          exec (.scaleStep a move) s = .next (u.calibrateFailed c .overtravel)) ∧
        (∀ c m, s.presetter.cycle = some c → c.state = .touch → s.working c.owner (.measure m) → m.phase = .touching →
          (∃ b, (u.axis b).softLimit ≤ (u.axis b).counter.toNat) →
          ∃ t, exec (.scaleStep a move) s = .next t ∧ t.formedStatus c.owner = some .overtravel ∧
            t.presetter = { u.presetter with cycle := none } ∧ t.crib = s.crib ∧ t.reports = s.reports ∧
            ∀ x, s.findTool m.tool = some x → m.evaluation = none → x.before ≠ .ready → x.before ≠ .astray →
              t.findTool m.tool = some { x with claim := none, stateBefore := none, state := x.before })) ∧
      ((s.axis a).state = .homed → (s.axis a).counter.toNat = (if up then 1048575 else 0) → s.presetter.cycle = none →
        s.homesOf a = [] → ∀ v w, v = u.modAxis a (fun x => { x with state := .lost }) →
        (s.presetter.reference = none → w = v) →
        (∀ r, s.presetter.reference = some r →
          w = State.handReport
            { Report.blank .referenceLost with
              code := 2
              detail := .plain (le 1 (oneAxis a).code ++ le 2 r.generation ++ le 2 r.uses ++ v.presetter.axes.bytes) }
            { v with presetter := { v.presetter with reference := none } }) →
        exec (.scaleStep a move) s = .next w)) ∧
    ((s.axis a).state = .unhomed ∨ (s.axis a).state = .lost → exec (.scaleStep a .both) s = .next s) ∧
    (∀ (move : ScaleMove) (base v w : State) (c : Cycle),
      (move = .both ∧ base = s ∧ ((s.axis a).state = .homing ∨ (s.axis a).state = .homed)) ∨
        (move = .up ∧ (s.axis a).state = .homed ∧ (s.axis a).counter.toNat = 1048575 ∧
          base = s.modAxis a fun x => { x with counter := 0 }) ∨
        (move = .down ∧ (s.axis a).state = .homed ∧ (s.axis a).counter.toNat = 0 ∧
          base = s.modAxis a fun x => { x with counter := 1048575 }) →
      s.presetter.cycle = some c → s.homesOf a = [] →
      v = base.modAxis a (fun x => { x with state := .lost }) → (s.presetter.reference = none → w = v) →
      (∀ r, s.presetter.reference = some r →
        w = State.handReport
          { Report.blank .referenceLost with
            code := 2
            detail := .plain (le 1 (oneAxis a).code ++ le 2 r.generation ++ le 2 r.uses ++ v.presetter.axes.bytes) }
          { v with presetter := { v.presetter with reference := none } }) →
      (∀ ml mr, s.working c.owner (.calibrate ml mr) →
        exec (.scaleStep a move) s = .next (w.calibrateFailed c .axisLost)) ∧
      ∀ (m : MeasureCtx) (ends : State → Prop),
        (∀ t, ends t ↔ t.formedStatus c.owner = some .axisLost ∧
          t.presetter = { w.presetter with cycle := none } ∧ t.reports = w.reports ∧
          ∀ x, s.findTool m.tool = some x → m.evaluation = none → x.stateBefore ≠ some .astray →
            (x.before = .ready → x.meetsReady = true) →
            t.findTool m.tool = some { x with claim := none, stateBefore := none, state := x.before }) →
        s.working c.owner (.measure m) →
        (m.phase = .seating ∨ m.phase = .touching →
          ∃ t, exec (.scaleStep a move) s = .next t ∧ ends t ∧ t.crib = s.crib) ∧
        (∀ num r, m.phase = .fetching → m.pendingStatus = none → m.fetch = some num → s.findRequest num = some r →
          (r.state = .queued → ∃ t, exec (.scaleStep a move) s = .next t ∧ ends t ∧
            t.crib.requests = s.crib.requests.filter (fun q => q.number != r.number) ∧
            t.pocket r.pocket = { s.pocket r.pocket with claim := none }) ∧
          (r.state = .opening ∨ r.state = .opened → ∃ t, exec (.scaleStep a move) s = .next t ∧ ends t ∧
            t.crib.requests = s.crib.requests.map (fun q => if q.number = r.number then
              { q with state := .closing, window := none, outcome := some .cancelled } else q) ∧
            t.pocket r.pocket =
              { s.pocket r.pocket with lock := .closing, confirm := some 250, stamp := s.clock }))) ∧
    ((s.axis a).state = .homing ∨ (s.axis a).state = .homed → s.presetter.cycle = none → ∀ v,
      v = s.modAxis a (fun x => { x with state := .lost }) →
      (∀ w, s.homesOf a = [] → (s.presetter.reference = none → w = v) →
        (∀ r, s.presetter.reference = some r →
          w = State.handReport
            { Report.blank .referenceLost with
              code := 2
              detail := .plain (le 1 (oneAxis a).code ++ le 2 r.generation ++ le 2 r.uses ++ v.presetter.axes.bytes) }
            { v with presetter := { v.presetter with reference := none } }) →
        exec (.scaleStep a .both) s = .next w) ∧
      (∀ n axes fz fx w u, s.homesOf a = [n] → s.working n (.home axes fz fx w) → s.presetter.reference = none →
        u = v.unhome axes →
        exec (.scaleStep a .both) s = .next (State.ended n .axisLost
          (le 1 (if axes.z then fz.code else 0) ++ le 1 (if axes.x then fx.code else 0) ++ u.presetter.axes.bytes) [] u))) ∧
    ((s.axis a).state ≠ .homing → exec (.indexMark a) s = .next s) ∧
    ((s.axis a).state = .homing → ∀ n axes fz fx w u, s.homesOf a = [n] → s.working n (.home axes fz fx w) →
      u = s.modAxis a (fun x => { x with counter := 0, state := .homed }) →
      ((∀ b, axes.names b = true → (u.axis b).state = .homed) → exec (.indexMark a) s = .next (State.ended n .ok
        (le 1 (if axes.z then fz.code else 0) ++ le 1 (if axes.x then fx.code else 0) ++ u.presetter.axes.bytes) [] u)) ∧
      ((∃ b, axes.names b = true ∧ (u.axis b).state ≠ .homed) → exec (.indexMark a) s = .next u)) ∧
    (∀ n, (∀ axes fz fx w, s.work n ≠ .home axes fz fx w) → exec (.homeWindowExpires n) s = .next s) ∧
    (∀ n axes fz fx w u, s.working n (.home axes fz fx w) →
      u = { s with presetter :=
        { s.presetter with
          z := if axes.z = true ∧ s.presetter.z.state = .homing then { s.presetter.z with state := .unhomed }
            else s.presetter.z
          x := if axes.x = true ∧ s.presetter.x.state = .homing then { s.presetter.x with state := .unhomed }
            else s.presetter.x } } →
      exec (.homeWindowExpires n) s = .next (State.ended n .homeTimeout
        (le 1 (if axes.z then fz.code else 0) ++ le 1 (if axes.x then fx.code else 0) ++ u.presetter.axes.bytes) [] u))

/-- SEATED edges and the cycle's windows. A rising edge with no cycle in SEAT sets the level alone; in SEAT it takes the cycle to
TOUCH with empty lists and the touch window, and a MEASURE in SEATING to TOUCHING with its tool at PRESETTER; a MEASURE still in
FETCHING ends STATION_OCCUPIED; a counter at or beyond its soft limit then ends a CALIBRATE and a MEASURE in SEATING with
OVERTRAVEL, the tool at PRESETTER. A falling edge makes the tool at PRESETTER LOOSE and ends a cycle in TOUCH with SEAT_LOST. The
seat window ends a cycle in SEAT with SEAT_TIMEOUT, a MEASURE in FETCHING with its request cancelled, the touch window one in
TOUCH with TOUCH_TIMEOUT; where none runs nothing changes (log 1, the model's choice). An edge that repeats the level is taken
as an edge (log 56, its choice). That an early seat ends STATION_OCCUPIED whatever the counters is the model's reading (log 36), and so is the layout of the
record of a CALIBRATE (log 9); that it carries the axes at the end of the cycle is its choice (log 47). -/
def Obligations.SeatedEdgesAndWindows : Prop :=
  ∀ s : State, s.order.formedNow = [] →
    ((∀ c, s.presetter.cycle = some c → c.state ≠ .seat) →
      exec .seatedRisingEdge s = .next { s with presetter := { s.presetter with seated := true } } ∧
      exec .seatWindowExpires s = .next s) ∧
    ((∀ c, s.presetter.cycle = some c → c.state ≠ .touch) →
      exec .seatedFallingEdge s = .next
        { s with
          presetter := { s.presetter with seated := false }
          tools := s.tools.map fun x => if x.location = .presetter then { x with location := .loose } else x } ∧
      exec .touchWindowExpires s = .next s) ∧
    (∀ c, s.presetter.cycle = some c → c.state = .seat → ∀ touching,
      touching =
        { s.presetter with
          seated := true, z := { s.presetter.z with captures := [], bounce := none }
          x := { s.presetter.x with captures := [], bounce := none }
          cycle := some { c with
            state := .touch, seatTimer := none, touchTimer := some (1000 * c.touchLength) } } →
      (∀ ml mr, s.working c.owner (.calibrate ml mr) →
        ((∀ a, (s.axis a).counter.toNat < (s.axis a).softLimit) →
          exec .seatedRisingEdge s = .next { s with presetter := touching }) ∧
        ((∃ a, (s.axis a).softLimit ≤ (s.axis a).counter.toNat) →
          exec .seatedRisingEdge s =
            .next (State.calibrateFailed { c with state := .touch } .overtravel { s with presetter := touching })) ∧
        exec .seatWindowExpires s = .next (s.calibrateFailed c .seatTimeout)) ∧
      (∀ m, s.working c.owner (.measure m) →
        (m.phase = .seating → (∀ a, (s.axis a).counter.toNat < (s.axis a).softLimit) →
          ∃ t, exec .seatedRisingEdge s = .next t ∧ t.work c.owner = .measure { m with phase := .touching } ∧
            t = { s.modTool m.tool (fun x => { x with location := .presetter }) with
              presetter := touching, order := t.order }) ∧
        (m.phase = .seating → (∃ a, (s.axis a).softLimit ≤ (s.axis a).counter.toNat) →
          ∃ t, exec .seatedRisingEdge s = .next t ∧ t.formedStatus c.owner = some .overtravel ∧
            t.presetter = { touching with cycle := none } ∧ t.crib = s.crib ∧ t.reports = s.reports ∧
            ∀ x, s.findTool m.tool = some x → m.evaluation = none → x.before ≠ .ready → x.before ≠ .astray →
              t.findTool m.tool = some
                { x with claim := none, stateBefore := none, state := x.before, location := .presetter }) ∧
        (m.phase = .seating → ∃ t, exec .seatWindowExpires s = .next t ∧ t.formedStatus c.owner = some .seatTimeout ∧
          t.presetter = { s.presetter with cycle := none } ∧ t.crib = s.crib ∧ t.reports = s.reports ∧
          ∀ x, s.findTool m.tool = some x → m.evaluation = none → x.before ≠ .ready → x.before ≠ .astray →
            t.findTool m.tool = some { x with claim := none, stateBefore := none, state := x.before }) ∧
        (∀ num r (ends : State → Prop), m.phase = .fetching → m.pendingStatus = none → m.fetch = some num →
          s.findRequest num = some r →
          (∀ t, ends t ↔ t.formedStatus c.owner = some .seatTimeout ∧
            t.presetter = { s.presetter with cycle := none } ∧ t.reports = s.reports ∧
            ∀ x, s.findTool m.tool = some x → m.evaluation = none → x.before ≠ .ready → x.before ≠ .astray →
              t.findTool m.tool = some { x with claim := none, stateBefore := none, state := x.before }) →
          (r.state = .queued → ∃ t, exec .seatWindowExpires s = .next t ∧ ends t ∧
            t.crib.requests = s.crib.requests.filter (fun q => q.number != r.number) ∧
            t.pocket r.pocket = { s.pocket r.pocket with claim := none }) ∧
          (r.state = .opening ∨ r.state = .opened → ∃ t, exec .seatWindowExpires s = .next t ∧ ends t ∧
            t.crib.requests = s.crib.requests.map (fun q => if q.number = r.number then
              { q with state := .closing, window := none, outcome := some .cancelled } else q) ∧
            t.pocket r.pocket =
              { s.pocket r.pocket with lock := .closing, confirm := some 250, stamp := s.clock })) ∧
        (∀ num r, m.phase = .fetching → m.fetch = some num → s.findRequest num = some r →
          r.state = .queued ∨ r.state = .opening ∨ r.state = .opened →
          ∃ t, exec .seatedRisingEdge s = .next t ∧ t.formedStatus c.owner = some .stationOccupied ∧
            t.presetter.cycle = none ∧ t.presetter.seated = true))) ∧
    (∀ c, s.presetter.cycle = some c → c.state = .touch →
      (∀ ml mr, s.working c.owner (.calibrate ml mr) →
        exec .seatedFallingEdge s = .next (State.calibrateFailed c .seatLost
          { s with
            presetter := { s.presetter with seated := false }
            tools := s.tools.map fun x => if x.location = .presetter then { x with location := .loose } else x }) ∧
        exec .touchWindowExpires s = .next (s.calibrateFailed c .touchTimeout)) ∧
      (∀ m, s.working c.owner (.measure m) → m.phase = .touching →
        (∃ t, exec .touchWindowExpires s = .next t ∧ t.formedStatus c.owner = some .touchTimeout ∧
          t.presetter = { s.presetter with cycle := none }) ∧
        (∃ t, exec .seatedFallingEdge s = .next t ∧ t.formedStatus c.owner = some .seatLost ∧
          t.presetter = { s.presetter with seated := false, cycle := none } ∧
          ∀ x, s.findTool m.tool = some x → x.location = .presetter → ∃ y, t.findTool m.tool = some y ∧
            y.location = .loose ∧ y.geometry = x.geometry)))

/-- A touch edge is ignored outside TOUCH and within 50 ms of an accepted one on its input (log 25); accepted, it bars its input for
50 ms and captures the counter while the list is short. When both lists are full the cycle evaluates: means rounded half up,
spreads; a spread above the limit ends SPREAD; else a CALIBRATE stores a new reference and ends OK, and a MEASURE writes the
geometry, sets the out-of-tolerance flag and counts a use of the reference. The record of a CALIBRATE has the model's layout (log 9)
and carries the axes at the end of the cycle, by the model's choice (log 47). -/
def Obligations.TouchEdge : Prop :=
  (∀ (captures : List Nat) (touches lo hi : Nat),
    meanOf captures touches = (captures.sum + touches / 2) / touches ∧
    (lo ∈ captures → hi ∈ captures → (∀ v ∈ captures, lo ≤ v ∧ v ≤ hi) → spreadOf captures = hi - lo)) ∧
  ∀ (a : Axis) (s : State), s.order.formedNow = [] →
    ((∀ c, s.presetter.cycle = some c → c.state ≠ .touch) ∨ (s.axis a).bounce.isSome = true →
      exec (.touchEdge a) s = .next s) ∧
    (∀ c u, s.presetter.cycle = some c → c.state = .touch → (s.axis a).bounce = none →
      u = s.modAxis a (fun x =>
        { x with
          bounce := some 50
          captures := if x.captures.length < c.touches then x.captures ++ [x.counter.toNat] else x.captures }) →
      (u.presetter.z.captures.length ≠ c.touches ∨ u.presetter.x.captures.length ≠ c.touches →
        exec (.touchEdge a) s = .next u) ∧
      (u.presetter.z.captures.length = c.touches → u.presetter.x.captures.length = c.touches → ∀ means,
        means =
          { zMean := meanOf u.presetter.z.captures c.touches, xMean := meanOf u.presetter.x.captures c.touches
            zSpread := spreadOf u.presetter.z.captures, xSpread := spreadOf u.presetter.x.captures } →
        (∀ ml mr, s.working c.owner (.calibrate ml mr) → ∀ outcome : CycleOutcome,
          outcome =
            { fault := if c.spreadLimit < means.zSpread ∨ c.spreadLimit < means.xSpread then some .spread else none
              zCaptures := u.presetter.z.captures, xCaptures := u.presetter.x.captures, means := some means
              axes := u.presetter.axes } →
          (c.spreadLimit < means.zSpread ∨ c.spreadLimit < means.xSpread →
            exec (.touchEdge a) s = .next (State.ended c.owner .spread
              (le 2 (calibrateRecord outcome none).length) (calibrateRecord outcome none)
              { u with presetter := { u.presetter with cycle := none } })) ∧
          (means.zSpread ≤ c.spreadLimit → means.xSpread ≤ c.spreadLimit → ∀ ref : Reference,
            ref =
              { refZ := (means.zMean : Int) - ml, refX := (means.xMean : Int) - mr
                generation := if 65535 ≤ s.presetter.generation then 1 else s.presetter.generation + 1
                uses := 0, stamp := s.clock } →
            exec (.touchEdge a) s = .next (State.ended c.owner .ok
              (le 2 (calibrateRecord outcome (some ref)).length) (calibrateRecord outcome (some ref))
              { u with presetter :=
                { u.presetter with cycle := none, generation := ref.generation, reference := some ref } }))) ∧
        (∀ m y r, s.working c.owner (.measure m) → m.phase = .touching → s.findTool m.tool = some y →
          s.presetter.reference = some r →
          (c.spreadLimit < means.zSpread ∨ c.spreadLimit < means.xSpread →
            ∃ t, exec (.touchEdge a) s = .next t ∧ t.formedStatus c.owner = some .spread ∧
              t.presetter = { u.presetter with cycle := none }) ∧
          (means.zSpread ≤ c.spreadLimit → means.xSpread ≤ c.spreadLimit → ∀ length radius,
            length = (means.zMean : Int) - r.refZ → radius = (means.xMean : Int) - r.refX →
            ∃ t z, exec (.touchEdge a) s = .next t ∧ t.findTool m.tool = some z ∧
              z.geometry = some { length := length, radius := radius, stamp := s.clock, generation := r.generation } ∧
              z.outOfTol = decide (¬ ((length - y.nominalLength).natAbs ≤ y.lengthTol ∧
                (radius - y.nominalRadius).natAbs ≤ y.radiusTol)) ∧
              t.presetter =
                { u.presetter with cycle := none, reference := some { r with uses := min 256 (r.uses + 1) } } ∧
              (∀ m', t.work c.owner = .measure m' → m'.phase = .storing ∧ m'.storeMovement =
                some (if z.outOfTol = false ∧ y.lifeUsed < y.lifeLimit then .store else .returnPut)) ∧
              ((∀ m', t.work c.owner ≠ .measure m') → t.formedStatus c.owner = some .ok)))))

/-! ## Frames from the cells (R84 to R92, R98, R99, R114, R118, R121, R122, R127 to R131, R140, R141, R143 to R148, R152 to R158) -/

/-- A frame joins the receive queue with its source, kind, payload and the clock, and the part drives its acknowledgement slot
dominant, with LNE asserted, exactly when its bits, stuffing and check are good, its destination is 0, its source a cell, the link
ACTIVE, the cell enabled, kind and length known, a CUT_OFF cell sends PRESENT, the queue holds fewer than 8, the service state is
SERVICE, and in the stall the kind is an answer. Of any other frame the slot is left recessive and nothing else changes. How long
State holds the slot, that a frame is taken also during an attempt of the part itself, and that five equal bits at the end may
lack their stuffing bit, are the model's choice (logs 44, 60 and 61). -/
def Obligations.FrameReceived : Prop :=
  ∀ (line : List Bool) (s dropped : State), dropped = { s with link := { s.link with slotDriven := false } } →
    (parseLine line = none → exec (.frameReceived line) s = .next dropped) ∧
    (∀ f, parseLine line = some f →
      (f.source = 0 ∨ 24 < f.source → exec (.frameReceived line) s = .next dropped) ∧
      (∀ (c : CellNo) (good : Prop), f.source = c.val + 1 →
        (good ↔ f.dest = 0 ∧ s.link.state = .active ∧ (s.cell c).enabled = true ∧
          cellFrameLength f.kind = some f.payload.length ∧ ((s.cell c).standing = .cutOff → f.kind = 0x17) ∧
          s.link.rx.length < 8 ∧ s.order.service = .service ∧
          (s.reports.stalled = true → f.kind = 0x11 ∨ f.kind = 0x12 ∨ f.kind = 0x13 ∨ f.kind = 0x17)) →
        (good → ∃ t, exec (.frameReceived line) s = .next t ∧ t.drivesLine = true ∧
          (s.link.attempt = none → t.drivenLevels = [false]) ∧
          t = { s with link :=
            { s.link with
              slotDriven := true
              rx := s.link.rx ++ [{ source := c, kind := f.kind, payload := f.payload, stamp := s.clock }] } }) ∧
        (¬ good → exec (.frameReceived line) s = .next dropped)))

/-- The checks of a request in their order, rights as the table gives them, the tool by number or by class, always READY in a
pocket that may be issued from, and a TOOL_REQUEST handed on: a repeat changes nothing; an accepted one opens the lowest free
issue and claims its tool; a failed check queues a DENY and writes REQUEST_DENIED, whose mode byte of 0 or 1 and zero fields are
the model's reading (log 38). A frame that is not the oldest of its kind is no event (log 1). -/
def Obligations.ToolRequest : Prop :=
  (∀ (a : Ask) (s : State), s.acceptCheck a =
    if a.fromCell = true ∧ s.order.service = .setup then some .notInService
    else if (s.cell a.cell).enabled = false then some .cellDisabled
    else if (s.cell a.cell).standing = .weak then some .cellWeak
    else if (s.cell a.cell).standing = .cutOff then some .cellCutOff
    else if a.fromCell = true ∧ s.askAllowed a = false then some .noRight
    else if a.slot = 0 ∨ (s.cell a.cell).magSize < a.slot then some .badSlot
    else if ∀ i, (s.issueRec i).issue.isSome = true then some .issueListFull
    else if (s.cell a.cell).issueLimit ≤ s.openCount a.cell then some .cellLimit
    else if ∃ i, ((s.issueRec i).issue.any fun x => x.cell == a.cell && x.slot == a.slot) = true then some .slotPending
    else if ∃ x ∈ s.tools, x.occupies a.cell a.slot = true then some .slotOccupied
    else none) ∧
  (∀ (c : CellNo) (k : Option Nat) (p : Permission) (s : State), s.allowed c k p = true ↔
    ∃ i : Fin 16, (s.link.rights.get i).enabled = true ∧ (s.link.rights.get i).cells.getLsbD c.val = true ∧
      (∀ cls, k = some cls →
        (BitVec.ofNat 8 cls ^^^ (s.link.rights.get i).value) &&& (s.link.rights.get i).mask = 0) ∧
      (s.link.rights.get i).perms.grants p = true) ∧
  (∀ (p : PocketNo) (s : State), s.issuable p = true ↔
    (s.pocket p).stocked = true ∧ (s.pocket p).claim = none ∧ (s.attributeOf p).permits .issuePick = true) ∧
  (∀ (a : Ask) (s : State),
    (∀ reason, s.acceptCheck a = some reason → s.acceptIssue a = .error reason) ∧
    (s.acceptCheck a = none → ∀ reason, s.selectTool a = .error reason → s.acceptIssue a = .error reason) ∧
    (∀ k, a.byClass = some k → s.selectTool a = s.selectByClass k) ∧
    (a.byClass = none → s.selectTool a = s.selectByNumber a.tool)) ∧
  (∀ (t : Nat) (s : State),
    (s.findTool t = none → s.selectByNumber t = .error .unknownTool) ∧
    ∀ x, s.findTool t = some x →
      (x.state = .claimed → s.selectByNumber t = .error .busy) ∧
      (x.state ≠ .claimed → x.state ≠ .ready → s.selectByNumber t = .error .notReady) ∧
      (x.state = .ready →
        ((∃ p, x.location = .pocket p ∧ s.issuable p = true) → s.selectByNumber t = .ok t) ∧
        ((∀ p, x.location = .pocket p → s.issuable p = false) → s.selectByNumber t = .error .notStocked))) ∧
  (∀ (k : Nat) (s : State),
    (k = 0 ∨ ∀ x ∈ s.tools, x.cls = k → x.state = .ready → ∀ p, x.location = .pocket p → s.issuable p = false) →
    s.selectByClass k = .error .noneReady) ∧
  (∀ (k : Nat) (s : State) (x : Tool) (p : PocketNo), k ≠ 0 → x ∈ s.tools → x.cls = k → x.state = .ready →
    x.location = .pocket p → s.issuable p = true → ∃ t, s.selectByClass k = .ok t) ∧
  (∀ (k t : Nat) (s : State), s.tools.Pairwise (fun x y => x.number < y.number) → s.selectByClass k = .ok t →
    ∃ x ∈ s.tools, x.number = t ∧ x.cls = k ∧ k ≠ 0 ∧ x.state = .ready ∧
      (∃ p, x.location = .pocket p ∧ s.issuable p = true) ∧
      ∀ y ∈ s.tools, y.cls = k → y.state = .ready → (∃ p, y.location = .pocket p ∧ s.issuable p = true) →
        y.remaining < x.remaining ∨ (y.remaining = x.remaining ∧ x.number ≤ y.number)) ∧
  ∀ (f : RxFrame) (rest : List RxFrame) (s s' : State) (a : Ask), s.handsOn 0x10 f rest →
    s' = { s with link := { s.link with rx := rest } } →
    a = { cell := f.source, slot := f.field 4 1, origin := .cell (f.field 0 1)
          byClass := if f.field 1 1 = 1 then some (f.field 2 2 % 256) else none
          tool := if f.field 1 1 = 1 then 0 else f.field 2 2 } →
    ((∃ i x, (s.issueRec i).issue = some x ∧ x.origin = a.origin ∧ x.cell = a.cell) →
      exec .toolRequest s = .next s') ∧
    ((∀ i x, (s.issueRec i).issue = some x → x.origin = a.origin → x.cell ≠ a.cell) →
      (∀ reason u queued, s'.acceptIssue a = .error reason →
        s'.queueDeny a.cell .requestRef (f.field 0 1) reason .issueManager = (u, queued) →
        exec .toolRequest s = .next (u.handReport
          { Report.blank .requestDenied with
            cell := a.cell.val + 1, tool := a.tool, code := reason.code, bit1 := queued
            detail := .plain (le 1 0x10 ++ le 1 (f.field 0 1) ++ flag (f.field 1 1 = 1) ++
              le 1 (a.byClass.getD 0) ++ le 1 a.slot ++ le 2 0) })) ∧
      (∀ t, s'.acceptIssue a = .ok t → exec .toolRequest s = .next t ∧
        ∀ tool y i, s.selectTool a = .ok tool → s.findTool tool = some y → s.freeIssue = some i →
          (s.cell a.cell).queue.length < 16 →
          (t.issueRec i).issue = some (newIssue a tool (y.pocket?.getD 0) s.clock) ∧
          t.findTool tool = some
            { y with
              state := .claimed, stateBefore := some y.state, claim := some (.issue (s.issueId i)) } ∧
          (t.cell a.cell).queue.length = (s.cell a.cell).queue.length + 1)) ∧
    (∀ kind, s.link.rx.head?.map (·.kind) = some kind → kind ≠ 0x14 → exec .mounted s = .next s)

/-- MOUNTED handed on: an issue in TRANSIT of this cell, tool and slot closes MOUNTED, the tool OUT at the cell with one more
issue; an ASTRAY tool with this last cell and slot is OUT by LATE_MOUNT; a tool OUT there is a repeat; anything else queues a
DENY NO_ISSUE and writes MOUNT_REJECTED. A CANCEL frame of no open issue of its cell is denied NO_ISSUE, one of an issue in
TRANSIT TOO_LATE, in WITHDRAWING NOT_CANCELLABLE, each with REQUEST_DENIED; any other is taken with no report of its own. In
OFFER_WAIT with the offer in flight it sets cancel pending, with a cancel pending already it changes nothing, and an offer not
in flight is recalled: never acknowledged, the issue closes CANCELLED; acknowledged, it withdraws with offer outcome UNKNOWN.
In UNLOCK_WAIT or PICKUP its request is cancelled (removed when QUEUED, else relocked and CLOSING) and it withdraws, or closes
where the WITHDRAW is refused. The zero fields of that REQUEST_DENIED are the model's reading (log 38). -/
def Obligations.MountedAndCancelFrame : Prop :=
  ∀ (f : RxFrame) (rest : List RxFrame) (s s' : State), s' = { s with link := { s.link with rx := rest } } →
    (s.handsOn 0x14 f rest → ∀ c t m, c = f.source → t = f.field 0 2 → m = f.field 2 1 →
      (∀ i x y, (s.issueRec i).issue = some x → x.phase = .transit → x.cell = c → x.tool = t → x.slot = m →
        (∀ j < i, ∀ z, (s.issueRec j).issue = some z → z.phase = .transit → z.cell = c → z.tool = t → z.slot ≠ m) →
        s.findTool t = some y → y.stateBefore ≠ some .astray → ∃ u, exec .mounted s = .next u ∧
          (u.issueRec i).issue = none ∧ (u.issueRec i).generation =
            (if i.val = 31 ∧ (s.issueRec i).generation.val = 6 then 0 else (s.issueRec i).generation + 1) ∧
          u.findTool t = some
            { y with
              claim := none, stateBefore := none, state := .out, location := .cell c m
              issueCount := min 65535 (y.issueCount + 1) } ∧
          (∀ ref, x.origin = .cell ref → ∃ w : State, w.findTool t = u.findTool t ∧
            w = { s' with tools := w.tools } ∧ u = (w.handReport
              (w.issueClosedReport (s.issueId i) { x with closed := some s.clock } ref .mounted)).freeRecord i) ∧
          (∀ n, x.origin = .order n → s.working n (.issue (s.issueId i)) → u.formedStatus n = some .mounted)) ∧
      ((∀ i x, (s.issueRec i).issue = some x → x.phase = .transit → x.cell = c → x.tool = t → x.slot ≠ m) →
        (∀ x, s.findTool t = some x → x.state = .astray → x.last = some (c, m) →
          exec .mounted s = .next ((s'.modTool t fun y =>
              { y with state := .out, location := .cell c m, issueCount := min 65535 (y.issueCount + 1) }).handReport
            { Report.blank .lateMount with
              cell := c.val + 1, tool := t
              detail := .plain (le 1 m ++ le 2 (min 65535 (x.issueCount + 1))) })) ∧
        (∀ x, s.findTool t = some x → x.state = .out → x.location = .cell c m → exec .mounted s = .next s') ∧
        ((∀ x, s.findTool t = some x → ¬ (x.state = .astray ∧ x.last = some (c, m)) ∧
            ¬ (x.state = .out ∧ x.location = .cell c m)) →
          ∀ u queued, s'.queueDeny c .tool t .noIssue .issueManager = (u, queued) →
          exec .mounted s = .next (u.handReport
            { Report.blank .mountRejected with
              cell := c.val + 1, tool := t, code := 0x11, bit1 := queued
              detail := .plain (le 1 m ++ le 1 (((s.findTool t).map (·.state.code)).getD 0xFF)) })))) ∧
    (s.handsOn 0x18 f rest → ∀ c id, c = f.source → id = f.field 0 1 →
      (∀ reason u queued,
        ((reason = .noIssue ∧ ∀ i x, s.openIndex id = some i → (s.issueRec i).issue = some x → x.cell ≠ c) ∨
          (reason = .tooLate ∧ ∃ i x, s.openIndex id = some i ∧ (s.issueRec i).issue = some x ∧ x.cell = c ∧
            x.phase = .transit) ∨
          (reason = .notCancellable ∧ ∃ i x, s.openIndex id = some i ∧ (s.issueRec i).issue = some x ∧ x.cell = c ∧
            x.phase = .withdrawing)) →
        s'.queueDeny c .issueId id reason .issueManager = (u, queued) →
        exec .cancelFrame s = .next (u.handReport
          { Report.blank .requestDenied with
            cell := c.val + 1, issue := id, code := reason.code, bit1 := queued, detail := .plain (le 1 0x18) })) ∧
      (∀ i x, s.openIndex id = some i → (s.issueRec i).issue = some x → x.cell = c →
        ∀ (result : Status) (withdrawing : Issue) (withdraws : State → Prop), result = x.failure.getD .cancelled →
        withdrawing = { x with phase := .withdrawing, request := none, failure := some result } →
        (∀ t, withdraws t ↔ t.tools = s.tools ∧ t.reports = s.reports ∧ t.order = s.order ∧
          ∃ e ∈ (t.cell c).queue, e.payload = .withdraw id x.tool x.slot ∧ e.owner = .issue id) →
        (x.phase = .offerWait → x.cancelPending = true → exec .cancelFrame s = .next s') ∧
        (∀ e, x.phase = .offerWait → x.cancelPending = false →
          (s.cell c).queue.find? (fun e => e.owner == .issue id) = some e →
          (e.step = .inFlight → exec .cancelFrame s = .next (s'.modIssue i fun x =>
            { x with failure := some result, cancelPending := true })) ∧
          (e.step ≠ .inFlight → e.acknowledged = false → ∃ t, exec .cancelFrame s = .next t ∧ t.crib = s.crib ∧
            (t.issueRec i).issue = none ∧ (∀ e' ∈ (t.cell c).queue, e'.owner ≠ .issue id) ∧
            (∀ y, s.findTool x.tool = some y → result ≠ .mounted → result ≠ .astray →
              y.stateBefore ≠ some .astray → y.meetsReady = true →
              t.findTool x.tool = some { y with claim := none, stateBefore := none, state := .ready }) ∧
            (∀ ref, x.origin = .cell ref → ∃ w : State, w.clock = s.clock ∧ w.reports = s.reports ∧ w.tools = t.tools ∧
              t = (w.handReport (w.issueClosedReport id
                { x with
                  deferrals := e.deferrals, withdraw := .notSent, failure := some result
                  closed := some s.clock } ref result)).freeRecord i) ∧
            (∀ k, x.origin = .order k → s.working k (.issue id) →
              t.formedStatus k = some result ∧ t.reports = s.reports)) ∧
          (e.step ≠ .inFlight → e.acknowledged = true → (s.cell c).queue.length ≤ 16 → (s.cell c).standing ≠ .cutOff →
            ∃ t, exec .cancelFrame s = .next t ∧ t.crib = s.crib ∧ withdraws t ∧
              (t.issueRec i).issue = some { withdrawing with deferrals := e.deferrals, offer := .unknown })) ∧
        (∀ num r, x.phase = .unlockWait ∨ x.phase = .pickup → x.request = some num → s.findRequest num = some r →
          r.state = .queued ∨ r.state = .opening ∨ r.state = .opened → ∃ t, exec .cancelFrame s = .next t ∧
          (r.state = .queued → t.crib.requests = s.crib.requests.filter (fun q => q.number != r.number) ∧
            t.pocket r.pocket = { s.pocket r.pocket with claim := none }) ∧
          (r.state = .opening ∨ r.state = .opened →
            t.crib.requests = s.crib.requests.map (fun q => if q.number = r.number then
              { q with state := .closing, window := none, outcome := some .cancelled } else q) ∧
            t.pocket r.pocket =
              { s.pocket r.pocket with lock := .closing, confirm := some 250, stamp := s.clock }) ∧
          ((s.cell c).queue.length < 16 → (s.cell c).standing ≠ .cutOff →
            (t.issueRec i).issue = some withdrawing ∧ withdraws t) ∧
          (16 ≤ (s.cell c).queue.length ∨ (s.cell c).standing = .cutOff →
            (t.issueRec i).issue = none ∧ t.link.cells = s.link.cells))))

/-- USAGE handed on, for a tool OUT at the sending cell (unclaimed, or claimed by a RETURN and OUT before): an increment of 0
changes nothing; another is added, saturating; the warning flag is set at the threshold with LIFE_WARNING, the ended flag at
the limit with LIFE_END, and a LIFE_END exchange is queued or LIFE_END_UNDELIVERED written. Any other USAGE changes no record:
a DENY NOT_MOUNTED and USAGE_REJECTED, whose location kind 0FFh and zero place and last cell for a tool without a record are
the model's choice (log 18). -/
def Obligations.Usage : Prop :=
  ∀ (f : RxFrame) (rest : List RxFrame) (s s' : State), s.handsOn 0x15 f rest →
    s' = { s with link := { s.link with rx := rest } } → ∀ c t n, c = f.source → t = f.field 0 2 → n = f.field 2 2 →
    (∀ x m, s.findTool t = some x → x.location = .cell c m →
      x.state = .out ∨ (x.state = .claimed ∧ x.stateBefore = some .out ∧
        ∃ k r, x.claim = some (.slot k) ∧ s.work k = .returning r) →
      (n = 0 → exec .usage s = .next s') ∧
      (n ≠ 0 → ∀ used warns ends y, used = min 65535 (x.lifeUsed + n) →
        (warns = true ↔ x.warningSent = false ∧ max 1 (x.lifeLimit * x.warnPercent / 100) ≤ used) →
        (ends = true ↔ x.lifeEnded = false ∧ x.lifeLimit ≤ used) →
        y = { x with lifeUsed := used, warningSent := x.warningSent || warns, lifeEnded := x.lifeEnded || ends } →
        ∃ w v : State, w.findTool t = some y ∧ w = { s' with tools := w.tools } ∧
          v = (fun z : State => if ends then z.handReport
              { Report.blank .lifeEnd with
                cell := c.val + 1, tool := t, bit1 := true
                detail := .plain (le 2 used ++ le 2 x.lifeLimit ++ le 1 x.lifeUnit.code) } else z)
            (if warns then w.handReport
              { Report.blank .lifeWarning with
                cell := c.val + 1, tool := t
                detail := .plain (le 2 used ++ le 2 x.lifeLimit ++
                  le 2 (max 1 (x.lifeLimit * x.warnPercent / 100)) ++ le 1 x.lifeUnit.code) } else w) ∧
          (ends = false → exec .usage s = .next v) ∧
          (ends = true → ∀ u refusal, v.queueExchange c (.lifeEnd t) .lifeHandler = (u, refusal) →
            (refusal = none → exec .usage s = .next u) ∧
            (∀ why, refusal = some why → exec .usage s = .next (u.handReport
              { Report.blank .lifeEndUndelivered with
                cell := c.val + 1, tool := t, code := if why = .queueFull then 1 else 2
                detail := .plain (le 1 0) }))))) ∧
    ((∀ x, s.findTool t = some x → s.considered x ≠ some .out ∨ ∀ m, x.location ≠ .cell c m) →
      ∀ u queued, s'.queueDeny c .tool t .notMounted .lifeHandler = (u, queued) →
      exec .usage s = .next (u.handReport
        { Report.blank .usageRejected with
          cell := c.val + 1, tool := t, code := 0x10, bit1 := queued
          detail := .plain (le 2 n ++ rejectedDetail (s.findTool t)) }))

/-- RETURN_NOTICE handed on: a repeat changes nothing; a failed check queues a DENY and writes REQUEST_DENIED; an accepted one adds its
increment, makes the considered state RETURNING at LOOSE with the cell as last cell (an ASTRAY tool with one issue more) and
hands over RETURN_NOTED last. The four zero bytes before the increment in REQUEST_DENIED are the model's reading (log 38). -/
def Obligations.ReturnNotice : Prop :=
  ∀ (f : RxFrame) (rest : List RxFrame) (s s' : State), s.handsOn 0x16 f rest →
    s' = { s with link := { s.link with rx := rest } } → ∀ c t n, c = f.source → t = f.field 0 2 → n = f.field 2 2 →
    (∀ x m, s.findTool t = some x → s.considered x = some .returning → x.last = some (c, m) →
      exec .returnNotice s = .next s') ∧
    ((∀ x m, s.findTool t = some x → s.considered x = some .returning → x.last ≠ some (c, m)) →
      (∀ reason u queued,
        ((reason = .noRight ∧ s.allowed c ((s.findTool t).map (·.cls)) .returnTool = false) ∨
          (s.allowed c ((s.findTool t).map (·.cls)) .returnTool = true ∧
            ((reason = .unknownTool ∧ s.findTool t = none) ∨
              (reason = .notMounted ∧ ∃ x, s.findTool t = some x ∧
                (∀ m, s.considered x = some .out → x.location ≠ .cell c m) ∧
                (∀ m, s.considered x = some .astray → x.last ≠ some (c, m)))))) →
        s'.queueDeny c .tool t reason .lifeHandler = (u, queued) →
        exec .returnNotice s = .next (u.handReport
          { Report.blank .requestDenied with
            cell := c.val + 1, tool := t, code := reason.code, bit1 := queued
            detail := .plain (le 1 0x16 ++ le 4 0 ++ le 2 n) })) ∧
      (∀ x m before, s.allowed c (some x.cls) .returnTool = true → s.findTool t = some x →
        s.considered x = some before →
        (before = .out ∧ x.location = .cell c m) ∨
          (before = .astray ∧ x.location = .loose ∧ x.last = some (c, m)) →
        ∃ y v u, exec .returnNotice s = .next u ∧ u.findTool t = some y ∧
          y = { x with
            lifeUsed := y.lifeUsed, warningSent := y.warningSent, lifeEnded := y.lifeEnded, location := .loose
            last := some (c, m)
            state := if x.state = .claimed then .claimed else .returning
            stateBefore := if x.state = .claimed then some .returning else x.stateBefore
            issueCount := if before = .astray then min 65535 (x.issueCount + 1) else x.issueCount } ∧
          y.lifeUsed = (if n = 0 then x.lifeUsed else min 65535 (x.lifeUsed + n)) ∧
          y.warningSent = (x.warningSent ||
            decide (n ≠ 0 ∧ max 1 (x.lifeLimit * x.warnPercent / 100) ≤ y.lifeUsed)) ∧
          y.lifeEnded = (x.lifeEnded || decide (n ≠ 0 ∧ x.lifeLimit ≤ y.lifeUsed)) ∧
          u = State.handReport
            { Report.blank .returnNoted with
              cell := c.val + 1, tool := t, bit2 := y.warningSent, bit3 := y.lifeEnded
              detail := .plain (le 1 m ++ le 2 n ++ le 2 y.lifeUsed ++ le 1 before.code ++
                le 1 (((s.returnSlot x).map (·.val)).getD 0xFF)) } v ∧
          v.link.cells = s.link.cells ∧ v.crib = s.crib ∧ v.issues = s.issues))

/-- Answers are matched against the exchange in flight for their cell; one that matches nothing changes nothing. DATA_TAKEN ends the
offer: TAKEN, and the pocket is opened for the pickup, or the issue withdraws where it cannot be or a cancel is pending. DATA_REFUSED
with NOT_NOW defers the offer, at most 8 times, and with a cancel pending the issue then withdraws; with another reason it closes
the issue REFUSED. WITHDRAWN closes the issue with its failure result, or confirms the withdraw of a RETURN. PRESENT counts an
answer; the sixteenth of a CUT_OFF cell returns it to GOOD. Each lowers the fault count of a cell that is not CUT_OFF, stated of
each; below 64 a WEAK cell is GOOD again. CELL_STANDING is written when a standing changes. -/
def Obligations.AnswersMatched : Prop :=
  ∀ (f : RxFrame) (rest : List RxFrame) (s s' : State) (c : CellNo) (lowered : Nat),
    s' = { s with link := { s.link with rx := rest } } → c = f.source →
    lowered = (if (s.cell c).standing = .cutOff then (s.cell c).faultCount else (s.cell c).faultCount - 1) →
    ((∀ e, (s.cell c).inFlight = some e → ∀ tool slot length radius remaining unit,
        e.payload ≠ .dataOffer (f.field 0 1) tool slot length radius remaining unit) →
      (s.handsOn 0x11 f rest → exec .dataTaken s = .next s') ∧
      (s.handsOn 0x12 f rest → exec .dataRefused s = .next s')) ∧
    (s.handsOn 0x13 f rest → (∀ e, (s.cell c).inFlight = some e → ∀ tool slot,
        e.payload = .withdraw (f.field 0 1) tool slot → f.field 0 1 = 255 ∧ tool ≠ f.field 1 2) →
      exec .withdrawn s = .next s') ∧
    (s.handsOn 0x17 f rest → (∀ e, (s.cell c).inFlight = some e → e.payload ≠ .poll) →
      exec .present s = .next s') ∧
    (∀ e id i x tool slot length radius remaining unit, (s.cell c).inFlight = some e →
      e.payload = .dataOffer id tool slot length radius remaining unit → e.owner = .issue id → f.field 0 1 = id →
      s.openIndex id = some i → (s.issueRec i).issue = some x →
      (s.handsOn 0x11 f rest → x.cancelPending = false → (s.attributeOf x.pocket).permits .issuePick = true →
        (s.pocket x.pocket).claim = none → (s.pocket x.pocket).stocked = true →
        s.budgetCount < s.crib.lockBudget → ∃ num t, exec .dataTaken s = .next t ∧
          (t.issueRec i).issue = some
            { x with
              tries := e.triesUsed, deferrals := e.deferrals, offer := .taken, phase := .unlockWait
              request := some num } ∧
          t.pocket x.pocket = { s.pocket x.pocket with
            lock := .opening, confirm := some 250, claim := some num, stamp := s.clock } ∧
          (t.cell c).faultCount = lowered) ∧
      (s.handsOn 0x11 f rest → x.cell = c → (s.cell c).queue.length ≤ 16 → (s.cell c).standing ≠ .cutOff →
        (s.cell c).faultCount ≤ 256 → ∀ why,
        (x.cancelPending = true ∧ why = .cancelled) ∨
          (x.cancelPending = false ∧
            (((s.attributeOf x.pocket).permits .issuePick = false ∧ why = .drawerClosed) ∨
              ((s.attributeOf x.pocket).permits .issuePick = true ∧ why = .notStocked ∧
                ((s.pocket x.pocket).claim.isSome = true ∨ (s.pocket x.pocket).stocked = false)) ∨
              ((s.attributeOf x.pocket).permits .issuePick = true ∧ (s.pocket x.pocket).claim = none ∧
                (s.pocket x.pocket).stocked = true ∧ s.crib.lockBudget ≤ s.budgetCount ∧ 16 ≤ s.queuedCount ∧
                why = .cribBusy))) →
        ∃ t, exec .dataTaken s = .next t ∧ t.crib = s.crib ∧ (t.cell c).faultCount = lowered ∧
          (t.issueRec i).issue = some
            { x with
              tries := e.triesUsed, deferrals := e.deferrals, offer := .taken, phase := .withdrawing, request := none
              failure := some (x.failure.getD why) }) ∧
      (s.handsOn 0x12 f rest → f.field 1 1 = 3 → e.deferrals < 8 →
        (x.cancelPending = false → ∃ t, exec .dataRefused s = .next t ∧
          (t.issueRec i).issue = some { x with deferrals := e.deferrals + 1 } ∧
          { e with
            acknowledged := true, triesUsed := e.triesUsed - 1, deferrals := e.deferrals + 1, step := .deferred
            buffer := none, window := none, deferralTimer := some s.link.deferralDelay } ∈ (t.cell c).queue ∧
          (t.cell c).faultCount = lowered ∧ t.crib = s.crib) ∧
        (x.cancelPending = true → x.cell = c → (s.cell c).queue.length < 16 → (s.cell c).standing ≠ .cutOff →
          (s.cell c).faultCount ≤ 256 → ∃ t, exec .dataRefused s = .next t ∧
          (t.issueRec i).issue = some
            { x with
              deferrals := e.deferrals + 1, offer := .unknown, phase := .withdrawing, request := none
              failure := some (x.failure.getD .cancelled) } ∧
          (t.cell c).faultCount = lowered ∧ t.crib = s.crib)) ∧
      (s.handsOn 0x12 f rest → f.field 1 1 ≠ 3 ∨ 8 ≤ e.deferrals → ∃ t, exec .dataRefused s = .next t ∧
        (t.issueRec i).issue = none ∧ t.crib = s.crib ∧ (t.cell c).faultCount = lowered ∧
        ∀ n, x.origin = .order n → s.working n (.issue id) →
          t.formedStatus n = some (x.failure.getD .refused))) ∧
    (∀ e id tool slot, s.handsOn 0x13 f rest → (s.cell c).inFlight = some e → e.payload = .withdraw id tool slot →
      f.field 0 1 = id → (id = 255 → f.field 1 2 = tool) →
      (∀ i x, e.owner = .issue id → s.openIndex id = some i → (s.issueRec i).issue = some x →
        ∃ t, exec .withdrawn s = .next t ∧ (t.issueRec i).issue = none ∧ t.crib = s.crib ∧
          (t.cell c).faultCount = lowered ∧
          ∀ n, x.origin = .order n → s.working n (.issue id) →
            t.formedStatus n = some (x.failure.getD .cancelled)) ∧
      (∀ n r, e.owner = .slot n → s.working n (.returning r) →
        ∃ t, exec .withdrawn s = .next t ∧ t.crib = s.crib ∧ t.tools = s.tools ∧ (t.cell c).faultCount = lowered ∧
          (r.outcome = none →
            t.work n = .returning { r with tries := e.triesUsed, acknowledged := true, withdraw := .confirmed }) ∧
          ∀ outcome, r.outcome = some outcome → t.formedStatus n = some (insertionStatus outcome))) ∧
    (∀ e, s.handsOn 0x17 f rest → (s.cell c).inFlight = some e → e.payload = .poll →
      ∃ t, exec .present s = .next t ∧ t.crib = s.crib ∧ t.tools = s.tools ∧ t.issues = s.issues ∧
        (t.cell c).queue.length = ((s.cell c).queue.filter fun e : Exchange => e.step != .inFlight).length ∧
        ∀ report, report = (fun code former faults answers : Nat =>
          { Report.blank .cellStanding with
            cell := c.val + 1, code := code
            detail := .plain (le 1 former ++ le 1 0 ++ le 2 faults ++ le 1 answers) }) →
        ((s.cell c).standing = .cutOff → 15 ≤ (s.cell c).answers →
          (t.cell c).standing = .good ∧ (t.cell c).answers = 0 ∧ (t.cell c).faultCount = 0 ∧
          t.reports = (s.handReport (report 3 2 0 0)).reports) ∧
        ((s.cell c).standing = .cutOff → (s.cell c).answers < 15 →
          (t.cell c).standing = .cutOff ∧ (t.cell c).answers = (s.cell c).answers + 1 ∧
          (t.cell c).faultCount = lowered ∧ t.reports = s.reports) ∧
        ((s.cell c).standing ≠ .cutOff → (s.cell c).faultCount ≤ 256 →
          (t.cell c).answers = min 16 ((s.cell c).answers + 1) ∧ (t.cell c).faultCount = lowered) ∧
        ((s.cell c).standing = .weak → (s.cell c).faultCount ≤ 64 →
          (t.cell c).standing = .good ∧
          t.reports = (s.handReport (report 2 1 lowered (min 16 ((s.cell c).answers + 1)))).reports) ∧
        (((s.cell c).standing = .weak ∧ 64 < (s.cell c).faultCount ∧ (s.cell c).faultCount ≤ 256) ∨
            ((s.cell c).standing = .good ∧ (s.cell c).faultCount ≤ 96) →
          (t.cell c).standing = (s.cell c).standing ∧ t.reports = s.reports))


/-! ## The part's own frames and its timers (R88, R89, R96 to R106, R113 to R117, R135, R140) -/

/-- Queues, grants and attempts. An exchange is refused QUEUE_FULL at 16 and CUT_OFF at a CUT_OFF cell unless it is a POLL; else it is
queued behind lower classes and its own (log 21). Buffers 2..7, the lowest empty one first (log 20), go to the eligible cell of the
lowest class, then the oldest last grant, then the lowest address; buffer 1 to the POLL of the oldest stamp; none while OFF; a try resumed after OFF is not counted
anew (log 23). On an idle line, while ACTIVE, an attempt begins with a ready frame of the lowest class, then of the lowest
destination. A lost arbitration counts a loss of the issue (log 29); a transmit fault adds 8 errors, and above 255 takes the link
OFF with LINK_STATE and nothing in flight. While OFF the command counts a link-idle interval (log 35), the 128th returns the link to
ACTIVE, with count 0 in LINK_STATE (the model's reading, log 19). Without an attempt, without a ready frame, or without OFF, the
command of such an event changes nothing (log 1, the model's choice). -/
def Obligations.TransmitAttempts : Prop :=
  (∀ (c : CellNo) (p : Payload) (owner : ExchangeOwner) (s : State),
    (16 ≤ (s.cell c).queue.length → s.queueExchange c p owner = (s, some .queueFull)) ∧
    ((s.cell c).queue.length < 16 → (s.cell c).standing = .cutOff → p ≠ .poll →
      s.queueExchange c p owner = (s, some .cutOff)) ∧
    ((s.cell c).queue.length < 16 → (s.cell c).standing ≠ .cutOff ∨ p = .poll →
      s.queueExchange c p owner = (State.grantBuffers (s.modCell c fun x =>
        { x with queue := x.queue.takeWhile (fun y => decide (y.payload.cls ≤ p.cls)) ++
          { payload := p, owner := owner, triesAllowed := s.link.retryLimit + 1, triesUsed := 0, acknowledged := false
            deferrals := 0, deferralTimer := none, stamp := s.clock, buffer := none, window := none, step := .queued
            resumes := false } ::
          x.queue.dropWhile (fun y => decide (y.payload.cls ≤ p.cls)) }), none))) ∧
  (∀ (s : State) (free : Nat → Prop) (eligible : CellNo → Exchange → Prop),
    (∀ b, free b ↔ (∀ a, s.link.attempt = some a → a.buffer ≠ b) ∧
      ∀ c, ∀ e ∈ (s.cell c).queue, e.buffer ≠ some b) →
    (∀ c e, eligible c e ↔ (∀ x ∈ (s.cell c).queue, x.step ≠ .inFlight) ∧
      (s.cell c).queue.find? (fun x => x.step == .queued) = some e) →
    ((∀ b, 2 ≤ b → b ≤ 7 → ¬ free b) ∨ (∀ c e, eligible c e → e.payload = .poll) → s.grantOne = s) ∧
    (∀ b c e before after, 2 ≤ b → b ≤ 7 → free b → (∀ k, 2 ≤ k → k < b → ¬ free k) → eligible c e →
      e.payload ≠ .poll → (s.cell c).queue = before ++ e :: after → (∀ x ∈ before, x.step ≠ .queued) →
      (∀ d x, d ≠ c → eligible d x → x.payload ≠ .poll → e.payload.cls < x.payload.cls ∨
        (e.payload.cls = x.payload.cls ∧
          ((s.clock - (s.cell d).lastGrant).toNat < (s.clock - (s.cell c).lastGrant).toNat ∨
            ((s.clock - (s.cell d).lastGrant).toNat = (s.clock - (s.cell c).lastGrant).toNat ∧ c < d)))) →
      s.grantOne = s.modCell c fun y =>
        { y with
          lastGrant := s.clock
          queue := before ++
            { e with
              step := .inFlight, buffer := some b, window := none, resumes := false
              triesUsed := if e.resumes then e.triesUsed else min 16 (e.triesUsed + 1) } :: after }) ∧
    (¬ free 1 ∨ (∀ c e, eligible c e → e.payload ≠ .poll) → s.grantPoll = s) ∧
    (∀ c e before after, free 1 → eligible c e → e.payload = .poll → (s.cell c).queue = before ++ e :: after →
      (∀ x ∈ before, x.step ≠ .queued) →
      (∀ d x, d ≠ c → eligible d x → x.payload = .poll →
        (s.clock - x.stamp).toNat < (s.clock - e.stamp).toNat ∨
          ((s.clock - x.stamp).toNat = (s.clock - e.stamp).toNat ∧ c < d)) →
      s.grantPoll = s.modCell c fun y =>
        { y with queue := before ++
          { e with
            step := .inFlight, buffer := some 1, window := none, resumes := false
            triesUsed := if e.resumes then e.triesUsed else min 16 (e.triesUsed + 1) } :: after })) ∧
  (∀ s : State,
    (s.link.state = .off → s.grantBuffers = s) ∧
    (s.link.state = .active →
      s.grantBuffers = s.grantOne.grantOne.grantOne.grantOne.grantOne.grantOne.grantPoll ∧
      ((∀ c, ∀ e ∈ (s.cell c).queue, e.step ≠ .inFlight → e.buffer = none) →
        s.grantBuffers.grantOne = s.grantBuffers ∧ s.grantBuffers.grantPoll = s.grantBuffers))) ∧
  ∀ s : State,
    (s.link.state = .off ∨ s.link.attempt.isSome = true ∨ s.readyFrames = [] →
      exec .transmitAttempt s = .next s) ∧
    (s.link.state = .active → s.link.attempt = none → s.readyFrames ≠ [] → ∃ a ∈ s.readyFrames,
      exec .transmitAttempt s = .next { s with link := { s.link with attempt := some a, slotDriven := false } } ∧
      ∀ b ∈ s.readyFrames, a.frame.cls < b.frame.cls ∨ (a.frame.cls = b.frame.cls ∧ a.frame.dest ≤ b.frame.dest)) ∧
    (∀ a, a ∈ s.readyFrames ↔
      (∃ c e, (s.cell c).inFlight = some e ∧ e.window = none ∧
        a = { buffer := e.buffer.getD 1, frame := e.payload.frame c, exchange := some (c, e.owner), attached := true }) ∨
      (∃ cs, s.link.buffer0 = some cs ∧
        a = { buffer := 0, frame := cs.frame, exchange := none, attached := true })) ∧
    (s.link.attempt = none → exec .lostArbitration s = .next s ∧ exec .transmitFault s = .next s) ∧
    (∀ (a : Attempt) (done : Nat → State), s.link.attempt = some a →
      (∀ errors, done errors =
        if a.buffer = 0 then
          { s with link :=
            { s.link with
              attempt := none, errors := errors, buffer0 := s.link.next0.orElse fun _ => s.link.buffer0
              next0 := none } }
        else if a.attached = true then { s with link := { s.link with attempt := none, errors := errors } }
        else State.grantBuffers { s with link := { s.link with attempt := none, errors := errors } }) →
      (∀ c id i, a.exchange = some (c, .issue id) → s.openIndex id = some i →
        exec .lostArbitration s = .next ((done s.link.errors).modIssue i fun x =>
          { x with losses := min 65535 (x.losses + 1) })) ∧
      ((∀ c id, a.exchange = some (c, .issue id) → s.openIndex id = none) →
        exec .lostArbitration s = .next (done s.link.errors)) ∧
      (s.link.errors + 8 ≤ 255 → exec .transmitFault s = .next (done (s.link.errors + 8)))) ∧
    (∀ a, s.link.attempt = some a → 255 < s.link.errors + 8 → ∃ u : State, exec .transmitFault s = .next (u.handReport
        { Report.blank .linkState with code := 1, detail := .plain (le 1 1 ++ le 2 (s.link.errors + 8)) }) ∧
      u = { s with link := u.link } ∧ u.link.state = .off ∧ u.link.attempt = none ∧ u.link.slotDriven = false ∧
      u.link.errors = s.link.errors + 8 ∧ u.link.idle = 0 ∧ u.link.next0 = none ∧
      u.link.buffer0 = (s.link.next0.orElse fun _ => s.link.buffer0) ∧
      ∀ c, (u.cell c).queue = (s.cell c).queue.map fun e : Exchange =>
        if e.step = ExchangeStep.inFlight then
          { e with step := .queued, buffer := none, window := none, resumes := true }
        else e) ∧
    (s.link.state = .active → exec .idleRecovery s = .next s) ∧
    (s.link.state = .off → s.link.idle < 127 →
      exec .idleRecovery s = .next { s with link := { s.link with idle := s.link.idle + 1 } }) ∧
    (s.link.state = .off → 127 ≤ s.link.idle → exec .idleRecovery s = .next (State.grantBuffers (State.handReport
      { Report.blank .linkState with code := 2, detail := .plain (le 1 0 ++ le 2 0) }
      { s with link := { s.link with state := .active, errors := 0, idle := 0 } })))

/-- A frame sent lowers the error count. A broadcast empties buffer 0, or leaves the CRIB_STATE placed meanwhile. An
acknowledged frame that expects an answer starts the answer window; one that expects none ends its exchange. A recessive slot
and an expired answer window are failed tries: fault count 8 more, up to 256, the next try in the same buffer while tries are
left; at 96 a GOOD cell is WEAK, with CELL_STANDING. At 256 it is CUT_OFF, answers 0, with CELL_STANDING; it keeps no exchange but
POLLs, the others end DROPPED in queue order, then its issues in UNLOCK_WAIT and PICKUP close CELL_CUT_OFF, by index (log 50),
UNCONFIRMED, their requests cancelled; those in TRANSIT go on. A dropped offer closes its issue CELL_CUT_OFF, UNCONFIRMED with
offer outcome UNKNOWN (log 30) when acknowledged, NONE otherwise. With no try left the exchange ends: an offer never acknowledged
closes its issue NO_ANSWER, another withdraws it, offer outcome UNKNOWN. Either way the WITHDRAW of an issue closes it
UNCONFIRMED, that of a RETURN leaves UNCONFIRMED and completes the order when its movement has ended, a LIFE_END is reported
undelivered with its tries, a DENY or POLL is gone without more. A failure result recorded before stays. Layout of an ISSUE's
result: log 11. Without attempt or window nothing changes (log 1). The numbered readings are the model's. -/
def Obligations.FrameSentAndAnswerWindow : Prop :=
  (∀ (u : State) (c : CellNo) (e : Exchange),
    (∀ tool, e.payload = .lifeEnd tool → u.exchangeEnded c e (.dropped .cutOff) = u.handReport
      { Report.blank .lifeEndUndelivered with
        cell := c.val + 1, tool := tool, code := 2, detail := .plain (le 1 e.triesUsed) }) ∧
    (e.payload = .poll ∨ (∃ ref value reason, e.payload = .deny ref value reason) →
      u.exchangeEnded c e (.dropped .cutOff) = u) ∧
    (∀ id i x result v, e.owner = .issue id → u.openIndex id = some i → (u.issueRec i).issue = some x →
      u.exchangeEnded c e (.dropped .cutOff) = v →
      (∀ tool slot length radius remaining unit, e.payload = .dataOffer id tool slot length radius remaining unit →
        result = x.failure.getD .cellCutOff → v.crib = u.crib ∧ v.link.cells = u.link.cells ∧
        u.issueClosed i
          { x with
            tries := e.triesUsed, deferrals := e.deferrals, offer := if e.acknowledged then .unknown else x.offer
            withdraw := if e.acknowledged then .unconfirmed else .notSent, failure := some result
            closed := some u.clock } result v) ∧
      (∀ tool slot, e.payload = .withdraw id tool slot → result = x.failure.getD .cancelled →
        v.crib = u.crib ∧ v.link.cells = u.link.cells ∧ u.issueClosed i
          { x with withdraw := .unconfirmed, failure := some result, closed := some u.clock } result v)) ∧
    (∀ n r id tool slot, e.owner = .slot n → e.payload = .withdraw id tool slot → u.work n = .returning r →
      (∀ k, (u.slot n).context = some k → k.output = none) →
      (r.outcome = none → u.exchangeEnded c e (.dropped .cutOff) = u.setWork n (.returning
        { r with tries := e.triesUsed, acknowledged := e.acknowledged, withdraw := .unconfirmed })) ∧
      (∀ outcome, r.outcome = some outcome → ∃ v, u.exchangeEnded c e (.dropped .cutOff) = v ∧
        v.formedStatus n = some (insertionStatus outcome) ∧ v = { u with order := v.order })) ∧
    (∀ i, ((u.issueRec i).issue = none → u.issueCutOff i c = u) ∧
      ∀ x, (u.issueRec i).issue = some x →
        (x.cell ≠ c ∨ (x.phase ≠ .unlockWait ∧ x.phase ≠ .pickup) → u.issueCutOff i c = u) ∧
        (x.cell = c → x.phase = .unlockWait ∨ x.phase = .pickup → ∀ result v, result = x.failure.getD .cellCutOff →
          u.issueCutOff i c = v → v.link.cells = u.link.cells ∧ u.issueClosed i
            { x with request := none, withdraw := .unconfirmed, failure := some result, closed := some u.clock }
            result v ∧
          (x.request = none → v.crib = u.crib) ∧
          ∀ num r, x.request = some num → u.findRequest num = some r →
            (r.state = .queued → v.crib.requests = u.crib.requests.filter (fun q => q.number != r.number) ∧
              v.pocket r.pocket = { u.pocket r.pocket with claim := none }) ∧
            (r.state = .opening ∨ r.state = .opened →
              v.crib.requests = u.crib.requests.map (fun q => if q.number = r.number then
                { q with state := .closing, window := none, outcome := some .cancelled } else q) ∧
              v.pocket r.pocket =
                { u.pocket r.pocket with lock := .closing, confirm := some 250, stamp := u.clock })))) ∧
  ∀ s : State, s.order.formedNow = [] →
    (∀ ack, s.link.attempt = none → exec (.frameSent ack) s = .next s) ∧
    (∀ c, (∀ e, (s.cell c).inFlight = some e → e.window = none) → exec (.answerWindowExpires c) s = .next s) ∧
    (∀ a ack, s.link.attempt = some a → a.exchange = none → exec (.frameSent ack) s = .next { s with link :=
      { s.link with errors := s.link.errors - 1, attempt := none, buffer0 := s.link.next0, next0 := none } }) ∧
    (∀ a c o ack, s.link.attempt = some a → a.exchange = some (c, o) → a.attached = false →
      exec (.frameSent ack) s = .next (State.grantBuffers
        { s with link := { s.link with errors := s.link.errors - 1, attempt := none } })) ∧
    (∀ a c o e, s.link.attempt = some a → a.exchange = some (c, o) → a.attached = true → (s.cell c).inFlight = some e →
      (e.payload.expectsAnswer = true → exec (.frameSent true) s = .next
        ({ s with link := { s.link with errors := s.link.errors - 1, attempt := none } }.modCell c fun x =>
          { x with queue := x.queue.map fun e : Exchange => if e.step = ExchangeStep.inFlight then
            { e with acknowledged := true, window := some s.link.answerWindow } else e })) ∧
      (e.payload.expectsAnswer = false → ∃ t, exec (.frameSent true) s = .next t ∧ t.crib = s.crib ∧
        t.tools = s.tools ∧ t.issues = s.issues ∧ t.link.errors = s.link.errors - 1 ∧ t.link.attempt = none ∧
        (t.cell c).queue.length = ((s.cell c).queue.filter fun e : Exchange => e.step != .inFlight).length ∧
        ((s.cell c).standing ≠ .cutOff → (t.cell c).faultCount = (s.cell c).faultCount - 1))) ∧
    (∀ c e cmd, (s.cell c).inFlight = some e →
      ((∃ a o, cmd = .frameSent false ∧ s.link.attempt = some a ∧ a.exchange = some (c, o) ∧ a.attached = true) ∨
        (cmd = .answerWindowExpires c ∧ e.window.isSome = true)) →
      ((s.cell c).standing = .cutOff ∨ (s.cell c).faultCount + 8 < 256 →
        (e.triesUsed < e.triesAllowed → ∃ t, exec cmd s = .next t ∧
          (t.cell c).queue = ((s.cell c).queue.map fun e : Exchange => if e.step = ExchangeStep.inFlight then
            { e with triesUsed := min 16 (e.triesUsed + 1), window := none } else e) ∧
          ((s.cell c).standing ≠ .cutOff → (t.cell c).faultCount = (s.cell c).faultCount + 8) ∧
          ((s.cell c).standing = .good → 96 ≤ (s.cell c).faultCount + 8 → (t.cell c).standing = .weak ∧
            t.reports = (s.handReport
              { Report.blank .cellStanding with
                cell := c.val + 1, code := 1
                detail := .plain (le 1 0 ++ le 1 1 ++ le 2 ((s.cell c).faultCount + 8) ++
                  le 1 (if e.payload = .poll then 0 else (s.cell c).answers)) }).reports) ∧
          ((s.cell c).standing = .cutOff ∨ ((s.cell c).standing = .good ∧ (s.cell c).faultCount + 8 < 96) ∨
              ((s.cell c).standing = .weak ∧ 64 ≤ (s.cell c).faultCount + 8) →
            (t.cell c).standing = (s.cell c).standing ∧ t.reports = s.reports) ∧
          (t.cell c).answers = (if e.payload = .poll then 0 else (s.cell c).answers) ∧
          t.crib = s.crib ∧ t.tools = s.tools ∧ t.issues = s.issues) ∧
        (e.triesAllowed ≤ e.triesUsed → ∃ t, exec cmd s = .next t ∧ t.crib = s.crib ∧
          ((s.cell c).standing ≠ .cutOff → (t.cell c).faultCount = (s.cell c).faultCount + 8) ∧
          ∀ (gone : Prop) (calm : State → Prop),
          (gone ↔ (t.cell c).queue.length = ((s.cell c).queue.filter fun e : Exchange => e.step != .inFlight).length) →
          (∀ u, calm u ↔ ((s.cell c).standing = .cutOff ∨
              ((s.cell c).standing = .good ∧ (s.cell c).faultCount + 8 < 96) ∨
              ((s.cell c).standing = .weak ∧ 64 ≤ (s.cell c).faultCount + 8) → u.reports = s.reports)) →
          (∀ id i x, e.owner = .issue id → s.openIndex id = some i → (s.issueRec i).issue = some x → x.cell = c →
            (∀ tool slot length radius remaining unit,
              e.payload = .dataOffer id tool slot length radius remaining unit →
              (e.acknowledged = false → gone ∧ (t.issueRec i).issue = none ∧
                (∀ n, x.origin = .order n → s.working n (.issue id) →
                  t.formedStatus n = some (x.failure.getD .noAnswer)) ∧
                ∀ ref result, x.origin = .cell ref → result = x.failure.getD .noAnswer →
                  ∃ w : State, w.clock = s.clock ∧ w.tools = t.tools ∧ calm w ∧
                  t = (w.handReport (w.issueClosedReport id
                    { x with
                      tries := e.triesUsed, deferrals := e.deferrals, withdraw := .notSent, failure := some result
                      closed := some s.clock } ref result)).freeRecord i) ∧
              (e.acknowledged = true → (s.cell c).standing ≠ .cutOff → (s.cell c).queue.length ≤ 16 →
                (t.issueRec i).issue = some
                  { x with
                    tries := e.triesUsed, deferrals := e.deferrals, offer := .unknown, phase := .withdrawing
                    request := none, failure := some (x.failure.getD .noAnswer) })) ∧
            (∀ tool slot result closed, e.payload = .withdraw id tool slot → result = x.failure.getD .cancelled →
              closed = { x with withdraw := .unconfirmed, failure := some result, closed := some s.clock } →
              gone ∧ (t.issueRec i).issue = none ∧
              (∀ n, x.origin = .order n → s.working n (.issue id) → calm t ∧
                (t.slot n).context.bind (·.output) = some
                  { status := result, stamp := s.clock, result := t.issueResult id closed, buffer := [] }) ∧
              (∀ ref, x.origin = .cell ref → ∃ w : State, w.clock = s.clock ∧ w.tools = t.tools ∧ calm w ∧
                t = (w.handReport (w.issueClosedReport id closed ref result)).freeRecord i))) ∧
          (∀ n r id tool slot, e.payload = .withdraw id tool slot → e.owner = .slot n → s.working n (.returning r) →
            gone ∧ calm t ∧ t.tools = s.tools ∧
            (r.outcome = none → t.work n = .returning
              { r with tries := e.triesUsed, acknowledged := e.acknowledged, withdraw := .unconfirmed }) ∧
            (∀ outcome, r.outcome = some outcome → t.formedStatus n = some (insertionStatus outcome))) ∧
          (∀ tool, e.payload = .lifeEnd tool → gone ∧ t.tools = s.tools ∧ t.issues = s.issues ∧
            ∃ u : State, calm u ∧ u.clock = s.clock ∧ t = u.handReport
              { Report.blank .lifeEndUndelivered with
                cell := c.val + 1, tool := tool, code := 3, detail := .plain (le 1 e.triesUsed) }) ∧
          (e.payload = .poll ∨ (∃ ref value reason, e.payload = .deny ref value reason) →
            gone ∧ calm t ∧ t.tools = s.tools ∧ t.issues = s.issues ∧ t.order.slots = s.order.slots))) ∧
      ((s.cell c).standing ≠ .cutOff → 256 ≤ (s.cell c).faultCount + 8 → ∃ t, exec cmd s = .next t ∧
        (t.cell c).standing = .cutOff ∧ (t.cell c).faultCount = 256 ∧ (t.cell c).answers = 0 ∧
        (∀ e ∈ (t.cell c).queue, e.payload = .poll) ∧
        (∃ u : State, t = State.settle ((List.finRange 32).foldl (fun v i => v.issueCutOff i c)
            (((s.cell c).queue.filter fun e => e.payload != .poll).foldl
              (fun v e => v.exchangeEnded c e (.dropped .cutOff)) u)) ∧
          u = { s with link := u.link, reports := u.reports, order := { s.order with cauStall := u.order.cauStall } } ∧
          u.reports = (s.handReport
            { Report.blank .cellStanding with
              cell := c.val + 1, code := 1
              detail := .plain (le 1 (s.cell c).standing.code ++ le 1 2 ++ le 2 256 ++ le 1 0) }).reports) ∧
        (∀ i x, (s.issueRec i).issue = some x → x.cell = c → x.phase = .transit →
          (∀ e ∈ (s.cell c).queue, e.owner ≠ .issue (s.issueId i)) → (t.issueRec i).issue = some x) ∧
        ∀ i x, (s.issueRec i).issue = some x → x.cell = c → x.phase = .unlockWait ∨ x.phase = .pickup →
          (t.issueRec i).issue = none))

/-- The broadcast timer, while it runs and the Report Writer is not STALLED, and the hold timer, while it runs and it is, place a
CRIB_STATE and start anew. The poll timer starts anew and queues a POLL for the first pollable cell after the pointer. The
deferral timer makes a deferred offer QUEUED with the clock as its stamp, behind the exchanges of its class, and the grant rule
then acts: with nothing eligible before, it is granted a buffer at once, the lowest empty one by the model's choice (log 20), and a
try resumed after OFF is not counted anew by its reading (log 23). The transit window closes its issue ASTRAY. Where no such timer runs
nothing changes (log 1, the model's choice). -/
def Obligations.TimersExpire : Prop :=
  ∀ s : State,
    (s.link.broadcastTimer = none ∨ s.reports.stalled = true → exec .broadcastTimerExpires s = .next s) ∧
    (s.link.holdTimer = none ∨ s.reports.stalled = false → exec .holdTimerExpires s = .next s) ∧
    ((∀ a, s.link.attempt = some a → a.buffer ≠ 0) →
      (s.link.broadcastTimer.isSome = true → s.reports.stalled = false → exec .broadcastTimerExpires s = .next
        { s with link :=
          { s.link with
            buffer0 := some { service := s.order.service, hold := 0 }, holdTimer := none
            broadcastTimer := if s.link.broadcastInterval = 0 then none else some s.link.broadcastInterval } }) ∧
      (s.link.holdTimer.isSome = true → s.reports.stalled = true → exec .holdTimerExpires s = .next
        { s with link :=
          { s.link with
            buffer0 := some { service := s.order.service, hold := s.link.holdTime }, broadcastTimer := none
            holdTimer := if s.link.holdTime = 0 then none else some s.link.holdTime } })) ∧
    (∀ a, s.link.attempt = some a → a.buffer = 0 → s.link.broadcastTimer.isSome = true → s.reports.stalled = false →
      exec .broadcastTimerExpires s = .next
        { s with link :=
          { s.link with
            next0 := some { service := s.order.service, hold := 0 }, holdTimer := none
            broadcastTimer := if s.link.broadcastInterval = 0 then none else some s.link.broadcastInterval } }) ∧
    (s.link.pollTimer = none → exec .pollTimerExpires s = .next s) ∧
    (s.link.pollTimer.isSome = true → ∀ timer, timer = (if s.link.pollInterval = 0 then none else some s.link.pollInterval) →
      ∀ pollable : CellNo → Prop,
        (∀ c, pollable c ↔ (s.cell c).enabled = true ∧ (s.cell c).queue.length < 16 ∧
          ∀ e ∈ (s.cell c).queue, e.payload ≠ .poll) →
        ((∀ c, ¬ pollable c) →
          exec .pollTimerExpires s = .next { s with link := { s.link with pollTimer := timer } }) ∧
        (∀ c, pollable c → (∀ d : CellNo, pollable d →
            (c.val + 23 - s.link.pollPointer.val) % 24 ≤ (d.val + 23 - s.link.pollPointer.val) % 24) →
          exec .pollTimerExpires s = .next ({ s with link :=
            { s.link with pollTimer := timer, pollPointer := c } }.queueExchange c .poll .link).1 ∧
          ({ s with link := { s.link with pollTimer := timer, pollPointer := c } }.queueExchange c .poll .link).2 =
            none)) ∧
    (∀ id, (∀ c, ∀ e ∈ (s.cell c).queue, e.step = .deferred → e.owner ≠ .issue id) →
      exec (.deferralTimerExpires id) s = .next s) ∧
    (∀ id c e others (placed : Exchange → State),
      (s.cell c).queue.find? (fun e => e.step == .deferred && e.owner == .issue id) = some e →
      (∀ d, d ≠ c → ∀ x ∈ (s.cell d).queue, x.step = .deferred → x.owner ≠ .issue id) →
      others = (s.cell c).queue.filter (fun e => !(e.step == .deferred && e.owner == .issue id)) →
      (∀ e', placed e' = s.modCell c fun x =>
        { x with queue := others.takeWhile (fun y => decide (y.payload.cls ≤ e.payload.cls)) ++
          e' :: others.dropWhile (fun y => decide (y.payload.cls ≤ e.payload.cls)) }) →
      exec (.deferralTimerExpires id) s = .next
        (placed { e with step := .queued, stamp := s.clock, deferralTimer := none }).grantBuffers ∧
      (s.link.state = .off → exec (.deferralTimerExpires id) s = .next
        (placed { e with step := .queued, stamp := s.clock, deferralTimer := none })) ∧
      ∀ (b : Nat) (free : Nat → Prop),
        (∀ k, free k ↔ (∀ a, s.link.attempt = some a → a.buffer ≠ k) ∧
          ∀ d, ∀ x ∈ (s.cell d).queue, x.buffer ≠ some k) →
        s.link.state = .active → e.payload ≠ .poll → (∀ x ∈ (s.cell c).queue, x.step = .deferred → x.buffer = none) →
        (∀ d, ∀ x ∈ (s.cell d).queue, x.step = .queued → (s.cell d).inFlight.isSome = true) →
        ((s.cell c).inFlight.isSome = true → exec (.deferralTimerExpires id) s = .next
          (placed { e with step := .queued, stamp := s.clock, deferralTimer := none })) ∧
        ((s.cell c).inFlight = none → 2 ≤ b → b ≤ 7 → free b → (∀ k, 2 ≤ k → k < b → ¬ free k) →
          exec (.deferralTimerExpires id) s = .next (State.modCell c (fun x => { x with lastGrant := s.clock })
            (placed
              { e with
                step := .inFlight, stamp := s.clock, deferralTimer := none, buffer := some b, window := none
                resumes := false, triesUsed := if e.resumes then e.triesUsed else min 16 (e.triesUsed + 1) })))) ∧
    (∀ id, (∀ i x, s.openIndex id = some i → (s.issueRec i).issue = some x → x.phase ≠ .transit) →
      exec (.transitWindowExpires id) s = .next s) ∧
    (∀ id i x y, s.order.formedNow = [] → s.openIndex id = some i → (s.issueRec i).issue = some x → x.phase = .transit →
      s.findTool x.tool = some y → ∃ t, exec (.transitWindowExpires id) s = .next t ∧ (t.issueRec i).issue = none ∧
        t.findTool x.tool = some
          { y with claim := none, stateBefore := none, state := .astray, location := .loose } ∧
        t.crib = s.crib ∧ t.link.cells = s.link.cells ∧
        ∀ n, x.origin = .order n → s.working n (.issue id) → t.formedStatus n = some .astray)

/-! ## Reports (R196 to R202) -/

/-- A report joins the hold queue with the clock, HELD when the queue was not empty, the credit 0 or the port without access. One
that brings it to 12 enters STALL: CAU.STALL, a CRIB_STATE with the hold time, the hold timer in place of the broadcast timer. At
16 it is absorbed into the last entry, which becomes or stays MERGED with kinds, count and last stamp. -/
def Obligations.ReportHandedOver : Prop :=
  ∀ (r : Report) (s : State),
    (s.reports.hold.length < 16 → ∀ q, q = s.reports.hold ++
        [{ r with
           stamp := s.clock
           held := decide (s.reports.hold ≠ [] ∨ s.reports.credit = 0 ∨ s.order.portEnable = false ∨
             s.order.halted = true) }] →
      (s.reports.stalled = true ∨ s.reports.hold.length < 11 →
        s.handReport r = { s with reports := { s.reports with hold := q } }) ∧
      (s.reports.stalled = false → 11 ≤ s.reports.hold.length → (∀ a, s.link.attempt = some a → a.buffer ≠ 0) →
        s.handReport r =
          { s with
            reports := { s.reports with hold := q, stalled := true }
            order := { s.order with cauStall := true }
            link :=
              { s.link with
                buffer0 := some { service := s.order.service, hold := s.link.holdTime }, broadcastTimer := none
                holdTimer := if s.link.holdTime = 0 then none else some s.link.holdTime } })) ∧
    (∀ first last, s.reports.hold = first ++ [last] → 15 ≤ first.length → ∃ entry,
      s.handReport r = { s with reports := { s.reports with hold := first ++ [entry] } } ∧
      (∀ kinds stamp, last.detail = .merged kinds stamp → entry =
        { last with
          count := min 65535 (last.count + 1)
          detail := .merged (kinds ||| (1#16 <<< r.kind.code)) s.clock }) ∧
      (∀ bytes, last.detail = .plain bytes → entry =
        { kind := .merged, held := true, bit1 := false, bit2 := false, bit3 := false, cell := 0, issue := 0xFF
          stamp := last.stamp, tool := 0, code := 0, count := 2
          detail := .merged ((1#16 <<< last.kind.code) ||| (1#16 <<< r.kind.code)) s.clock }))

/-! ## Laws of every step -/

/-- A frame sent by the part's rules reads back as itself: header, payload, check and stuffing. The acknowledgement slot, its recessive
delimiter and seven recessive end bits follow it on the line; without stuffing it has 48 bits and 8 for each payload byte. That a
stuffing bit follows five equal bits at the end of the check is the model's reading (log 27). -/
def Obligations.FrameRoundTrip : Prop :=
  ∀ f : LinkFrame, f.wf = true →
    parseLine f.line = some f ∧
    (∀ acknowledged, f.onLine acknowledged =
      f.line ++ [!acknowledged, true] ++ [true, true, true, true, true, true, true]) ∧
    f.bits.length + (ackField true).length + endField.length = 48 + 8 * f.payload.length

/-- Every step keeps the invariant of the port, the reports and the receive queue (State.inv). -/
def Obligations.StepKeepsInv : Prop :=
  ∀ s t : State, s.inv → step s = .next t → t.inv

/-- Every step keeps the agreement of requests, claims and locks, and the lock budget in SERVICE (State.cribInv). -/
def Obligations.StepKeepsBudget : Prop :=
  ∀ s t : State, s.cribInv → step s = .next t → t.cribInv

/-- The state after reset has both invariants. -/
def Obligations.ResetHasInvariants : Prop :=
  State.reset.inv ∧ State.reset.cribInv
end

