-- ==== Sys2Proof/Laws/State.lean ====
section
/-! SUPPORT. What each update of the State does to each field: one lemma for a field of a block, true by rfl, and the entry read
back from an indexed collection. -/

namespace Sys2Proof.Machine

/-! ## Blocks -/

@[simp] theorem State.modOrder_pending (f : OrderBlock → OrderBlock) (s : State) : (s.modOrder f).pending = s.pending := rfl
@[simp] theorem State.modOrder_order (f : OrderBlock → OrderBlock) (s : State) : (s.modOrder f).order = f s.order := rfl
@[simp] theorem State.modOrder_tools (f : OrderBlock → OrderBlock) (s : State) : (s.modOrder f).tools = s.tools := rfl
@[simp] theorem State.modOrder_crib (f : OrderBlock → OrderBlock) (s : State) : (s.modOrder f).crib = s.crib := rfl
@[simp] theorem State.modOrder_presetter (f : OrderBlock → OrderBlock) (s : State) : (s.modOrder f).presetter = s.presetter := rfl
@[simp] theorem State.modOrder_issues (f : OrderBlock → OrderBlock) (s : State) : (s.modOrder f).issues = s.issues := rfl
@[simp] theorem State.modOrder_link (f : OrderBlock → OrderBlock) (s : State) : (s.modOrder f).link = s.link := rfl
@[simp] theorem State.modOrder_reports (f : OrderBlock → OrderBlock) (s : State) : (s.modOrder f).reports = s.reports := rfl
@[simp] theorem State.modOrder_board (f : OrderBlock → OrderBlock) (s : State) : (s.modOrder f).board = s.board := rfl
@[simp] theorem State.modOrder_freeCount (f : OrderBlock → OrderBlock) (s : State) : (s.modOrder f).freeCount = s.freeCount := rfl

@[simp] theorem State.modTools_pending (f : List Tool → List Tool) (s : State) : (s.modTools f).pending = s.pending := rfl
@[simp] theorem State.modTools_order (f : List Tool → List Tool) (s : State) : (s.modTools f).order = s.order := rfl
@[simp] theorem State.modTools_tools (f : List Tool → List Tool) (s : State) : (s.modTools f).tools = f s.tools := rfl
@[simp] theorem State.modTools_crib (f : List Tool → List Tool) (s : State) : (s.modTools f).crib = s.crib := rfl
@[simp] theorem State.modTools_presetter (f : List Tool → List Tool) (s : State) : (s.modTools f).presetter = s.presetter := rfl
@[simp] theorem State.modTools_issues (f : List Tool → List Tool) (s : State) : (s.modTools f).issues = s.issues := rfl
@[simp] theorem State.modTools_link (f : List Tool → List Tool) (s : State) : (s.modTools f).link = s.link := rfl
@[simp] theorem State.modTools_reports (f : List Tool → List Tool) (s : State) : (s.modTools f).reports = s.reports := rfl
@[simp] theorem State.modTools_board (f : List Tool → List Tool) (s : State) : (s.modTools f).board = s.board := rfl
@[simp] theorem State.modTools_freeCount (f : List Tool → List Tool) (s : State) : (s.modTools f).freeCount = s.freeCount := rfl
@[simp] theorem State.modTools_slot (f : List Tool → List Tool) (s : State) : (s.modTools f).slot = s.slot := rfl

@[simp] theorem State.modCrib_pending (f : Crib → Crib) (s : State) : (s.modCrib f).pending = s.pending := rfl
@[simp] theorem State.modCrib_order (f : Crib → Crib) (s : State) : (s.modCrib f).order = s.order := rfl
@[simp] theorem State.modCrib_tools (f : Crib → Crib) (s : State) : (s.modCrib f).tools = s.tools := rfl
@[simp] theorem State.modCrib_crib (f : Crib → Crib) (s : State) : (s.modCrib f).crib = f s.crib := rfl
@[simp] theorem State.modCrib_presetter (f : Crib → Crib) (s : State) : (s.modCrib f).presetter = s.presetter := rfl
@[simp] theorem State.modCrib_issues (f : Crib → Crib) (s : State) : (s.modCrib f).issues = s.issues := rfl
@[simp] theorem State.modCrib_link (f : Crib → Crib) (s : State) : (s.modCrib f).link = s.link := rfl
@[simp] theorem State.modCrib_reports (f : Crib → Crib) (s : State) : (s.modCrib f).reports = s.reports := rfl
@[simp] theorem State.modCrib_board (f : Crib → Crib) (s : State) : (s.modCrib f).board = s.board := rfl
@[simp] theorem State.modCrib_freeCount (f : Crib → Crib) (s : State) : (s.modCrib f).freeCount = s.freeCount := rfl
@[simp] theorem State.modCrib_slot (f : Crib → Crib) (s : State) : (s.modCrib f).slot = s.slot := rfl

@[simp] theorem State.modPresetter_pending (f : Presetter → Presetter) (s : State) : (s.modPresetter f).pending = s.pending := rfl
@[simp] theorem State.modPresetter_order (f : Presetter → Presetter) (s : State) : (s.modPresetter f).order = s.order := rfl
@[simp] theorem State.modPresetter_tools (f : Presetter → Presetter) (s : State) : (s.modPresetter f).tools = s.tools := rfl
@[simp] theorem State.modPresetter_crib (f : Presetter → Presetter) (s : State) : (s.modPresetter f).crib = s.crib := rfl
@[simp] theorem State.modPresetter_presetter (f : Presetter → Presetter) (s : State) : (s.modPresetter f).presetter = f s.presetter := rfl
@[simp] theorem State.modPresetter_issues (f : Presetter → Presetter) (s : State) : (s.modPresetter f).issues = s.issues := rfl
@[simp] theorem State.modPresetter_link (f : Presetter → Presetter) (s : State) : (s.modPresetter f).link = s.link := rfl
@[simp] theorem State.modPresetter_reports (f : Presetter → Presetter) (s : State) : (s.modPresetter f).reports = s.reports := rfl
@[simp] theorem State.modPresetter_board (f : Presetter → Presetter) (s : State) : (s.modPresetter f).board = s.board := rfl
@[simp] theorem State.modPresetter_freeCount (f : Presetter → Presetter) (s : State) : (s.modPresetter f).freeCount = s.freeCount := rfl
@[simp] theorem State.modPresetter_slot (f : Presetter → Presetter) (s : State) : (s.modPresetter f).slot = s.slot := rfl

@[simp] theorem State.modIssues_pending (f : IssueManager → IssueManager) (s : State) : (s.modIssues f).pending = s.pending := rfl
@[simp] theorem State.modIssues_order (f : IssueManager → IssueManager) (s : State) : (s.modIssues f).order = s.order := rfl
@[simp] theorem State.modIssues_tools (f : IssueManager → IssueManager) (s : State) : (s.modIssues f).tools = s.tools := rfl
@[simp] theorem State.modIssues_crib (f : IssueManager → IssueManager) (s : State) : (s.modIssues f).crib = s.crib := rfl
@[simp] theorem State.modIssues_presetter (f : IssueManager → IssueManager) (s : State) : (s.modIssues f).presetter = s.presetter := rfl
@[simp] theorem State.modIssues_issues (f : IssueManager → IssueManager) (s : State) : (s.modIssues f).issues = f s.issues := rfl
@[simp] theorem State.modIssues_link (f : IssueManager → IssueManager) (s : State) : (s.modIssues f).link = s.link := rfl
@[simp] theorem State.modIssues_reports (f : IssueManager → IssueManager) (s : State) : (s.modIssues f).reports = s.reports := rfl
@[simp] theorem State.modIssues_board (f : IssueManager → IssueManager) (s : State) : (s.modIssues f).board = s.board := rfl
@[simp] theorem State.modIssues_freeCount (f : IssueManager → IssueManager) (s : State) : (s.modIssues f).freeCount = s.freeCount := rfl
@[simp] theorem State.modIssues_slot (f : IssueManager → IssueManager) (s : State) : (s.modIssues f).slot = s.slot := rfl

@[simp] theorem State.modLink_pending (f : Link → Link) (s : State) : (s.modLink f).pending = s.pending := rfl
@[simp] theorem State.modLink_order (f : Link → Link) (s : State) : (s.modLink f).order = s.order := rfl
@[simp] theorem State.modLink_tools (f : Link → Link) (s : State) : (s.modLink f).tools = s.tools := rfl
@[simp] theorem State.modLink_crib (f : Link → Link) (s : State) : (s.modLink f).crib = s.crib := rfl
@[simp] theorem State.modLink_presetter (f : Link → Link) (s : State) : (s.modLink f).presetter = s.presetter := rfl
@[simp] theorem State.modLink_issues (f : Link → Link) (s : State) : (s.modLink f).issues = s.issues := rfl
@[simp] theorem State.modLink_link (f : Link → Link) (s : State) : (s.modLink f).link = f s.link := rfl
@[simp] theorem State.modLink_reports (f : Link → Link) (s : State) : (s.modLink f).reports = s.reports := rfl
@[simp] theorem State.modLink_board (f : Link → Link) (s : State) : (s.modLink f).board = s.board := rfl
@[simp] theorem State.modLink_freeCount (f : Link → Link) (s : State) : (s.modLink f).freeCount = s.freeCount := rfl
@[simp] theorem State.modLink_slot (f : Link → Link) (s : State) : (s.modLink f).slot = s.slot := rfl

@[simp] theorem State.modReports_pending (f : ReportWriter → ReportWriter) (s : State) : (s.modReports f).pending = s.pending := rfl
@[simp] theorem State.modReports_order (f : ReportWriter → ReportWriter) (s : State) : (s.modReports f).order = s.order := rfl
@[simp] theorem State.modReports_tools (f : ReportWriter → ReportWriter) (s : State) : (s.modReports f).tools = s.tools := rfl
@[simp] theorem State.modReports_crib (f : ReportWriter → ReportWriter) (s : State) : (s.modReports f).crib = s.crib := rfl
@[simp] theorem State.modReports_presetter (f : ReportWriter → ReportWriter) (s : State) : (s.modReports f).presetter = s.presetter := rfl
@[simp] theorem State.modReports_issues (f : ReportWriter → ReportWriter) (s : State) : (s.modReports f).issues = s.issues := rfl
@[simp] theorem State.modReports_link (f : ReportWriter → ReportWriter) (s : State) : (s.modReports f).link = s.link := rfl
@[simp] theorem State.modReports_reports (f : ReportWriter → ReportWriter) (s : State) : (s.modReports f).reports = f s.reports := rfl
@[simp] theorem State.modReports_board (f : ReportWriter → ReportWriter) (s : State) : (s.modReports f).board = s.board := rfl
@[simp] theorem State.modReports_freeCount (f : ReportWriter → ReportWriter) (s : State) : (s.modReports f).freeCount = s.freeCount := rfl
@[simp] theorem State.modReports_slot (f : ReportWriter → ReportWriter) (s : State) : (s.modReports f).slot = s.slot := rfl

@[simp] theorem State.modBoard_pending (f : Memory → Memory) (s : State) : (s.modBoard f).pending = s.pending := rfl
@[simp] theorem State.modBoard_order (f : Memory → Memory) (s : State) : (s.modBoard f).order = s.order := rfl
@[simp] theorem State.modBoard_tools (f : Memory → Memory) (s : State) : (s.modBoard f).tools = s.tools := rfl
@[simp] theorem State.modBoard_crib (f : Memory → Memory) (s : State) : (s.modBoard f).crib = s.crib := rfl
@[simp] theorem State.modBoard_presetter (f : Memory → Memory) (s : State) : (s.modBoard f).presetter = s.presetter := rfl
@[simp] theorem State.modBoard_issues (f : Memory → Memory) (s : State) : (s.modBoard f).issues = s.issues := rfl
@[simp] theorem State.modBoard_link (f : Memory → Memory) (s : State) : (s.modBoard f).link = s.link := rfl
@[simp] theorem State.modBoard_reports (f : Memory → Memory) (s : State) : (s.modBoard f).reports = s.reports := rfl
@[simp] theorem State.modBoard_board (f : Memory → Memory) (s : State) : (s.modBoard f).board = f s.board := rfl
@[simp] theorem State.modBoard_freeCount (f : Memory → Memory) (s : State) : (s.modBoard f).freeCount = s.freeCount := rfl
@[simp] theorem State.modBoard_slot (f : Memory → Memory) (s : State) : (s.modBoard f).slot = s.slot := rfl

/-- The crib clock is a field of the Order Port and Engine; simp reads it there. -/
@[simp] theorem State.clock_eq (s : State) : s.clock = s.order.clock := rfl

/-! ## Entries of collections -/

/-- An entry of a vector after one entry is set. -/
theorem get_set {α : Type} {n : Nat} (v : Vector α n) (i j : Fin n) (x : α) :
    (v.set i.1 x i.2).get j = if i = j then x else v.get j := by
  simp only [Vector.get_eq_getElem, Vector.getElem_set, Fin.ext_iff]

/-- An entry of a vector of equal entries. -/
theorem get_replicate {α : Type} {n : Nat} (x : α) (j : Fin n) : (Vector.replicate n x).get j = x := by
  simp [Vector.get_eq_getElem]

/-- An entry of a vector with every entry changed. -/
theorem get_mapVec {α : Type} {n : Nat} (f : α → α) (v : Vector α n) (j : Fin n) :
    (mapVec f v).get j = f (v.get j) := by
  simp [mapVec, Vector.get_eq_getElem]

theorem State.slot_setSlot (n m : SlotNo) (x : Slot) (s : State) :
    (s.setSlot n x).slot m = if n = m then x else s.slot m := get_set ..

theorem State.pocket_modPocket (p q : PocketNo) (f : Pocket → Pocket) (s : State) :
    (s.modPocket p f).pocket q = if p = q then f (s.pocket p) else s.pocket q := get_set ..

theorem State.pocket_changePocket (p q : PocketNo) (f : Pocket → Pocket) (s : State) :
    (s.changePocket p f).pocket q = if p = q then { f (s.pocket p) with stamp := s.clock } else s.pocket q :=
  get_set ..

theorem State.cell_modCell (c d : CellNo) (f : Cell → Cell) (s : State) :
    (s.modCell c f).cell d = if c = d then f (s.cell c) else s.cell d := get_set ..

theorem State.issueRec_modIssue (i j : IssueNo) (f : Issue → Issue) (s : State) :
    (s.modIssue i f).issueRec j =
      if i = j then { s.issueRec i with issue := (s.issueRec i).issue.map f } else s.issueRec j := get_set ..

theorem State.axis_modAxis (a b : Axis) (f : AxisRec → AxisRec) (s : State) :
    (s.modAxis a f).axis b = if a = b then f (s.axis a) else s.axis b := by
  cases a <;> cases b <;> rfl

/-- A record read back after a change that keeps tool numbers (R1). -/
theorem State.findTool_modTool (t u : Nat) (f : Tool → Tool) (s : State) (number : ∀ x, (f x).number = x.number) :
    (s.modTool t f).findTool u = if u = t then (s.findTool u).map f else s.findTool u := by
  simp only [State.findTool, State.modTool, State.modTools_tools, List.find?_map]
  by_cases eq : u = t
  · subst eq
    simp only [if_true]
    induction s.tools with
    | nil => rfl
    | cons x xs ih =>
      by_cases h : x.number = u <;> simp_all
  · simp only [eq, if_false]
    induction s.tools with
    | nil => rfl
    | cons x xs ih =>
      by_cases h : x.number = u
      · have : x.number ≠ t := fun e => eq (h ▸ e)
        simp_all
      · by_cases k : x.number = t <;> simp_all

end Sys2Proof.Machine
end

