-- ==== Sys2Proof/Laws/FramesShared.lean ====
section
/-! SUPPORT. What the shared operations leave alone: for each operation, the blocks it does not touch, and of those it does,
the parts that Safety.lean names. -/

namespace Sys2Proof.Machine

/-- The parts of a pair that an equation names. -/
theorem pair_eq {α β : Type} {e : α × β} {t : α} {x : β} : e = (t, x) ↔ t = e.1 ∧ x = e.2 := by
  constructor
  · rintro rfl
    exact ⟨rfl, rfl⟩
  · rintro ⟨rfl, rfl⟩
    rfl

/-- What every round of a fold keeps, the fold keeps. -/
theorem foldl_keeps {α β : Type} (view : State → β) (f : State → α → State) (keeps : ∀ s a, view (f s a) = view s)
    (l : List α) (s : State) : view (l.foldl f s) = view s := by
  induction l generalizing s with
  | nil => rfl
  | cons a l ih => rw [List.foldl_cons, ih, keeps]

@[simp] theorem State.modTool_frame (t : Nat) (f : Tool → Tool) (s : State) :
    (s.modTool t f).pending = s.pending ∧
      (s.modTool t f).order = s.order ∧
      (s.modTool t f).crib = s.crib ∧
      (s.modTool t f).presetter = s.presetter ∧
      (s.modTool t f).issues = s.issues ∧
      (s.modTool t f).link = s.link ∧
      (s.modTool t f).reports = s.reports ∧
      (s.modTool t f).board = s.board ∧
      (s.modTool t f).freeCount = s.freeCount := by and_intros <;> rfl

@[simp] theorem State.dropTool_frame (t : Nat) (s : State) :
    (s.dropTool t).pending = s.pending ∧
      (s.dropTool t).order = s.order ∧
      (s.dropTool t).crib = s.crib ∧
      (s.dropTool t).presetter = s.presetter ∧
      (s.dropTool t).issues = s.issues ∧
      (s.dropTool t).link = s.link ∧
      (s.dropTool t).reports = s.reports ∧
      (s.dropTool t).board = s.board ∧
      (s.dropTool t).freeCount = s.freeCount := by and_intros <;> rfl

@[simp] theorem State.claimTool_frame (t : Nat) (owner : Owner) (s : State) :
    (s.claimTool t owner).pending = s.pending ∧
      (s.claimTool t owner).order = s.order ∧
      (s.claimTool t owner).crib = s.crib ∧
      (s.claimTool t owner).presetter = s.presetter ∧
      (s.claimTool t owner).issues = s.issues ∧
      (s.claimTool t owner).link = s.link ∧
      (s.claimTool t owner).reports = s.reports ∧
      (s.claimTool t owner).board = s.board ∧
      (s.claimTool t owner).freeCount = s.freeCount := by and_intros <;> rfl

@[simp] theorem State.releaseAs_frame (t : Nat) (named : ToolState) (s : State) :
    (s.releaseAs t named).pending = s.pending ∧
      (s.releaseAs t named).order = s.order ∧
      (s.releaseAs t named).crib = s.crib ∧
      (s.releaseAs t named).presetter = s.presetter ∧
      (s.releaseAs t named).issues = s.issues ∧
      (s.releaseAs t named).link = s.link ∧
      (s.releaseAs t named).reports = s.reports ∧
      (s.releaseAs t named).board = s.board ∧
      (s.releaseAs t named).freeCount = s.freeCount := by and_intros <;> rfl

@[simp] theorem State.releaseBack_frame (t : Nat) (s : State) :
    (s.releaseBack t).pending = s.pending ∧
      (s.releaseBack t).order = s.order ∧
      (s.releaseBack t).crib = s.crib ∧
      (s.releaseBack t).presetter = s.presetter ∧
      (s.releaseBack t).issues = s.issues ∧
      (s.releaseBack t).link = s.link ∧
      (s.releaseBack t).reports = s.reports ∧
      (s.releaseBack t).board = s.board ∧
      (s.releaseBack t).freeCount = s.freeCount := by and_intros <;> rfl

@[simp] theorem State.setSlot_frame (n : SlotNo) (x : Slot) (s : State) :
    (s.setSlot n x).pending = s.pending ∧
      (s.setSlot n x).tools = s.tools ∧
      (s.setSlot n x).crib = s.crib ∧
      (s.setSlot n x).presetter = s.presetter ∧
      (s.setSlot n x).issues = s.issues ∧
      (s.setSlot n x).link = s.link ∧
      (s.setSlot n x).reports = s.reports ∧
      (s.setSlot n x).board = s.board ∧
      (s.setSlot n x).freeCount = s.freeCount ∧
      (s.setSlot n x).order.portPart = s.order.portPart ∧
      (s.setSlot n x).order.clock = s.order.clock := by and_intros <;> rfl

@[simp] theorem State.setWork_frame (n : SlotNo) (w : Work) (s : State) :
    (s.setWork n w).pending = s.pending ∧
      (s.setWork n w).tools = s.tools ∧
      (s.setWork n w).crib = s.crib ∧
      (s.setWork n w).presetter = s.presetter ∧
      (s.setWork n w).issues = s.issues ∧
      (s.setWork n w).link = s.link ∧
      (s.setWork n w).reports = s.reports ∧
      (s.setWork n w).board = s.board ∧
      (s.setWork n w).freeCount = s.freeCount ∧
      (s.setWork n w).order.portPart = s.order.portPart ∧
      (s.setWork n w).order.clock = s.order.clock := by
  unfold State.setWork
  repeat' split
  all_goals simp_all

@[simp] theorem State.completeWith_frame (n : SlotNo) (status : Status) (result buffer : List Byte) (s : State) :
    (s.completeWith n status result buffer).pending = s.pending ∧
      (s.completeWith n status result buffer).tools = s.tools ∧
      (s.completeWith n status result buffer).crib = s.crib ∧
      (s.completeWith n status result buffer).presetter = s.presetter ∧
      (s.completeWith n status result buffer).issues = s.issues ∧
      (s.completeWith n status result buffer).link = s.link ∧
      (s.completeWith n status result buffer).reports = s.reports ∧
      (s.completeWith n status result buffer).board = s.board ∧
      (s.completeWith n status result buffer).freeCount = s.freeCount ∧
      (s.completeWith n status result buffer).order.portPart = s.order.portPart ∧
      (s.completeWith n status result buffer).order.clock = s.order.clock := by
  unfold State.completeWith
  and_intros
  all_goals repeat' split
  all_goals first | rfl | simp_all

@[simp] theorem State.complete_frame (n : SlotNo) (status : Status) (result : List Byte) (s : State) :
    (s.complete n status result).pending = s.pending ∧
      (s.complete n status result).tools = s.tools ∧
      (s.complete n status result).crib = s.crib ∧
      (s.complete n status result).presetter = s.presetter ∧
      (s.complete n status result).issues = s.issues ∧
      (s.complete n status result).link = s.link ∧
      (s.complete n status result).reports = s.reports ∧
      (s.complete n status result).board = s.board ∧
      (s.complete n status result).freeCount = s.freeCount ∧
      (s.complete n status result).order.portPart = s.order.portPart ∧
      (s.complete n status result).order.clock = s.order.clock := by simp [State.complete]

@[simp] theorem State.refuse_frame (n : SlotNo) (status : Status) (s : State) :
    (s.refuse n status).pending = s.pending ∧
      (s.refuse n status).tools = s.tools ∧
      (s.refuse n status).crib = s.crib ∧
      (s.refuse n status).presetter = s.presetter ∧
      (s.refuse n status).issues = s.issues ∧
      (s.refuse n status).link = s.link ∧
      (s.refuse n status).reports = s.reports ∧
      (s.refuse n status).board = s.board ∧
      (s.refuse n status).freeCount = s.freeCount ∧
      (s.refuse n status).order.portPart = s.order.portPart ∧
      (s.refuse n status).order.clock = s.order.clock := by simp [State.refuse]

@[simp] theorem State.settle_frame (s : State) :
    s.settle.pending = s.pending ∧
      s.settle.tools = s.tools ∧
      s.settle.crib = s.crib ∧
      s.settle.presetter = s.presetter ∧
      s.settle.issues = s.issues ∧
      s.settle.link = s.link ∧
      s.settle.reports = s.reports ∧
      s.settle.board = s.board ∧
      s.settle.freeCount = s.freeCount ∧
      s.settle.order.portPart = s.order.portPart ∧
      s.settle.order.clock = s.order.clock := by and_intros <;> rfl

@[simp] theorem State.placeCribState_frame (s : State) :
    s.placeCribState.pending = s.pending ∧
      s.placeCribState.order = s.order ∧
      s.placeCribState.tools = s.tools ∧
      s.placeCribState.crib = s.crib ∧
      s.placeCribState.presetter = s.presetter ∧
      s.placeCribState.issues = s.issues ∧
      s.placeCribState.reports = s.reports ∧
      s.placeCribState.board = s.board ∧
      s.placeCribState.freeCount = s.freeCount ∧
      s.placeCribState.link.configPart = s.link.configPart := by and_intros <;> rfl

@[simp] theorem State.enterStall_frame (s : State) :
    s.enterStall.pending = s.pending ∧
      s.enterStall.tools = s.tools ∧
      s.enterStall.crib = s.crib ∧
      s.enterStall.presetter = s.presetter ∧
      s.enterStall.issues = s.issues ∧
      s.enterStall.board = s.board ∧
      s.enterStall.freeCount = s.freeCount ∧
      s.enterStall.order.portPart = s.order.portPart ∧
      s.enterStall.order.clock = s.order.clock ∧
      s.enterStall.link.configPart = s.link.configPart ∧
      s.enterStall.reports.countPart = s.reports.countPart := by and_intros <;> rfl

@[simp] theorem State.leaveStall_frame (s : State) :
    s.leaveStall.pending = s.pending ∧
      s.leaveStall.order = s.order ∧
      s.leaveStall.tools = s.tools ∧
      s.leaveStall.crib = s.crib ∧
      s.leaveStall.presetter = s.presetter ∧
      s.leaveStall.issues = s.issues ∧
      s.leaveStall.board = s.board ∧
      s.leaveStall.freeCount = s.freeCount ∧
      s.leaveStall.link.configPart = s.link.configPart ∧
      s.leaveStall.reports.countPart = s.reports.countPart := by and_intros <;> rfl

@[simp] theorem State.handReport_frame (r : Report) (s : State) :
    (s.handReport r).pending = s.pending ∧
      (s.handReport r).tools = s.tools ∧
      (s.handReport r).crib = s.crib ∧
      (s.handReport r).presetter = s.presetter ∧
      (s.handReport r).issues = s.issues ∧
      (s.handReport r).board = s.board ∧
      (s.handReport r).freeCount = s.freeCount ∧
      (s.handReport r).order.portPart = s.order.portPart ∧
      (s.handReport r).order.clock = s.order.clock ∧
      (s.handReport r).link.configPart = s.link.configPart ∧
      (s.handReport r).reports.countPart = s.reports.countPart := by
  simp only [State.handReport]
  and_intros
  all_goals repeat' split
  all_goals first | rfl | simp_all [pair_eq]

@[simp] theorem State.writeAccesses_frame (as : List (List Host.Cell)) (s : State) :
    (s.writeAccesses as).pending = s.pending ∧
      (s.writeAccesses as).order = s.order ∧
      (s.writeAccesses as).tools = s.tools ∧
      (s.writeAccesses as).crib = s.crib ∧
      (s.writeAccesses as).presetter = s.presetter ∧
      (s.writeAccesses as).issues = s.issues ∧
      (s.writeAccesses as).link = s.link ∧
      (s.writeAccesses as).reports = s.reports ∧
      (s.writeAccesses as).freeCount = s.freeCount := by and_intros <;> rfl

@[simp] theorem State.writePart_frame (good : Nat) (s : State) :
    (s.writePart good).pending = s.pending ∧
      (s.writePart good).order = s.order ∧
      (s.writePart good).tools = s.tools ∧
      (s.writePart good).crib = s.crib ∧
      (s.writePart good).presetter = s.presetter ∧
      (s.writePart good).issues = s.issues ∧
      (s.writePart good).link = s.link ∧
      (s.writePart good).reports = s.reports ∧
      (s.writePart good).freeCount = s.freeCount := by and_intros <;> rfl

@[simp] theorem State.taken_frame (n : SlotNo) (kind : Nat) (img : SlotImage) (s : State) :
    (s.taken n kind img).pending = s.pending ∧
      (s.taken n kind img).tools = s.tools ∧
      (s.taken n kind img).crib = s.crib ∧
      (s.taken n kind img).presetter = s.presetter ∧
      (s.taken n kind img).issues = s.issues ∧
      (s.taken n kind img).link = s.link ∧
      (s.taken n kind img).reports = s.reports ∧
      (s.taken n kind img).board = s.board ∧
      (s.taken n kind img).freeCount = s.freeCount ∧
      (s.taken n kind img).order.clock = s.order.clock := by and_intros <;> rfl

@[simp] theorem State.modPocket_frame (p : PocketNo) (f : Pocket → Pocket) (s : State) :
    (s.modPocket p f).pending = s.pending ∧
      (s.modPocket p f).order = s.order ∧
      (s.modPocket p f).tools = s.tools ∧
      (s.modPocket p f).presetter = s.presetter ∧
      (s.modPocket p f).issues = s.issues ∧
      (s.modPocket p f).link = s.link ∧
      (s.modPocket p f).reports = s.reports ∧
      (s.modPocket p f).board = s.board ∧
      (s.modPocket p f).freeCount = s.freeCount ∧
      (s.modPocket p f).crib.layoutPart = s.crib.layoutPart := by and_intros <;> rfl

@[simp] theorem State.changePocket_frame (p : PocketNo) (f : Pocket → Pocket) (s : State) :
    (s.changePocket p f).pending = s.pending ∧
      (s.changePocket p f).order = s.order ∧
      (s.changePocket p f).tools = s.tools ∧
      (s.changePocket p f).presetter = s.presetter ∧
      (s.changePocket p f).issues = s.issues ∧
      (s.changePocket p f).link = s.link ∧
      (s.changePocket p f).reports = s.reports ∧
      (s.changePocket p f).board = s.board ∧
      (s.changePocket p f).freeCount = s.freeCount ∧
      (s.changePocket p f).crib.layoutPart = s.crib.layoutPart := by and_intros <;> rfl

@[simp] theorem State.sendUnlock_frame (p : PocketNo) (s : State) :
    (s.sendUnlock p).pending = s.pending ∧
      (s.sendUnlock p).order = s.order ∧
      (s.sendUnlock p).tools = s.tools ∧
      (s.sendUnlock p).presetter = s.presetter ∧
      (s.sendUnlock p).issues = s.issues ∧
      (s.sendUnlock p).link = s.link ∧
      (s.sendUnlock p).reports = s.reports ∧
      (s.sendUnlock p).board = s.board ∧
      (s.sendUnlock p).freeCount = s.freeCount ∧
      (s.sendUnlock p).crib.layoutPart = s.crib.layoutPart := by and_intros <;> rfl

@[simp] theorem State.sendRelock_frame (p : PocketNo) (s : State) :
    (s.sendRelock p).pending = s.pending ∧
      (s.sendRelock p).order = s.order ∧
      (s.sendRelock p).tools = s.tools ∧
      (s.sendRelock p).presetter = s.presetter ∧
      (s.sendRelock p).issues = s.issues ∧
      (s.sendRelock p).link = s.link ∧
      (s.sendRelock p).reports = s.reports ∧
      (s.sendRelock p).board = s.board ∧
      (s.sendRelock p).freeCount = s.freeCount ∧
      (s.sendRelock p).crib.layoutPart = s.crib.layoutPart := by and_intros <;> rfl

@[simp] theorem State.modRequest_frame (num : Nat) (f : Request → Request) (s : State) :
    (s.modRequest num f).pending = s.pending ∧
      (s.modRequest num f).order = s.order ∧
      (s.modRequest num f).tools = s.tools ∧
      (s.modRequest num f).presetter = s.presetter ∧
      (s.modRequest num f).issues = s.issues ∧
      (s.modRequest num f).link = s.link ∧
      (s.modRequest num f).reports = s.reports ∧
      (s.modRequest num f).board = s.board ∧
      (s.modRequest num f).freeCount = s.freeCount ∧
      (s.modRequest num f).crib.layoutPart = s.crib.layoutPart := by and_intros <;> rfl

@[simp] theorem State.endRequest_frame (r : Request) (s : State) :
    (s.endRequest r).pending = s.pending ∧
      (s.endRequest r).order = s.order ∧
      (s.endRequest r).tools = s.tools ∧
      (s.endRequest r).presetter = s.presetter ∧
      (s.endRequest r).issues = s.issues ∧
      (s.endRequest r).link = s.link ∧
      (s.endRequest r).reports = s.reports ∧
      (s.endRequest r).board = s.board ∧
      (s.endRequest r).freeCount = s.freeCount ∧
      (s.endRequest r).crib.layoutPart = s.crib.layoutPart := by and_intros <;> rfl

@[simp] theorem State.placeRequest_frame (mv : Movement) (p : PocketNo) (tool : Option Nat) (owner : Owner) (s : State) :
    (s.placeRequest mv p tool owner).1.pending = s.pending ∧
      (s.placeRequest mv p tool owner).1.order = s.order ∧
      (s.placeRequest mv p tool owner).1.tools = s.tools ∧
      (s.placeRequest mv p tool owner).1.presetter = s.presetter ∧
      (s.placeRequest mv p tool owner).1.issues = s.issues ∧
      (s.placeRequest mv p tool owner).1.link = s.link ∧
      (s.placeRequest mv p tool owner).1.reports = s.reports ∧
      (s.placeRequest mv p tool owner).1.board = s.board ∧
      (s.placeRequest mv p tool owner).1.freeCount = s.freeCount ∧
      (s.placeRequest mv p tool owner).1.crib.layoutPart = s.crib.layoutPart := by
  simp only [State.placeRequest]
  and_intros
  all_goals repeat' split
  all_goals first | rfl | simp_all [pair_eq]

@[simp] theorem State.requestRemoval_frame (mv : Movement) (p : PocketNo) (owner : Owner) (s : State) :
    (s.requestRemoval mv p owner).1.pending = s.pending ∧
      (s.requestRemoval mv p owner).1.order = s.order ∧
      (s.requestRemoval mv p owner).1.tools = s.tools ∧
      (s.requestRemoval mv p owner).1.presetter = s.presetter ∧
      (s.requestRemoval mv p owner).1.issues = s.issues ∧
      (s.requestRemoval mv p owner).1.link = s.link ∧
      (s.requestRemoval mv p owner).1.reports = s.reports ∧
      (s.requestRemoval mv p owner).1.board = s.board ∧
      (s.requestRemoval mv p owner).1.freeCount = s.freeCount ∧
      (s.requestRemoval mv p owner).1.crib.layoutPart = s.crib.layoutPart := by
  unfold State.requestRemoval
  and_intros
  all_goals repeat' split
  all_goals first | rfl | simp_all [pair_eq]

@[simp] theorem State.requestInsertion_frame (mv : Movement) (tool : Nat) (owner : Owner) (s : State) :
    (s.requestInsertion mv tool owner).1.pending = s.pending ∧
      (s.requestInsertion mv tool owner).1.order = s.order ∧
      (s.requestInsertion mv tool owner).1.tools = s.tools ∧
      (s.requestInsertion mv tool owner).1.presetter = s.presetter ∧
      (s.requestInsertion mv tool owner).1.issues = s.issues ∧
      (s.requestInsertion mv tool owner).1.link = s.link ∧
      (s.requestInsertion mv tool owner).1.reports = s.reports ∧
      (s.requestInsertion mv tool owner).1.board = s.board ∧
      (s.requestInsertion mv tool owner).1.freeCount = s.freeCount ∧
      (s.requestInsertion mv tool owner).1.crib.layoutPart = s.crib.layoutPart := by
  simp only [State.requestInsertion]
  and_intros
  all_goals repeat' split
  all_goals first | rfl | simp_all [pair_eq]

@[simp] theorem State.startOne_frame (s : State) :
    s.startOne.pending = s.pending ∧
      s.startOne.order = s.order ∧
      s.startOne.tools = s.tools ∧
      s.startOne.presetter = s.presetter ∧
      s.startOne.issues = s.issues ∧
      s.startOne.link = s.link ∧
      s.startOne.reports = s.reports ∧
      s.startOne.board = s.board ∧
      s.startOne.freeCount = s.freeCount ∧
      s.startOne.crib.layoutPart = s.crib.layoutPart := by
  unfold State.startOne
  repeat' split
  all_goals simp_all

/-- What every round of a repetition keeps, the repetition keeps. -/
theorem repeatStep_keeps {β : Type} (view : State → β) (f : State → State) (keeps : ∀ s, view (f s) = view s) (n : Nat)
    (s : State) : view (repeatStep f n s) = view s := by
  induction n generalizing s with
  | zero => rfl
  | succ n ih => rw [repeatStep, ih, keeps]

@[simp] theorem State.startQueued_frame (s : State) :
    s.startQueued.pending = s.pending ∧
      s.startQueued.order = s.order ∧
      s.startQueued.tools = s.tools ∧
      s.startQueued.presetter = s.presetter ∧
      s.startQueued.issues = s.issues ∧
      s.startQueued.link = s.link ∧
      s.startQueued.reports = s.reports ∧
      s.startQueued.board = s.board ∧
      s.startQueued.freeCount = s.freeCount ∧
      s.startQueued.crib.layoutPart = s.crib.layoutPart := by
  unfold State.startQueued
  and_intros
  · exact repeatStep_keeps (fun t => t.pending) _ (fun t => by simp) _ _
  · exact repeatStep_keeps (fun t => t.order) _ (fun t => by simp) _ _
  · exact repeatStep_keeps (fun t => t.tools) _ (fun t => by simp) _ _
  · exact repeatStep_keeps (fun t => t.presetter) _ (fun t => by simp) _ _
  · exact repeatStep_keeps (fun t => t.issues) _ (fun t => by simp) _ _
  · exact repeatStep_keeps (fun t => t.link) _ (fun t => by simp) _ _
  · exact repeatStep_keeps (fun t => t.reports) _ (fun t => by simp) _ _
  · exact repeatStep_keeps (fun t => t.board) _ (fun t => by simp) _ _
  · exact repeatStep_keeps (fun t => t.freeCount) _ (fun t => by simp) _ _
  · exact repeatStep_keeps (fun t => t.crib.layoutPart) _ (fun t => by simp) _ _


@[simp] theorem State.cancelRequest_frame (num : Nat) (s : State) :
    (s.cancelRequest num).1.pending = s.pending ∧
      (s.cancelRequest num).1.order = s.order ∧
      (s.cancelRequest num).1.tools = s.tools ∧
      (s.cancelRequest num).1.presetter = s.presetter ∧
      (s.cancelRequest num).1.issues = s.issues ∧
      (s.cancelRequest num).1.link = s.link ∧
      (s.cancelRequest num).1.reports = s.reports ∧
      (s.cancelRequest num).1.board = s.board ∧
      (s.cancelRequest num).1.freeCount = s.freeCount ∧
      (s.cancelRequest num).1.crib.layoutPart = s.crib.layoutPart := by
  unfold State.cancelRequest
  repeat' split
  all_goals simp_all

@[simp] theorem State.modCell_frame (c : CellNo) (f : Cell → Cell) (s : State) :
    (s.modCell c f).pending = s.pending ∧
      (s.modCell c f).order = s.order ∧
      (s.modCell c f).tools = s.tools ∧
      (s.modCell c f).crib = s.crib ∧
      (s.modCell c f).presetter = s.presetter ∧
      (s.modCell c f).issues = s.issues ∧
      (s.modCell c f).reports = s.reports ∧
      (s.modCell c f).board = s.board ∧
      (s.modCell c f).freeCount = s.freeCount ∧
      (s.modCell c f).link.configPart = s.link.configPart := by and_intros <;> rfl

@[simp] theorem State.grantOne_frame (s : State) :
    s.grantOne.pending = s.pending ∧
      s.grantOne.order = s.order ∧
      s.grantOne.tools = s.tools ∧
      s.grantOne.crib = s.crib ∧
      s.grantOne.presetter = s.presetter ∧
      s.grantOne.issues = s.issues ∧
      s.grantOne.reports = s.reports ∧
      s.grantOne.board = s.board ∧
      s.grantOne.freeCount = s.freeCount ∧
      s.grantOne.link.configPart = s.link.configPart := by
  unfold State.grantOne
  repeat' split
  all_goals simp_all

@[simp] theorem State.grantPoll_frame (s : State) :
    s.grantPoll.pending = s.pending ∧
      s.grantPoll.order = s.order ∧
      s.grantPoll.tools = s.tools ∧
      s.grantPoll.crib = s.crib ∧
      s.grantPoll.presetter = s.presetter ∧
      s.grantPoll.issues = s.issues ∧
      s.grantPoll.reports = s.reports ∧
      s.grantPoll.board = s.board ∧
      s.grantPoll.freeCount = s.freeCount ∧
      s.grantPoll.link.configPart = s.link.configPart := by
  unfold State.grantPoll
  repeat' split
  all_goals simp_all

@[simp] theorem State.grantBuffers_frame (s : State) :
    s.grantBuffers.pending = s.pending ∧
      s.grantBuffers.order = s.order ∧
      s.grantBuffers.tools = s.tools ∧
      s.grantBuffers.crib = s.crib ∧
      s.grantBuffers.presetter = s.presetter ∧
      s.grantBuffers.issues = s.issues ∧
      s.grantBuffers.reports = s.reports ∧
      s.grantBuffers.board = s.board ∧
      s.grantBuffers.freeCount = s.freeCount ∧
      s.grantBuffers.link.configPart = s.link.configPart := by
  unfold State.grantBuffers
  repeat' split
  all_goals simp_all

@[simp] theorem State.queueExchange_frame (c : CellNo) (p : Payload) (owner : ExchangeOwner) (s : State) :
    (s.queueExchange c p owner).1.pending = s.pending ∧
      (s.queueExchange c p owner).1.order = s.order ∧
      (s.queueExchange c p owner).1.tools = s.tools ∧
      (s.queueExchange c p owner).1.crib = s.crib ∧
      (s.queueExchange c p owner).1.presetter = s.presetter ∧
      (s.queueExchange c p owner).1.issues = s.issues ∧
      (s.queueExchange c p owner).1.reports = s.reports ∧
      (s.queueExchange c p owner).1.board = s.board ∧
      (s.queueExchange c p owner).1.freeCount = s.freeCount ∧
      (s.queueExchange c p owner).1.link.configPart = s.link.configPart := by
  unfold State.queueExchange
  repeat' split
  all_goals simp_all

@[simp] theorem State.queueDeny_frame (c : CellNo) (ref : RefKind) (value : Nat) (reason : Reason) (owner : ExchangeOwner) (s : State) :
    (s.queueDeny c ref value reason owner).1.pending = s.pending ∧
      (s.queueDeny c ref value reason owner).1.order = s.order ∧
      (s.queueDeny c ref value reason owner).1.tools = s.tools ∧
      (s.queueDeny c ref value reason owner).1.crib = s.crib ∧
      (s.queueDeny c ref value reason owner).1.presetter = s.presetter ∧
      (s.queueDeny c ref value reason owner).1.issues = s.issues ∧
      (s.queueDeny c ref value reason owner).1.reports = s.reports ∧
      (s.queueDeny c ref value reason owner).1.board = s.board ∧
      (s.queueDeny c ref value reason owner).1.freeCount = s.freeCount ∧
      (s.queueDeny c ref value reason owner).1.link.configPart = s.link.configPart := by simp [State.queueDeny]

@[simp] theorem State.recall_frame (c : CellNo) (owner : ExchangeOwner) (s : State) :
    (s.recall c owner).1.pending = s.pending ∧
      (s.recall c owner).1.order = s.order ∧
      (s.recall c owner).1.tools = s.tools ∧
      (s.recall c owner).1.crib = s.crib ∧
      (s.recall c owner).1.presetter = s.presetter ∧
      (s.recall c owner).1.issues = s.issues ∧
      (s.recall c owner).1.reports = s.reports ∧
      (s.recall c owner).1.board = s.board ∧
      (s.recall c owner).1.freeCount = s.freeCount ∧
      (s.recall c owner).1.link.configPart = s.link.configPart := by
  unfold State.recall
  repeat' split
  all_goals simp_all

@[simp] theorem State.detachAttempt_frame (c : CellNo) (s : State) :
    (s.detachAttempt c).pending = s.pending ∧
      (s.detachAttempt c).order = s.order ∧
      (s.detachAttempt c).tools = s.tools ∧
      (s.detachAttempt c).crib = s.crib ∧
      (s.detachAttempt c).presetter = s.presetter ∧
      (s.detachAttempt c).issues = s.issues ∧
      (s.detachAttempt c).reports = s.reports ∧
      (s.detachAttempt c).board = s.board ∧
      (s.detachAttempt c).freeCount = s.freeCount ∧
      (s.detachAttempt c).link.configPart = s.link.configPart := by and_intros <;> rfl

@[simp] theorem State.removeInFlight_frame (c : CellNo) (s : State) :
    (s.removeInFlight c).pending = s.pending ∧
      (s.removeInFlight c).order = s.order ∧
      (s.removeInFlight c).tools = s.tools ∧
      (s.removeInFlight c).crib = s.crib ∧
      (s.removeInFlight c).presetter = s.presetter ∧
      (s.removeInFlight c).issues = s.issues ∧
      (s.removeInFlight c).reports = s.reports ∧
      (s.removeInFlight c).board = s.board ∧
      (s.removeInFlight c).freeCount = s.freeCount ∧
      (s.removeInFlight c).link.configPart = s.link.configPart := by simp [State.removeInFlight]

@[simp] theorem State.endInFlight_frame (c : CellNo) (outcome : ExchangeOutcome) (s : State) :
    (s.endInFlight c outcome).1.pending = s.pending ∧
      (s.endInFlight c outcome).1.order = s.order ∧
      (s.endInFlight c outcome).1.tools = s.tools ∧
      (s.endInFlight c outcome).1.crib = s.crib ∧
      (s.endInFlight c outcome).1.presetter = s.presetter ∧
      (s.endInFlight c outcome).1.issues = s.issues ∧
      (s.endInFlight c outcome).1.reports = s.reports ∧
      (s.endInFlight c outcome).1.board = s.board ∧
      (s.endInFlight c outcome).1.freeCount = s.freeCount ∧
      (s.endInFlight c outcome).1.link.configPart = s.link.configPart := by
  unfold State.endInFlight
  repeat' split
  all_goals simp_all

@[simp] theorem State.setCount_frame (c : CellNo) (count : Nat) (cause : StandingCause) (s : State) :
    (s.setCount c count cause).pending = s.pending ∧
      (s.setCount c count cause).tools = s.tools ∧
      (s.setCount c count cause).crib = s.crib ∧
      (s.setCount c count cause).presetter = s.presetter ∧
      (s.setCount c count cause).issues = s.issues ∧
      (s.setCount c count cause).board = s.board ∧
      (s.setCount c count cause).freeCount = s.freeCount ∧
      (s.setCount c count cause).order.portPart = s.order.portPart ∧
      (s.setCount c count cause).order.clock = s.order.clock ∧
      (s.setCount c count cause).link.configPart = s.link.configPart ∧
      (s.setCount c count cause).reports.countPart = s.reports.countPart := by
  simp only [State.setCount]
  and_intros
  all_goals repeat' split
  all_goals first | rfl | simp_all [pair_eq]

@[simp] theorem State.countSuccess_frame (c : CellNo) (s : State) :
    (s.countSuccess c).pending = s.pending ∧
      (s.countSuccess c).tools = s.tools ∧
      (s.countSuccess c).crib = s.crib ∧
      (s.countSuccess c).presetter = s.presetter ∧
      (s.countSuccess c).issues = s.issues ∧
      (s.countSuccess c).board = s.board ∧
      (s.countSuccess c).freeCount = s.freeCount ∧
      (s.countSuccess c).order.portPart = s.order.portPart ∧
      (s.countSuccess c).order.clock = s.order.clock ∧
      (s.countSuccess c).link.configPart = s.link.configPart ∧
      (s.countSuccess c).reports.countPart = s.reports.countPart := by
  simp only [State.countSuccess]
  and_intros
  all_goals repeat' split
  all_goals first | rfl | simp_all [pair_eq]

@[simp] theorem State.countFailure_frame (c : CellNo) (poll : Bool) (s : State) :
    (s.countFailure c poll).pending = s.pending ∧
      (s.countFailure c poll).tools = s.tools ∧
      (s.countFailure c poll).crib = s.crib ∧
      (s.countFailure c poll).presetter = s.presetter ∧
      (s.countFailure c poll).issues = s.issues ∧
      (s.countFailure c poll).board = s.board ∧
      (s.countFailure c poll).freeCount = s.freeCount ∧
      (s.countFailure c poll).order.portPart = s.order.portPart ∧
      (s.countFailure c poll).order.clock = s.order.clock ∧
      (s.countFailure c poll).link.configPart = s.link.configPart ∧
      (s.countFailure c poll).reports.countPart = s.reports.countPart := by
  simp only [State.countFailure]
  and_intros
  all_goals repeat' split
  all_goals first | rfl | simp_all [pair_eq]

@[simp] theorem State.makeGood_frame (c : CellNo) (cause : StandingCause) (s : State) :
    (s.makeGood c cause).pending = s.pending ∧
      (s.makeGood c cause).tools = s.tools ∧
      (s.makeGood c cause).crib = s.crib ∧
      (s.makeGood c cause).presetter = s.presetter ∧
      (s.makeGood c cause).issues = s.issues ∧
      (s.makeGood c cause).board = s.board ∧
      (s.makeGood c cause).freeCount = s.freeCount ∧
      (s.makeGood c cause).order.portPart = s.order.portPart ∧
      (s.makeGood c cause).order.clock = s.order.clock ∧
      (s.makeGood c cause).link.configPart = s.link.configPart ∧
      (s.makeGood c cause).reports.countPart = s.reports.countPart := by
  simp only [State.makeGood]
  and_intros
  all_goals repeat' split
  all_goals first | rfl | simp_all [pair_eq]

@[simp] theorem State.takeBack_frame (c : CellNo) (s : State) :
    (s.takeBack c).1.pending = s.pending ∧
      (s.takeBack c).1.order = s.order ∧
      (s.takeBack c).1.tools = s.tools ∧
      (s.takeBack c).1.crib = s.crib ∧
      (s.takeBack c).1.presetter = s.presetter ∧
      (s.takeBack c).1.issues = s.issues ∧
      (s.takeBack c).1.reports = s.reports ∧
      (s.takeBack c).1.board = s.board ∧
      (s.takeBack c).1.freeCount = s.freeCount ∧
      (s.takeBack c).1.link.configPart = s.link.configPart := by
  simp only [State.takeBack]
  and_intros
  all_goals repeat' split
  all_goals first | rfl | simp_all [pair_eq]

@[simp] theorem State.retry_frame (c : CellNo) (s : State) :
    (s.retry c).pending = s.pending ∧
      (s.retry c).order = s.order ∧
      (s.retry c).tools = s.tools ∧
      (s.retry c).crib = s.crib ∧
      (s.retry c).presetter = s.presetter ∧
      (s.retry c).issues = s.issues ∧
      (s.retry c).reports = s.reports ∧
      (s.retry c).board = s.board ∧
      (s.retry c).freeCount = s.freeCount ∧
      (s.retry c).link.configPart = s.link.configPart := by and_intros <;> rfl

@[simp] theorem State.afterFailure_frame (c : CellNo) (s : State) :
    (s.afterFailure c).1.pending = s.pending ∧
      (s.afterFailure c).1.order = s.order ∧
      (s.afterFailure c).1.tools = s.tools ∧
      (s.afterFailure c).1.crib = s.crib ∧
      (s.afterFailure c).1.presetter = s.presetter ∧
      (s.afterFailure c).1.issues = s.issues ∧
      (s.afterFailure c).1.reports = s.reports ∧
      (s.afterFailure c).1.board = s.board ∧
      (s.afterFailure c).1.freeCount = s.freeCount ∧
      (s.afterFailure c).1.link.configPart = s.link.configPart := by
  unfold State.afterFailure
  repeat' split
  all_goals simp_all

@[simp] theorem State.failedTry_frame (c : CellNo) (s : State) :
    (s.failedTry c).1.pending = s.pending ∧
      (s.failedTry c).1.tools = s.tools ∧
      (s.failedTry c).1.crib = s.crib ∧
      (s.failedTry c).1.presetter = s.presetter ∧
      (s.failedTry c).1.issues = s.issues ∧
      (s.failedTry c).1.board = s.board ∧
      (s.failedTry c).1.freeCount = s.freeCount ∧
      (s.failedTry c).1.order.portPart = s.order.portPart ∧
      (s.failedTry c).1.order.clock = s.order.clock ∧
      (s.failedTry c).1.link.configPart = s.link.configPart ∧
      (s.failedTry c).1.reports.countPart = s.reports.countPart := by
  unfold State.failedTry
  repeat' split
  all_goals try extract_lets
  all_goals and_intros
  all_goals repeat' split
  all_goals simp_all +zetaDelta [pair_eq]

@[simp] theorem State.answerEnds_frame (c : CellNo) (outcome : ExchangeOutcome) (s : State) :
    (s.answerEnds c outcome).1.pending = s.pending ∧
      (s.answerEnds c outcome).1.tools = s.tools ∧
      (s.answerEnds c outcome).1.crib = s.crib ∧
      (s.answerEnds c outcome).1.presetter = s.presetter ∧
      (s.answerEnds c outcome).1.issues = s.issues ∧
      (s.answerEnds c outcome).1.board = s.board ∧
      (s.answerEnds c outcome).1.freeCount = s.freeCount ∧
      (s.answerEnds c outcome).1.order.portPart = s.order.portPart ∧
      (s.answerEnds c outcome).1.order.clock = s.order.clock ∧
      (s.answerEnds c outcome).1.link.configPart = s.link.configPart ∧
      (s.answerEnds c outcome).1.reports.countPart = s.reports.countPart := by
  unfold State.answerEnds
  and_intros
  all_goals repeat' split
  all_goals first | rfl | simp_all [pair_eq]

@[simp] theorem State.deferOffer_frame (c : CellNo) (answer : List Byte) (s : State) :
    (s.deferOffer c answer).1.pending = s.pending ∧
      (s.deferOffer c answer).1.tools = s.tools ∧
      (s.deferOffer c answer).1.crib = s.crib ∧
      (s.deferOffer c answer).1.presetter = s.presetter ∧
      (s.deferOffer c answer).1.issues = s.issues ∧
      (s.deferOffer c answer).1.board = s.board ∧
      (s.deferOffer c answer).1.freeCount = s.freeCount ∧
      (s.deferOffer c answer).1.order.portPart = s.order.portPart ∧
      (s.deferOffer c answer).1.order.clock = s.order.clock ∧
      (s.deferOffer c answer).1.link.configPart = s.link.configPart ∧
      (s.deferOffer c answer).1.reports.countPart = s.reports.countPart := by
  unfold State.deferOffer
  and_intros
  all_goals repeat' split
  all_goals first | rfl | simp_all [pair_eq]

@[simp] theorem State.enterOff_frame (s : State) :
    s.enterOff.pending = s.pending ∧
      s.enterOff.tools = s.tools ∧
      s.enterOff.crib = s.crib ∧
      s.enterOff.presetter = s.presetter ∧
      s.enterOff.issues = s.issues ∧
      s.enterOff.board = s.board ∧
      s.enterOff.freeCount = s.freeCount ∧
      s.enterOff.order.portPart = s.order.portPart ∧
      s.enterOff.order.clock = s.order.clock ∧
      s.enterOff.link.configPart = s.link.configPart ∧
      s.enterOff.reports.countPart = s.reports.countPart := by
  unfold State.enterOff
  simp
  rfl

@[simp] theorem State.modAxis_frame (a : Axis) (f : AxisRec → AxisRec) (s : State) :
    (s.modAxis a f).pending = s.pending ∧
      (s.modAxis a f).order = s.order ∧
      (s.modAxis a f).tools = s.tools ∧
      (s.modAxis a f).crib = s.crib ∧
      (s.modAxis a f).issues = s.issues ∧
      (s.modAxis a f).link = s.link ∧
      (s.modAxis a f).reports = s.reports ∧
      (s.modAxis a f).board = s.board ∧
      (s.modAxis a f).freeCount = s.freeCount := by
  cases a <;> and_intros <;> rfl

@[simp] theorem State.modAxis_stationPart (a : Axis) (f : AxisRec → AxisRec) (s : State)
    (soft : ∀ x, (f x).softLimit = x.softLimit) :
    (s.modAxis a f).presetter.stationPart = s.presetter.stationPart := by
  cases a <;> simp [State.modAxis, Presetter.stationPart, soft]

@[simp] theorem State.unhome_frame (set : AxisSet) (s : State) :
    (s.unhome set).pending = s.pending ∧
      (s.unhome set).order = s.order ∧
      (s.unhome set).tools = s.tools ∧
      (s.unhome set).crib = s.crib ∧
      (s.unhome set).issues = s.issues ∧
      (s.unhome set).link = s.link ∧
      (s.unhome set).reports = s.reports ∧
      (s.unhome set).board = s.board ∧
      (s.unhome set).freeCount = s.freeCount ∧
      (s.unhome set).presetter.stationPart = s.presetter.stationPart := by
  unfold State.unhome
  and_intros
  all_goals try rfl
  simp only [State.modPresetter_presetter, Presetter.stationPart]
  (repeat' split) <;> rfl

@[simp] theorem State.loseReference_frame (cause : Nat) (axes : AxisSet) (s : State) :
    (s.loseReference cause axes).pending = s.pending ∧
      (s.loseReference cause axes).tools = s.tools ∧
      (s.loseReference cause axes).crib = s.crib ∧
      (s.loseReference cause axes).issues = s.issues ∧
      (s.loseReference cause axes).board = s.board ∧
      (s.loseReference cause axes).freeCount = s.freeCount ∧
      (s.loseReference cause axes).order.portPart = s.order.portPart ∧
      (s.loseReference cause axes).order.clock = s.order.clock ∧
      (s.loseReference cause axes).presetter.stationPart = s.presetter.stationPart ∧
      (s.loseReference cause axes).link.configPart = s.link.configPart ∧
      (s.loseReference cause axes).reports.countPart = s.reports.countPart := by
  unfold State.loseReference
  split
  · simp
  · simp
    rfl

@[simp] theorem State.storeReference_frame (m : Means) (masterLength masterRadius : Nat) (s : State) :
    (s.storeReference m masterLength masterRadius).pending = s.pending ∧
      (s.storeReference m masterLength masterRadius).order = s.order ∧
      (s.storeReference m masterLength masterRadius).tools = s.tools ∧
      (s.storeReference m masterLength masterRadius).crib = s.crib ∧
      (s.storeReference m masterLength masterRadius).issues = s.issues ∧
      (s.storeReference m masterLength masterRadius).link = s.link ∧
      (s.storeReference m masterLength masterRadius).reports = s.reports ∧
      (s.storeReference m masterLength masterRadius).board = s.board ∧
      (s.storeReference m masterLength masterRadius).freeCount = s.freeCount ∧
      (s.storeReference m masterLength masterRadius).presetter.stationPart = s.presetter.stationPart := by and_intros <;> rfl

@[simp] theorem State.endCycle_frame (fault : Option Status) (means : Option Means) (s : State) :
    (s.endCycle fault means).1.pending = s.pending ∧
      (s.endCycle fault means).1.order = s.order ∧
      (s.endCycle fault means).1.tools = s.tools ∧
      (s.endCycle fault means).1.crib = s.crib ∧
      (s.endCycle fault means).1.issues = s.issues ∧
      (s.endCycle fault means).1.link = s.link ∧
      (s.endCycle fault means).1.reports = s.reports ∧
      (s.endCycle fault means).1.board = s.board ∧
      (s.endCycle fault means).1.freeCount = s.freeCount ∧
      (s.endCycle fault means).1.presetter.stationPart = s.presetter.stationPart := by and_intros <;> rfl

@[simp] theorem State.startCycle_frame (owner : SlotNo) (s : State) :
    (s.startCycle owner).pending = s.pending ∧
      (s.startCycle owner).order = s.order ∧
      (s.startCycle owner).tools = s.tools ∧
      (s.startCycle owner).crib = s.crib ∧
      (s.startCycle owner).issues = s.issues ∧
      (s.startCycle owner).link = s.link ∧
      (s.startCycle owner).reports = s.reports ∧
      (s.startCycle owner).board = s.board ∧
      (s.startCycle owner).freeCount = s.freeCount ∧
      (s.startCycle owner).presetter.stationPart = s.presetter.stationPart := by
  unfold State.startCycle
  and_intros
  all_goals try rfl
  simp only [State.modPresetter_presetter, Presetter.stationPart]
  split <;> rfl

@[simp] theorem State.checkLimits_frame (s : State) :
    s.checkLimits.1.pending = s.pending ∧
      s.checkLimits.1.order = s.order ∧
      s.checkLimits.1.tools = s.tools ∧
      s.checkLimits.1.crib = s.crib ∧
      s.checkLimits.1.issues = s.issues ∧
      s.checkLimits.1.link = s.link ∧
      s.checkLimits.1.reports = s.reports ∧
      s.checkLimits.1.board = s.board ∧
      s.checkLimits.1.freeCount = s.freeCount ∧
      s.checkLimits.1.presetter.stationPart = s.presetter.stationPart := by
  unfold State.checkLimits
  and_intros
  all_goals repeat' split
  all_goals first | rfl | simp_all [pair_eq]

@[simp] theorem State.evaluateCycle_frame (s : State) :
    s.evaluateCycle.1.pending = s.pending ∧
      s.evaluateCycle.1.order = s.order ∧
      s.evaluateCycle.1.tools = s.tools ∧
      s.evaluateCycle.1.crib = s.crib ∧
      s.evaluateCycle.1.issues = s.issues ∧
      s.evaluateCycle.1.link = s.link ∧
      s.evaluateCycle.1.reports = s.reports ∧
      s.evaluateCycle.1.board = s.board ∧
      s.evaluateCycle.1.freeCount = s.freeCount ∧
      s.evaluateCycle.1.presetter.stationPart = s.presetter.stationPart := by
  unfold State.evaluateCycle
  repeat' split
  all_goals simp_all

@[simp] theorem State.modIssue_frame (i : IssueNo) (f : Issue → Issue) (s : State) :
    (s.modIssue i f).pending = s.pending ∧
      (s.modIssue i f).order = s.order ∧
      (s.modIssue i f).tools = s.tools ∧
      (s.modIssue i f).crib = s.crib ∧
      (s.modIssue i f).presetter = s.presetter ∧
      (s.modIssue i f).link = s.link ∧
      (s.modIssue i f).reports = s.reports ∧
      (s.modIssue i f).board = s.board ∧
      (s.modIssue i f).freeCount = s.freeCount ∧
      (s.modIssue i f).issues.transitWindow = s.issues.transitWindow := by and_intros <;> rfl

@[simp] theorem State.freeRecord_frame (i : IssueNo) (s : State) :
    (s.freeRecord i).pending = s.pending ∧
      (s.freeRecord i).order = s.order ∧
      (s.freeRecord i).tools = s.tools ∧
      (s.freeRecord i).crib = s.crib ∧
      (s.freeRecord i).presetter = s.presetter ∧
      (s.freeRecord i).link = s.link ∧
      (s.freeRecord i).reports = s.reports ∧
      (s.freeRecord i).board = s.board ∧
      (s.freeRecord i).freeCount = s.freeCount ∧
      (s.freeRecord i).issues.transitWindow = s.issues.transitWindow := by and_intros <;> rfl

@[simp] theorem State.closeIssue_frame (i : IssueNo) (result : Status) (s : State) :
    (s.closeIssue i result).pending = s.pending ∧
      (s.closeIssue i result).crib = s.crib ∧
      (s.closeIssue i result).presetter = s.presetter ∧
      (s.closeIssue i result).board = s.board ∧
      (s.closeIssue i result).freeCount = s.freeCount ∧
      (s.closeIssue i result).order.portPart = s.order.portPart ∧
      (s.closeIssue i result).order.clock = s.order.clock ∧
      (s.closeIssue i result).issues.transitWindow = s.issues.transitWindow ∧
      (s.closeIssue i result).link.configPart = s.link.configPart ∧
      (s.closeIssue i result).reports.countPart = s.reports.countPart := by
  simp only [State.closeIssue]
  and_intros
  all_goals repeat' split
  all_goals first | rfl | simp_all [pair_eq]

@[simp] theorem State.closeFailed_frame (i : IssueNo) (st : Status) (withdraw : WithdrawStatus) (s : State) :
    (s.closeFailed i st withdraw).pending = s.pending ∧
      (s.closeFailed i st withdraw).crib = s.crib ∧
      (s.closeFailed i st withdraw).presetter = s.presetter ∧
      (s.closeFailed i st withdraw).board = s.board ∧
      (s.closeFailed i st withdraw).freeCount = s.freeCount ∧
      (s.closeFailed i st withdraw).order.portPart = s.order.portPart ∧
      (s.closeFailed i st withdraw).order.clock = s.order.clock ∧
      (s.closeFailed i st withdraw).issues.transitWindow = s.issues.transitWindow ∧
      (s.closeFailed i st withdraw).link.configPart = s.link.configPart ∧
      (s.closeFailed i st withdraw).reports.countPart = s.reports.countPart := by
  unfold State.closeFailed
  and_intros
  all_goals repeat' split
  all_goals first | rfl | simp_all [pair_eq]

@[simp] theorem State.enterWithdrawing_frame (i : IssueNo) (st : Status) (s : State) :
    (s.enterWithdrawing i st).pending = s.pending ∧
      (s.enterWithdrawing i st).crib = s.crib ∧
      (s.enterWithdrawing i st).presetter = s.presetter ∧
      (s.enterWithdrawing i st).board = s.board ∧
      (s.enterWithdrawing i st).freeCount = s.freeCount ∧
      (s.enterWithdrawing i st).order.portPart = s.order.portPart ∧
      (s.enterWithdrawing i st).order.clock = s.order.clock ∧
      (s.enterWithdrawing i st).issues.transitWindow = s.issues.transitWindow ∧
      (s.enterWithdrawing i st).link.configPart = s.link.configPart ∧
      (s.enterWithdrawing i st).reports.countPart = s.reports.countPart := by
  simp only [State.enterWithdrawing]
  and_intros
  all_goals repeat' split
  all_goals first | rfl | simp_all [pair_eq]

@[simp] theorem State.openIssue_frame (a : Ask) (t : Nat) (s : State) :
    (s.openIssue a t).pending = s.pending ∧
      (s.openIssue a t).crib = s.crib ∧
      (s.openIssue a t).presetter = s.presetter ∧
      (s.openIssue a t).board = s.board ∧
      (s.openIssue a t).freeCount = s.freeCount ∧
      (s.openIssue a t).order.portPart = s.order.portPart ∧
      (s.openIssue a t).order.clock = s.order.clock ∧
      (s.openIssue a t).issues.transitWindow = s.issues.transitWindow ∧
      (s.openIssue a t).link.configPart = s.link.configPart ∧
      (s.openIssue a t).reports.countPart = s.reports.countPart := by
  unfold State.openIssue
  repeat' split
  all_goals try extract_lets
  all_goals and_intros
  all_goals repeat' split
  all_goals simp_all +zetaDelta [pair_eq]

@[simp] theorem State.makePick_frame (i : IssueNo) (s : State) :
    (s.makePick i).pending = s.pending ∧
      (s.makePick i).presetter = s.presetter ∧
      (s.makePick i).board = s.board ∧
      (s.makePick i).freeCount = s.freeCount ∧
      (s.makePick i).order.portPart = s.order.portPart ∧
      (s.makePick i).order.clock = s.order.clock ∧
      (s.makePick i).crib.layoutPart = s.crib.layoutPart ∧
      (s.makePick i).issues.transitWindow = s.issues.transitWindow ∧
      (s.makePick i).link.configPart = s.link.configPart ∧
      (s.makePick i).reports.countPart = s.reports.countPart := by
  unfold State.makePick
  and_intros
  all_goals repeat' split
  all_goals first | rfl | simp_all [pair_eq]

@[simp] theorem State.offerEnded_frame (i : IssueNo) (e : Exchange) (outcome : ExchangeOutcome) (s : State) :
    (s.offerEnded i e outcome).pending = s.pending ∧
      (s.offerEnded i e outcome).presetter = s.presetter ∧
      (s.offerEnded i e outcome).board = s.board ∧
      (s.offerEnded i e outcome).freeCount = s.freeCount ∧
      (s.offerEnded i e outcome).order.portPart = s.order.portPart ∧
      (s.offerEnded i e outcome).order.clock = s.order.clock ∧
      (s.offerEnded i e outcome).crib.layoutPart = s.crib.layoutPart ∧
      (s.offerEnded i e outcome).issues.transitWindow = s.issues.transitWindow ∧
      (s.offerEnded i e outcome).link.configPart = s.link.configPart ∧
      (s.offerEnded i e outcome).reports.countPart = s.reports.countPart := by
  simp only [State.offerEnded]
  and_intros
  all_goals repeat' split
  all_goals first | rfl | simp_all [pair_eq]

@[simp] theorem State.withdrawEnded_frame (i : IssueNo) (outcome : ExchangeOutcome) (s : State) :
    (s.withdrawEnded i outcome).pending = s.pending ∧
      (s.withdrawEnded i outcome).crib = s.crib ∧
      (s.withdrawEnded i outcome).presetter = s.presetter ∧
      (s.withdrawEnded i outcome).board = s.board ∧
      (s.withdrawEnded i outcome).freeCount = s.freeCount ∧
      (s.withdrawEnded i outcome).order.portPart = s.order.portPart ∧
      (s.withdrawEnded i outcome).order.clock = s.order.clock ∧
      (s.withdrawEnded i outcome).issues.transitWindow = s.issues.transitWindow ∧
      (s.withdrawEnded i outcome).link.configPart = s.link.configPart ∧
      (s.withdrawEnded i outcome).reports.countPart = s.reports.countPart := by
  unfold State.withdrawEnded
  repeat' split
  all_goals simp_all

@[simp] theorem State.offerDeferred_frame (i : IssueNo) (e : Exchange) (s : State) :
    (s.offerDeferred i e).pending = s.pending ∧
      (s.offerDeferred i e).crib = s.crib ∧
      (s.offerDeferred i e).presetter = s.presetter ∧
      (s.offerDeferred i e).board = s.board ∧
      (s.offerDeferred i e).freeCount = s.freeCount ∧
      (s.offerDeferred i e).order.portPart = s.order.portPart ∧
      (s.offerDeferred i e).order.clock = s.order.clock ∧
      (s.offerDeferred i e).issues.transitWindow = s.issues.transitWindow ∧
      (s.offerDeferred i e).link.configPart = s.link.configPart ∧
      (s.offerDeferred i e).reports.countPart = s.reports.countPart := by
  unfold State.offerDeferred
  and_intros
  all_goals repeat' split
  all_goals first | rfl | simp_all [pair_eq]

@[simp] theorem State.pickOpened_frame (i : IssueNo) (s : State) :
    (s.pickOpened i).pending = s.pending ∧
      (s.pickOpened i).order = s.order ∧
      (s.pickOpened i).tools = s.tools ∧
      (s.pickOpened i).crib = s.crib ∧
      (s.pickOpened i).presetter = s.presetter ∧
      (s.pickOpened i).link = s.link ∧
      (s.pickOpened i).reports = s.reports ∧
      (s.pickOpened i).board = s.board ∧
      (s.pickOpened i).freeCount = s.freeCount ∧
      (s.pickOpened i).issues.transitWindow = s.issues.transitWindow := by and_intros <;> rfl

@[simp] theorem State.pickSensed_frame (i : IssueNo) (s : State) :
    (s.pickSensed i).pending = s.pending ∧
      (s.pickSensed i).order = s.order ∧
      (s.pickSensed i).crib = s.crib ∧
      (s.pickSensed i).presetter = s.presetter ∧
      (s.pickSensed i).link = s.link ∧
      (s.pickSensed i).reports = s.reports ∧
      (s.pickSensed i).board = s.board ∧
      (s.pickSensed i).freeCount = s.freeCount ∧
      (s.pickSensed i).issues.transitWindow = s.issues.transitWindow := by
  unfold State.pickSensed
  repeat' split
  all_goals simp_all

@[simp] theorem State.pickEnded_frame (i : IssueNo) (outcome : MoveOutcome) (s : State) :
    (s.pickEnded i outcome).pending = s.pending ∧
      (s.pickEnded i outcome).crib = s.crib ∧
      (s.pickEnded i outcome).presetter = s.presetter ∧
      (s.pickEnded i outcome).board = s.board ∧
      (s.pickEnded i outcome).freeCount = s.freeCount ∧
      (s.pickEnded i outcome).order.portPart = s.order.portPart ∧
      (s.pickEnded i outcome).order.clock = s.order.clock ∧
      (s.pickEnded i outcome).issues.transitWindow = s.issues.transitWindow ∧
      (s.pickEnded i outcome).link.configPart = s.link.configPart ∧
      (s.pickEnded i outcome).reports.countPart = s.reports.countPart := by
  unfold State.pickEnded
  and_intros
  all_goals repeat' split
  all_goals first | rfl | simp_all [pair_eq]

@[simp] theorem State.cancelPick_frame (x : Issue) (s : State) :
    (s.cancelPick x).pending = s.pending ∧
      (s.cancelPick x).order = s.order ∧
      (s.cancelPick x).tools = s.tools ∧
      (s.cancelPick x).presetter = s.presetter ∧
      (s.cancelPick x).issues = s.issues ∧
      (s.cancelPick x).link = s.link ∧
      (s.cancelPick x).reports = s.reports ∧
      (s.cancelPick x).board = s.board ∧
      (s.cancelPick x).freeCount = s.freeCount ∧
      (s.cancelPick x).crib.layoutPart = s.crib.layoutPart := by
  unfold State.cancelPick
  repeat' split
  all_goals simp_all

@[simp] theorem State.cancelIssue_frame (i : IssueNo) (s : State) :
    (s.cancelIssue i).1.pending = s.pending ∧
      (s.cancelIssue i).1.presetter = s.presetter ∧
      (s.cancelIssue i).1.board = s.board ∧
      (s.cancelIssue i).1.freeCount = s.freeCount ∧
      (s.cancelIssue i).1.order.portPart = s.order.portPart ∧
      (s.cancelIssue i).1.order.clock = s.order.clock ∧
      (s.cancelIssue i).1.crib.layoutPart = s.crib.layoutPart ∧
      (s.cancelIssue i).1.issues.transitWindow = s.issues.transitWindow ∧
      (s.cancelIssue i).1.link.configPart = s.link.configPart ∧
      (s.cancelIssue i).1.reports.countPart = s.reports.countPart := by
  unfold State.cancelIssue
  and_intros
  all_goals repeat' split
  all_goals first | rfl | simp_all [pair_eq]

@[simp] theorem State.issueCutOff_frame (i : IssueNo) (c : CellNo) (s : State) :
    (s.issueCutOff i c).pending = s.pending ∧
      (s.issueCutOff i c).presetter = s.presetter ∧
      (s.issueCutOff i c).board = s.board ∧
      (s.issueCutOff i c).freeCount = s.freeCount ∧
      (s.issueCutOff i c).order.portPart = s.order.portPart ∧
      (s.issueCutOff i c).order.clock = s.order.clock ∧
      (s.issueCutOff i c).crib.layoutPart = s.crib.layoutPart ∧
      (s.issueCutOff i c).issues.transitWindow = s.issues.transitWindow ∧
      (s.issueCutOff i c).link.configPart = s.link.configPart ∧
      (s.issueCutOff i c).reports.countPart = s.reports.countPart := by
  unfold State.issueCutOff
  and_intros
  all_goals repeat' split
  all_goals first | rfl | simp_all [pair_eq]

@[simp] theorem State.issuesCutOff_frame (c : CellNo) (s : State) :
    (s.issuesCutOff c).pending = s.pending ∧
      (s.issuesCutOff c).presetter = s.presetter ∧
      (s.issuesCutOff c).board = s.board ∧
      (s.issuesCutOff c).freeCount = s.freeCount ∧
      (s.issuesCutOff c).order.portPart = s.order.portPart ∧
      (s.issuesCutOff c).order.clock = s.order.clock ∧
      (s.issuesCutOff c).crib.layoutPart = s.crib.layoutPart ∧
      (s.issuesCutOff c).issues.transitWindow = s.issues.transitWindow ∧
      (s.issuesCutOff c).link.configPart = s.link.configPart ∧
      (s.issuesCutOff c).reports.countPart = s.reports.countPart := by
  unfold State.issuesCutOff
  and_intros
  · exact foldl_keeps (fun t => t.pending) _ (fun t i => by simp) _ _
  · exact foldl_keeps (fun t => t.presetter) _ (fun t i => by simp) _ _
  · exact foldl_keeps (fun t => t.board) _ (fun t i => by simp) _ _
  · exact foldl_keeps (fun t => t.freeCount) _ (fun t i => by simp) _ _
  · exact foldl_keeps (fun t => t.order.portPart) _ (fun t i => by simp) _ _
  · exact foldl_keeps (fun t => t.order.clock) _ (fun t i => by simp) _ _
  · exact foldl_keeps (fun t => t.crib.layoutPart) _ (fun t i => by simp) _ _
  · exact foldl_keeps (fun t => t.issues.transitWindow) _ (fun t i => by simp) _ _
  · exact foldl_keeps (fun t => t.link.configPart) _ (fun t i => by simp) _ _
  · exact foldl_keeps (fun t => t.reports.countPart) _ (fun t i => by simp) _ _


end Sys2Proof.Machine
end

