-- ==== Sys2Proof/Laws/FramesContexts.lean ====
section
/-! SUPPORT. What the contexts of the long orders and what is handed to owners leave alone: for each operation, the blocks it does not touch, and of those it does,
the parts that Safety.lean names. -/

namespace Sys2Proof.Machine

@[simp] theorem State.endHome_frame (n : SlotNo) (status : Status) (s : State) :
    (s.endHome n status).pending = s.pending ∧
      (s.endHome n status).tools = s.tools ∧
      (s.endHome n status).crib = s.crib ∧
      (s.endHome n status).issues = s.issues ∧
      (s.endHome n status).link = s.link ∧
      (s.endHome n status).reports = s.reports ∧
      (s.endHome n status).board = s.board ∧
      (s.endHome n status).freeCount = s.freeCount ∧
      (s.endHome n status).order.portPart = s.order.portPart ∧
      (s.endHome n status).order.clock = s.order.clock ∧
      (s.endHome n status).presetter.stationPart = s.presetter.stationPart := by
  unfold State.endHome
  repeat' split
  all_goals simp_all

@[simp] theorem State.checkHomed_frame (n : SlotNo) (s : State) :
    (s.checkHomed n).pending = s.pending ∧
      (s.checkHomed n).tools = s.tools ∧
      (s.checkHomed n).crib = s.crib ∧
      (s.checkHomed n).presetter = s.presetter ∧
      (s.checkHomed n).issues = s.issues ∧
      (s.checkHomed n).link = s.link ∧
      (s.checkHomed n).reports = s.reports ∧
      (s.checkHomed n).board = s.board ∧
      (s.checkHomed n).freeCount = s.freeCount ∧
      (s.checkHomed n).order.portPart = s.order.portPart ∧
      (s.checkHomed n).order.clock = s.order.clock := by
  unfold State.checkHomed
  repeat' split
  all_goals simp_all

@[simp] theorem State.completeRecord_frame (n : SlotNo) (status : Status) (record : List Byte) (s : State) :
    (s.completeRecord n status record).pending = s.pending ∧
      (s.completeRecord n status record).tools = s.tools ∧
      (s.completeRecord n status record).crib = s.crib ∧
      (s.completeRecord n status record).presetter = s.presetter ∧
      (s.completeRecord n status record).issues = s.issues ∧
      (s.completeRecord n status record).link = s.link ∧
      (s.completeRecord n status record).reports = s.reports ∧
      (s.completeRecord n status record).board = s.board ∧
      (s.completeRecord n status record).freeCount = s.freeCount ∧
      (s.completeRecord n status record).order.portPart = s.order.portPart ∧
      (s.completeRecord n status record).order.clock = s.order.clock := by simp [State.completeRecord]

@[simp] theorem State.calibrateOutcome_frame (n : SlotNo) (masterLength masterRadius : Nat) (o : CycleOutcome) (s : State) :
    (s.calibrateOutcome n masterLength masterRadius o).pending = s.pending ∧
      (s.calibrateOutcome n masterLength masterRadius o).tools = s.tools ∧
      (s.calibrateOutcome n masterLength masterRadius o).crib = s.crib ∧
      (s.calibrateOutcome n masterLength masterRadius o).issues = s.issues ∧
      (s.calibrateOutcome n masterLength masterRadius o).link = s.link ∧
      (s.calibrateOutcome n masterLength masterRadius o).reports = s.reports ∧
      (s.calibrateOutcome n masterLength masterRadius o).board = s.board ∧
      (s.calibrateOutcome n masterLength masterRadius o).freeCount = s.freeCount ∧
      (s.calibrateOutcome n masterLength masterRadius o).order.portPart = s.order.portPart ∧
      (s.calibrateOutcome n masterLength masterRadius o).order.clock = s.order.clock ∧
      (s.calibrateOutcome n masterLength masterRadius o).presetter.stationPart = s.presetter.stationPart := by
  unfold State.calibrateOutcome
  repeat' split
  all_goals simp_all

@[simp] theorem State.refuseRecord_frame (n : SlotNo) (status : Status) (empty : List Byte) (s : State) :
    (s.refuseRecord n status empty).pending = s.pending ∧
      (s.refuseRecord n status empty).tools = s.tools ∧
      (s.refuseRecord n status empty).crib = s.crib ∧
      (s.refuseRecord n status empty).presetter = s.presetter ∧
      (s.refuseRecord n status empty).issues = s.issues ∧
      (s.refuseRecord n status empty).link = s.link ∧
      (s.refuseRecord n status empty).reports = s.reports ∧
      (s.refuseRecord n status empty).board = s.board ∧
      (s.refuseRecord n status empty).freeCount = s.freeCount ∧
      (s.refuseRecord n status empty).order.portPart = s.order.portPart ∧
      (s.refuseRecord n status empty).order.clock = s.order.clock := by simp [State.refuseRecord]

@[simp] theorem State.finishMeasure_frame (n : SlotNo) (m : MeasureCtx) (status : Status) (s : State) :
    (s.finishMeasure n m status).pending = s.pending ∧
      (s.finishMeasure n m status).crib = s.crib ∧
      (s.finishMeasure n m status).presetter = s.presetter ∧
      (s.finishMeasure n m status).issues = s.issues ∧
      (s.finishMeasure n m status).link = s.link ∧
      (s.finishMeasure n m status).reports = s.reports ∧
      (s.finishMeasure n m status).board = s.board ∧
      (s.finishMeasure n m status).freeCount = s.freeCount ∧
      (s.finishMeasure n m status).order.portPart = s.order.portPart ∧
      (s.finishMeasure n m status).order.clock = s.order.clock := by simp [State.finishMeasure]

@[simp] theorem State.withdrawCycle_frame (n : SlotNo) (s : State) :
    (s.withdrawCycle n).pending = s.pending ∧
      (s.withdrawCycle n).order = s.order ∧
      (s.withdrawCycle n).tools = s.tools ∧
      (s.withdrawCycle n).crib = s.crib ∧
      (s.withdrawCycle n).issues = s.issues ∧
      (s.withdrawCycle n).link = s.link ∧
      (s.withdrawCycle n).reports = s.reports ∧
      (s.withdrawCycle n).board = s.board ∧
      (s.withdrawCycle n).freeCount = s.freeCount ∧
      (s.withdrawCycle n).presetter.stationPart = s.presetter.stationPart := by
  unfold State.withdrawCycle
  repeat' split
  all_goals simp_all

@[simp] theorem State.abandonFetch_frame (n : SlotNo) (m : MeasureCtx) (pending : Status) (s : State) :
    (s.abandonFetch n m pending).pending = s.pending ∧
      (s.abandonFetch n m pending).presetter = s.presetter ∧
      (s.abandonFetch n m pending).issues = s.issues ∧
      (s.abandonFetch n m pending).link = s.link ∧
      (s.abandonFetch n m pending).reports = s.reports ∧
      (s.abandonFetch n m pending).board = s.board ∧
      (s.abandonFetch n m pending).freeCount = s.freeCount ∧
      (s.abandonFetch n m pending).order.portPart = s.order.portPart ∧
      (s.abandonFetch n m pending).order.clock = s.order.clock ∧
      (s.abandonFetch n m pending).crib.layoutPart = s.crib.layoutPart := by
  simp only [State.abandonFetch]
  and_intros
  all_goals repeat' split
  all_goals first | rfl | simp_all [pair_eq]

@[simp] theorem State.earlySeat_frame (n : SlotNo) (m : MeasureCtx) (s : State) :
    (s.earlySeat n m).pending = s.pending ∧
      (s.earlySeat n m).issues = s.issues ∧
      (s.earlySeat n m).link = s.link ∧
      (s.earlySeat n m).reports = s.reports ∧
      (s.earlySeat n m).board = s.board ∧
      (s.earlySeat n m).freeCount = s.freeCount ∧
      (s.earlySeat n m).order.portPart = s.order.portPart ∧
      (s.earlySeat n m).order.clock = s.order.clock ∧
      (s.earlySeat n m).crib.layoutPart = s.crib.layoutPart ∧
      (s.earlySeat n m).presetter.stationPart = s.presetter.stationPart := by simp [State.earlySeat]

@[simp] theorem State.storeMeasurement_frame (t : Nat) (e : Evaluation) (s : State) :
    (s.storeMeasurement t e).pending = s.pending ∧
      (s.storeMeasurement t e).order = s.order ∧
      (s.storeMeasurement t e).crib = s.crib ∧
      (s.storeMeasurement t e).issues = s.issues ∧
      (s.storeMeasurement t e).link = s.link ∧
      (s.storeMeasurement t e).reports = s.reports ∧
      (s.storeMeasurement t e).board = s.board ∧
      (s.storeMeasurement t e).freeCount = s.freeCount ∧
      (s.storeMeasurement t e).presetter.stationPart = s.presetter.stationPart := by and_intros <;> rfl

@[simp] theorem State.askStore_frame (n : SlotNo) (m : MeasureCtx) (verdict : ToolState) (s : State) :
    (s.askStore n m verdict).pending = s.pending ∧
      (s.askStore n m verdict).presetter = s.presetter ∧
      (s.askStore n m verdict).issues = s.issues ∧
      (s.askStore n m verdict).link = s.link ∧
      (s.askStore n m verdict).reports = s.reports ∧
      (s.askStore n m verdict).board = s.board ∧
      (s.askStore n m verdict).freeCount = s.freeCount ∧
      (s.askStore n m verdict).order.portPart = s.order.portPart ∧
      (s.askStore n m verdict).order.clock = s.order.clock ∧
      (s.askStore n m verdict).crib.layoutPart = s.crib.layoutPart := by
  simp only [State.askStore]
  and_intros
  all_goals repeat' split
  all_goals first | rfl | simp_all [pair_eq]

@[simp] theorem State.evaluateMeasure_frame (n : SlotNo) (m : MeasureCtx) (o : CycleOutcome) (means : Means) (s : State) :
    (s.evaluateMeasure n m o means).pending = s.pending ∧
      (s.evaluateMeasure n m o means).issues = s.issues ∧
      (s.evaluateMeasure n m o means).link = s.link ∧
      (s.evaluateMeasure n m o means).reports = s.reports ∧
      (s.evaluateMeasure n m o means).board = s.board ∧
      (s.evaluateMeasure n m o means).freeCount = s.freeCount ∧
      (s.evaluateMeasure n m o means).order.portPart = s.order.portPart ∧
      (s.evaluateMeasure n m o means).order.clock = s.order.clock ∧
      (s.evaluateMeasure n m o means).crib.layoutPart = s.crib.layoutPart ∧
      (s.evaluateMeasure n m o means).presetter.stationPart = s.presetter.stationPart := by
  simp only [State.evaluateMeasure]
  and_intros
  all_goals repeat' split
  all_goals first | rfl | simp_all [pair_eq]

@[simp] theorem State.measureCycleOutcome_frame (n : SlotNo) (m : MeasureCtx) (o : CycleOutcome) (s : State) :
    (s.measureCycleOutcome n m o).pending = s.pending ∧
      (s.measureCycleOutcome n m o).issues = s.issues ∧
      (s.measureCycleOutcome n m o).link = s.link ∧
      (s.measureCycleOutcome n m o).reports = s.reports ∧
      (s.measureCycleOutcome n m o).board = s.board ∧
      (s.measureCycleOutcome n m o).freeCount = s.freeCount ∧
      (s.measureCycleOutcome n m o).order.portPart = s.order.portPart ∧
      (s.measureCycleOutcome n m o).order.clock = s.order.clock ∧
      (s.measureCycleOutcome n m o).crib.layoutPart = s.crib.layoutPart ∧
      (s.measureCycleOutcome n m o).presetter.stationPart = s.presetter.stationPart := by
  unfold State.measureCycleOutcome
  repeat' split
  all_goals simp_all

@[simp] theorem State.fetchEnded_frame (n : SlotNo) (m : MeasureCtx) (outcome : MoveOutcome) (s : State) :
    (s.fetchEnded n m outcome).pending = s.pending ∧
      (s.fetchEnded n m outcome).crib = s.crib ∧
      (s.fetchEnded n m outcome).issues = s.issues ∧
      (s.fetchEnded n m outcome).link = s.link ∧
      (s.fetchEnded n m outcome).reports = s.reports ∧
      (s.fetchEnded n m outcome).board = s.board ∧
      (s.fetchEnded n m outcome).freeCount = s.freeCount ∧
      (s.fetchEnded n m outcome).order.portPart = s.order.portPart ∧
      (s.fetchEnded n m outcome).order.clock = s.order.clock ∧
      (s.fetchEnded n m outcome).presetter.stationPart = s.presetter.stationPart := by
  simp only [State.fetchEnded]
  and_intros
  all_goals repeat' split
  all_goals first | rfl | simp_all [pair_eq]

@[simp] theorem State.storeEnded_frame (n : SlotNo) (m : MeasureCtx) (outcome : MoveOutcome) (s : State) :
    (s.storeEnded n m outcome).pending = s.pending ∧
      (s.storeEnded n m outcome).crib = s.crib ∧
      (s.storeEnded n m outcome).presetter = s.presetter ∧
      (s.storeEnded n m outcome).issues = s.issues ∧
      (s.storeEnded n m outcome).link = s.link ∧
      (s.storeEnded n m outcome).reports = s.reports ∧
      (s.storeEnded n m outcome).board = s.board ∧
      (s.storeEnded n m outcome).freeCount = s.freeCount ∧
      (s.storeEnded n m outcome).order.portPart = s.order.portPart ∧
      (s.storeEnded n m outcome).order.clock = s.order.clock := by simp [State.storeEnded]

@[simp] theorem State.measureMove_frame (n : SlotNo) (m : MeasureCtx) (outcome : MoveOutcome) (s : State) :
    (s.measureMove n m outcome).pending = s.pending ∧
      (s.measureMove n m outcome).crib = s.crib ∧
      (s.measureMove n m outcome).issues = s.issues ∧
      (s.measureMove n m outcome).link = s.link ∧
      (s.measureMove n m outcome).reports = s.reports ∧
      (s.measureMove n m outcome).board = s.board ∧
      (s.measureMove n m outcome).freeCount = s.freeCount ∧
      (s.measureMove n m outcome).order.portPart = s.order.portPart ∧
      (s.measureMove n m outcome).order.clock = s.order.clock ∧
      (s.measureMove n m outcome).presetter.stationPart = s.presetter.stationPart := by
  unfold State.measureMove
  repeat' split
  all_goals simp_all

@[simp] theorem State.measureSeated_frame (n : SlotNo) (m : MeasureCtx) (s : State) :
    (s.measureSeated n m).pending = s.pending ∧
      (s.measureSeated n m).issues = s.issues ∧
      (s.measureSeated n m).link = s.link ∧
      (s.measureSeated n m).reports = s.reports ∧
      (s.measureSeated n m).board = s.board ∧
      (s.measureSeated n m).freeCount = s.freeCount ∧
      (s.measureSeated n m).order.portPart = s.order.portPart ∧
      (s.measureSeated n m).order.clock = s.order.clock ∧
      (s.measureSeated n m).crib.layoutPart = s.crib.layoutPart ∧
      (s.measureSeated n m).presetter.stationPart = s.presetter.stationPart := by
  unfold State.measureSeated
  repeat' split
  all_goals simp_all

@[simp] theorem State.stowEnded_frame (n : SlotNo) (w : StowCtx) (outcome : MoveOutcome) (s : State) :
    (s.stowEnded n w outcome).pending = s.pending ∧
      (s.stowEnded n w outcome).crib = s.crib ∧
      (s.stowEnded n w outcome).presetter = s.presetter ∧
      (s.stowEnded n w outcome).issues = s.issues ∧
      (s.stowEnded n w outcome).link = s.link ∧
      (s.stowEnded n w outcome).reports = s.reports ∧
      (s.stowEnded n w outcome).board = s.board ∧
      (s.stowEnded n w outcome).freeCount = s.freeCount ∧
      (s.stowEnded n w outcome).order.portPart = s.order.portPart ∧
      (s.stowEnded n w outcome).order.clock = s.order.clock := by simp [State.stowEnded]

@[simp] theorem State.returnStep_frame (n : SlotNo) (r : ReturnCtx) (s : State) :
    (s.returnStep n r).pending = s.pending ∧
      (s.returnStep n r).tools = s.tools ∧
      (s.returnStep n r).crib = s.crib ∧
      (s.returnStep n r).presetter = s.presetter ∧
      (s.returnStep n r).issues = s.issues ∧
      (s.returnStep n r).link = s.link ∧
      (s.returnStep n r).reports = s.reports ∧
      (s.returnStep n r).board = s.board ∧
      (s.returnStep n r).freeCount = s.freeCount ∧
      (s.returnStep n r).order.portPart = s.order.portPart ∧
      (s.returnStep n r).order.clock = s.order.clock := by
  unfold State.returnStep
  repeat' split
  all_goals simp_all

@[simp] theorem State.queueReturnWithdraw_frame (n : SlotNo) (r : ReturnCtx) (s : State) :
    (s.queueReturnWithdraw n r).1.pending = s.pending ∧
      (s.queueReturnWithdraw n r).1.order = s.order ∧
      (s.queueReturnWithdraw n r).1.tools = s.tools ∧
      (s.queueReturnWithdraw n r).1.crib = s.crib ∧
      (s.queueReturnWithdraw n r).1.presetter = s.presetter ∧
      (s.queueReturnWithdraw n r).1.issues = s.issues ∧
      (s.queueReturnWithdraw n r).1.reports = s.reports ∧
      (s.queueReturnWithdraw n r).1.board = s.board ∧
      (s.queueReturnWithdraw n r).1.freeCount = s.freeCount ∧
      (s.queueReturnWithdraw n r).1.link.configPart = s.link.configPart := by
  unfold State.queueReturnWithdraw
  and_intros
  all_goals repeat' split
  all_goals first | rfl | simp_all [pair_eq]

@[simp] theorem State.recallWithdraw_frame (n : SlotNo) (r : ReturnCtx) (s : State) :
    (s.recallWithdraw n r).1.pending = s.pending ∧
      (s.recallWithdraw n r).1.order = s.order ∧
      (s.recallWithdraw n r).1.tools = s.tools ∧
      (s.recallWithdraw n r).1.crib = s.crib ∧
      (s.recallWithdraw n r).1.presetter = s.presetter ∧
      (s.recallWithdraw n r).1.issues = s.issues ∧
      (s.recallWithdraw n r).1.reports = s.reports ∧
      (s.recallWithdraw n r).1.board = s.board ∧
      (s.recallWithdraw n r).1.freeCount = s.freeCount ∧
      (s.recallWithdraw n r).1.link.configPart = s.link.configPart := by
  unfold State.recallWithdraw
  and_intros
  all_goals repeat' split
  all_goals first | rfl | simp_all [pair_eq]

@[simp] theorem State.returnMove_frame (n : SlotNo) (r : ReturnCtx) (outcome : MoveOutcome) (s : State) :
    (s.returnMove n r outcome).pending = s.pending ∧
      (s.returnMove n r outcome).crib = s.crib ∧
      (s.returnMove n r outcome).presetter = s.presetter ∧
      (s.returnMove n r outcome).issues = s.issues ∧
      (s.returnMove n r outcome).reports = s.reports ∧
      (s.returnMove n r outcome).board = s.board ∧
      (s.returnMove n r outcome).freeCount = s.freeCount ∧
      (s.returnMove n r outcome).order.portPart = s.order.portPart ∧
      (s.returnMove n r outcome).order.clock = s.order.clock ∧
      (s.returnMove n r outcome).link.configPart = s.link.configPart := by
  simp only [State.returnMove]
  and_intros
  all_goals repeat' split
  all_goals first | rfl | simp_all [pair_eq]

@[simp] theorem State.returnWithdrawEnded_frame (n : SlotNo) (r : ReturnCtx) (e : Exchange) (outcome : ExchangeOutcome) (s : State) :
    (s.returnWithdrawEnded n r e outcome).pending = s.pending ∧
      (s.returnWithdrawEnded n r e outcome).tools = s.tools ∧
      (s.returnWithdrawEnded n r e outcome).crib = s.crib ∧
      (s.returnWithdrawEnded n r e outcome).presetter = s.presetter ∧
      (s.returnWithdrawEnded n r e outcome).issues = s.issues ∧
      (s.returnWithdrawEnded n r e outcome).reports = s.reports ∧
      (s.returnWithdrawEnded n r e outcome).board = s.board ∧
      (s.returnWithdrawEnded n r e outcome).freeCount = s.freeCount ∧
      (s.returnWithdrawEnded n r e outcome).order.portPart = s.order.portPart ∧
      (s.returnWithdrawEnded n r e outcome).order.clock = s.order.clock ∧
      (s.returnWithdrawEnded n r e outcome).link.configPart = s.link.configPart := by
  unfold State.returnWithdrawEnded
  repeat' split
  all_goals simp_all

@[simp] theorem State.removeEnded_frame (n : SlotNo) (tool : Nat) (outcome : MoveOutcome) (s : State) :
    (s.removeEnded n tool outcome).pending = s.pending ∧
      (s.removeEnded n tool outcome).crib = s.crib ∧
      (s.removeEnded n tool outcome).presetter = s.presetter ∧
      (s.removeEnded n tool outcome).issues = s.issues ∧
      (s.removeEnded n tool outcome).link = s.link ∧
      (s.removeEnded n tool outcome).reports = s.reports ∧
      (s.removeEnded n tool outcome).board = s.board ∧
      (s.removeEnded n tool outcome).freeCount = s.freeCount ∧
      (s.removeEnded n tool outcome).order.portPart = s.order.portPart ∧
      (s.removeEnded n tool outcome).order.clock = s.order.clock := by
  unfold State.removeEnded
  repeat' split
  all_goals simp_all

@[simp] theorem State.clearOutEnded_frame (n : SlotNo) (p : PocketNo) (outcome : MoveOutcome) (s : State) :
    (s.clearOutEnded n p outcome).pending = s.pending ∧
      (s.clearOutEnded n p outcome).tools = s.tools ∧
      (s.clearOutEnded n p outcome).crib = s.crib ∧
      (s.clearOutEnded n p outcome).presetter = s.presetter ∧
      (s.clearOutEnded n p outcome).issues = s.issues ∧
      (s.clearOutEnded n p outcome).link = s.link ∧
      (s.clearOutEnded n p outcome).reports = s.reports ∧
      (s.clearOutEnded n p outcome).board = s.board ∧
      (s.clearOutEnded n p outcome).freeCount = s.freeCount ∧
      (s.clearOutEnded n p outcome).order.portPart = s.order.portPart ∧
      (s.clearOutEnded n p outcome).order.clock = s.order.clock := by
  unfold State.clearOutEnded
  repeat' split
  all_goals simp_all

@[simp] theorem State.deliverMove_frame (owner : Owner) (outcome : MoveOutcome) (s : State) :
    (s.deliverMove owner outcome).pending = s.pending ∧
      (s.deliverMove owner outcome).crib = s.crib ∧
      (s.deliverMove owner outcome).board = s.board ∧
      (s.deliverMove owner outcome).freeCount = s.freeCount ∧
      (s.deliverMove owner outcome).order.portPart = s.order.portPart ∧
      (s.deliverMove owner outcome).order.clock = s.order.clock ∧
      (s.deliverMove owner outcome).presetter.stationPart = s.presetter.stationPart ∧
      (s.deliverMove owner outcome).issues.transitWindow = s.issues.transitWindow ∧
      (s.deliverMove owner outcome).link.configPart = s.link.configPart ∧
      (s.deliverMove owner outcome).reports.countPart = s.reports.countPart := by
  unfold State.deliverMove
  repeat' split
  all_goals simp_all

@[simp] theorem State.deliverOpened_frame (owner : Owner) (s : State) :
    (s.deliverOpened owner).pending = s.pending ∧
      (s.deliverOpened owner).tools = s.tools ∧
      (s.deliverOpened owner).crib = s.crib ∧
      (s.deliverOpened owner).presetter = s.presetter ∧
      (s.deliverOpened owner).link = s.link ∧
      (s.deliverOpened owner).reports = s.reports ∧
      (s.deliverOpened owner).board = s.board ∧
      (s.deliverOpened owner).freeCount = s.freeCount ∧
      (s.deliverOpened owner).order.portPart = s.order.portPart ∧
      (s.deliverOpened owner).order.clock = s.order.clock ∧
      (s.deliverOpened owner).issues.transitWindow = s.issues.transitWindow := by
  unfold State.deliverOpened
  repeat' split
  all_goals simp_all

@[simp] theorem State.deliverCycle_frame (n : SlotNo) (o : CycleOutcome) (s : State) :
    (s.deliverCycle n o).pending = s.pending ∧
      (s.deliverCycle n o).issues = s.issues ∧
      (s.deliverCycle n o).link = s.link ∧
      (s.deliverCycle n o).reports = s.reports ∧
      (s.deliverCycle n o).board = s.board ∧
      (s.deliverCycle n o).freeCount = s.freeCount ∧
      (s.deliverCycle n o).order.portPart = s.order.portPart ∧
      (s.deliverCycle n o).order.clock = s.order.clock ∧
      (s.deliverCycle n o).crib.layoutPart = s.crib.layoutPart ∧
      (s.deliverCycle n o).presetter.stationPart = s.presetter.stationPart := by
  unfold State.deliverCycle
  repeat' split
  all_goals simp_all

@[simp] theorem State.faultCycle_frame (fault : Status) (s : State) :
    (s.faultCycle fault).pending = s.pending ∧
      (s.faultCycle fault).issues = s.issues ∧
      (s.faultCycle fault).link = s.link ∧
      (s.faultCycle fault).reports = s.reports ∧
      (s.faultCycle fault).board = s.board ∧
      (s.faultCycle fault).freeCount = s.freeCount ∧
      (s.faultCycle fault).order.portPart = s.order.portPart ∧
      (s.faultCycle fault).order.clock = s.order.clock ∧
      (s.faultCycle fault).crib.layoutPart = s.crib.layoutPart ∧
      (s.faultCycle fault).presetter.stationPart = s.presetter.stationPart := by
  unfold State.faultCycle
  and_intros
  all_goals repeat' split
  all_goals first | rfl | simp_all [pair_eq]

@[simp] theorem State.enforceLimits_frame (s : State) :
    s.enforceLimits.pending = s.pending ∧
      s.enforceLimits.issues = s.issues ∧
      s.enforceLimits.link = s.link ∧
      s.enforceLimits.reports = s.reports ∧
      s.enforceLimits.board = s.board ∧
      s.enforceLimits.freeCount = s.freeCount ∧
      s.enforceLimits.order.portPart = s.order.portPart ∧
      s.enforceLimits.order.clock = s.order.clock ∧
      s.enforceLimits.crib.layoutPart = s.crib.layoutPart ∧
      s.enforceLimits.presetter.stationPart = s.presetter.stationPart := by
  unfold State.enforceLimits
  and_intros
  all_goals repeat' split
  all_goals first | rfl | simp_all [pair_eq]

@[simp] theorem State.evaluateIfComplete_frame (s : State) :
    s.evaluateIfComplete.pending = s.pending ∧
      s.evaluateIfComplete.issues = s.issues ∧
      s.evaluateIfComplete.link = s.link ∧
      s.evaluateIfComplete.reports = s.reports ∧
      s.evaluateIfComplete.board = s.board ∧
      s.evaluateIfComplete.freeCount = s.freeCount ∧
      s.evaluateIfComplete.order.portPart = s.order.portPart ∧
      s.evaluateIfComplete.order.clock = s.order.clock ∧
      s.evaluateIfComplete.crib.layoutPart = s.crib.layoutPart ∧
      s.evaluateIfComplete.presetter.stationPart = s.presetter.stationPart := by
  unfold State.evaluateIfComplete
  and_intros
  all_goals repeat' split
  all_goals first | rfl | simp_all [pair_eq]

@[simp] theorem State.loseAxis_frame (a : Axis) (s : State) :
    (s.loseAxis a).pending = s.pending ∧
      (s.loseAxis a).issues = s.issues ∧
      (s.loseAxis a).board = s.board ∧
      (s.loseAxis a).freeCount = s.freeCount ∧
      (s.loseAxis a).order.portPart = s.order.portPart ∧
      (s.loseAxis a).order.clock = s.order.clock ∧
      (s.loseAxis a).crib.layoutPart = s.crib.layoutPart ∧
      (s.loseAxis a).presetter.stationPart = s.presetter.stationPart ∧
      (s.loseAxis a).link.configPart = s.link.configPart ∧
      (s.loseAxis a).reports.countPart = s.reports.countPart := by
  unfold State.loseAxis
  simp
  and_intros
  · exact (foldl_keeps (fun t => t.pending) _ (fun t n => by simp) _ _).trans (by cases a <;> simp [State.modAxis])
  · exact (foldl_keeps (fun t => t.issues) _ (fun t n => by simp) _ _).trans (by cases a <;> simp [State.modAxis])
  · exact (foldl_keeps (fun t => t.board) _ (fun t n => by simp) _ _).trans (by cases a <;> simp [State.modAxis])
  · exact (foldl_keeps (fun t => t.freeCount) _ (fun t n => by simp) _ _).trans (by cases a <;> simp [State.modAxis])
  · exact (foldl_keeps (fun t => t.order.portPart) _ (fun t n => by simp) _ _).trans (by cases a <;> simp [State.modAxis])
  · exact (foldl_keeps (fun t => t.order.clock) _ (fun t n => by simp) _ _).trans (by cases a <;> simp [State.modAxis])
  · exact (foldl_keeps (fun t => t.crib.layoutPart) _ (fun t n => by simp) _ _).trans (by cases a <;> simp [State.modAxis])
  · exact (foldl_keeps (fun t => t.presetter.stationPart) _ (fun t n => by simp) _ _).trans (by cases a <;> simp [State.modAxis] <;> rfl)
  · exact (foldl_keeps (fun t => t.link.configPart) _ (fun t n => by simp) _ _).trans (by cases a <;> simp [State.modAxis])
  · exact (foldl_keeps (fun t => t.reports.countPart) _ (fun t n => by simp) _ _).trans (by cases a <;> simp [State.modAxis])


@[simp] theorem State.reportUndelivered_frame (c : CellNo) (t : Nat) (cause : UndeliveredCause) (tries : Nat) (s : State) :
    (s.reportUndelivered c t cause tries).pending = s.pending ∧
      (s.reportUndelivered c t cause tries).tools = s.tools ∧
      (s.reportUndelivered c t cause tries).crib = s.crib ∧
      (s.reportUndelivered c t cause tries).presetter = s.presetter ∧
      (s.reportUndelivered c t cause tries).issues = s.issues ∧
      (s.reportUndelivered c t cause tries).board = s.board ∧
      (s.reportUndelivered c t cause tries).freeCount = s.freeCount ∧
      (s.reportUndelivered c t cause tries).order.portPart = s.order.portPart ∧
      (s.reportUndelivered c t cause tries).order.clock = s.order.clock ∧
      (s.reportUndelivered c t cause tries).link.configPart = s.link.configPart ∧
      (s.reportUndelivered c t cause tries).reports.countPart = s.reports.countPart := by simp [State.reportUndelivered]

@[simp] theorem State.lifeEndEnded_frame (c : CellNo) (t : Nat) (e : Exchange) (outcome : ExchangeOutcome) (s : State) :
    (s.lifeEndEnded c t e outcome).pending = s.pending ∧
      (s.lifeEndEnded c t e outcome).tools = s.tools ∧
      (s.lifeEndEnded c t e outcome).crib = s.crib ∧
      (s.lifeEndEnded c t e outcome).presetter = s.presetter ∧
      (s.lifeEndEnded c t e outcome).issues = s.issues ∧
      (s.lifeEndEnded c t e outcome).board = s.board ∧
      (s.lifeEndEnded c t e outcome).freeCount = s.freeCount ∧
      (s.lifeEndEnded c t e outcome).order.portPart = s.order.portPart ∧
      (s.lifeEndEnded c t e outcome).order.clock = s.order.clock ∧
      (s.lifeEndEnded c t e outcome).link.configPart = s.link.configPart ∧
      (s.lifeEndEnded c t e outcome).reports.countPart = s.reports.countPart := by
  unfold State.lifeEndEnded
  repeat' split
  all_goals simp_all

@[simp] theorem State.exchangeEnded_frame (c : CellNo) (e : Exchange) (outcome : ExchangeOutcome) (s : State) :
    (s.exchangeEnded c e outcome).pending = s.pending ∧
      (s.exchangeEnded c e outcome).presetter = s.presetter ∧
      (s.exchangeEnded c e outcome).board = s.board ∧
      (s.exchangeEnded c e outcome).freeCount = s.freeCount ∧
      (s.exchangeEnded c e outcome).order.portPart = s.order.portPart ∧
      (s.exchangeEnded c e outcome).order.clock = s.order.clock ∧
      (s.exchangeEnded c e outcome).crib.layoutPart = s.crib.layoutPart ∧
      (s.exchangeEnded c e outcome).issues.transitWindow = s.issues.transitWindow ∧
      (s.exchangeEnded c e outcome).link.configPart = s.link.configPart ∧
      (s.exchangeEnded c e outcome).reports.countPart = s.reports.countPart := by
  unfold State.exchangeEnded
  repeat' split
  all_goals simp_all

@[simp] theorem State.exchangeDeferred_frame (e : Exchange) (s : State) :
    (s.exchangeDeferred e).pending = s.pending ∧
      (s.exchangeDeferred e).crib = s.crib ∧
      (s.exchangeDeferred e).presetter = s.presetter ∧
      (s.exchangeDeferred e).board = s.board ∧
      (s.exchangeDeferred e).freeCount = s.freeCount ∧
      (s.exchangeDeferred e).order.portPart = s.order.portPart ∧
      (s.exchangeDeferred e).order.clock = s.order.clock ∧
      (s.exchangeDeferred e).issues.transitWindow = s.issues.transitWindow ∧
      (s.exchangeDeferred e).link.configPart = s.link.configPart ∧
      (s.exchangeDeferred e).reports.countPart = s.reports.countPart := by
  unfold State.exchangeDeferred
  repeat' split
  all_goals simp_all

@[simp] theorem State.deliverLink_frame (s : State) (e : LinkEvent) :
    (s.deliverLink e).pending = s.pending ∧
      (s.deliverLink e).presetter = s.presetter ∧
      (s.deliverLink e).board = s.board ∧
      (s.deliverLink e).freeCount = s.freeCount ∧
      (s.deliverLink e).order.portPart = s.order.portPart ∧
      (s.deliverLink e).order.clock = s.order.clock ∧
      (s.deliverLink e).crib.layoutPart = s.crib.layoutPart ∧
      (s.deliverLink e).issues.transitWindow = s.issues.transitWindow ∧
      (s.deliverLink e).link.configPart = s.link.configPart ∧
      (s.deliverLink e).reports.countPart = s.reports.countPart := by
  unfold State.deliverLink
  split <;> simp

@[simp] theorem State.deliverAll_frame (p : State × List LinkEvent) :
    (State.deliverAll p).pending = p.1.pending ∧
      (State.deliverAll p).presetter = p.1.presetter ∧
      (State.deliverAll p).board = p.1.board ∧
      (State.deliverAll p).freeCount = p.1.freeCount ∧
      (State.deliverAll p).order.portPart = p.1.order.portPart ∧
      (State.deliverAll p).order.clock = p.1.order.clock ∧
      (State.deliverAll p).crib.layoutPart = p.1.crib.layoutPart ∧
      (State.deliverAll p).issues.transitWindow = p.1.issues.transitWindow ∧
      (State.deliverAll p).link.configPart = p.1.link.configPart ∧
      (State.deliverAll p).reports.countPart = p.1.reports.countPart := by
  unfold State.deliverAll
  and_intros
  · exact foldl_keeps (fun t => t.pending) _ (fun t e => by simp) _ _
  · exact foldl_keeps (fun t => t.presetter) _ (fun t e => by simp) _ _
  · exact foldl_keeps (fun t => t.board) _ (fun t e => by simp) _ _
  · exact foldl_keeps (fun t => t.freeCount) _ (fun t e => by simp) _ _
  · exact foldl_keeps (fun t => t.order.portPart) _ (fun t e => by simp) _ _
  · exact foldl_keeps (fun t => t.order.clock) _ (fun t e => by simp) _ _
  · exact foldl_keeps (fun t => t.crib.layoutPart) _ (fun t e => by simp) _ _
  · exact foldl_keeps (fun t => t.issues.transitWindow) _ (fun t e => by simp) _ _
  · exact foldl_keeps (fun t => t.link.configPart) _ (fun t e => by simp) _ _
  · exact foldl_keeps (fun t => t.reports.countPart) _ (fun t e => by simp) _ _


@[simp] theorem State.cellsGood_frame (s : State) :
    s.cellsGood.pending = s.pending ∧
      s.cellsGood.tools = s.tools ∧
      s.cellsGood.crib = s.crib ∧
      s.cellsGood.presetter = s.presetter ∧
      s.cellsGood.issues = s.issues ∧
      s.cellsGood.board = s.board ∧
      s.cellsGood.freeCount = s.freeCount ∧
      s.cellsGood.order.portPart = s.order.portPart ∧
      s.cellsGood.order.clock = s.order.clock ∧
      s.cellsGood.link.configPart = s.link.configPart ∧
      s.cellsGood.reports.countPart = s.reports.countPart := by
  obtain ⟨t, eq⟩ : ∃ t, t = (List.finRange 24).foldl (fun t c => t.makeGood c .linkRestart) s := ⟨_, rfl⟩
  have keeps : ∀ {β : Type} (view : State → β), (∀ t c, view (t.makeGood c .linkRestart) = view t) → view t = view s :=
    fun view h => eq ▸ foldl_keeps view _ h _ _
  unfold State.cellsGood
  rw [← eq]
  exact ⟨keeps (fun t => t.pending) (by simp),
    keeps (fun t => t.tools) (by simp),
    keeps (fun t => t.crib) (by simp),
    keeps (fun t => t.presetter) (by simp),
    keeps (fun t => t.issues) (by simp),
    keeps (fun t => t.board) (by simp),
    keeps (fun t => t.freeCount) (by simp),
    keeps (fun t => t.order.portPart) (by simp),
    keeps (fun t => t.order.clock) (by simp),
    keeps (fun t => t.link.configPart) (by simp),
    keeps (fun t => t.reports.countPart) (by simp)⟩

@[simp] theorem State.linkActive_frame (cause : LinkCause) (s : State) :
    (s.linkActive cause).pending = s.pending ∧
      (s.linkActive cause).tools = s.tools ∧
      (s.linkActive cause).crib = s.crib ∧
      (s.linkActive cause).presetter = s.presetter ∧
      (s.linkActive cause).issues = s.issues ∧
      (s.linkActive cause).board = s.board ∧
      (s.linkActive cause).freeCount = s.freeCount ∧
      (s.linkActive cause).order.portPart = s.order.portPart ∧
      (s.linkActive cause).order.clock = s.order.clock ∧
      (s.linkActive cause).link.configPart = s.link.configPart ∧
      (s.linkActive cause).reports.countPart = s.reports.countPart := by
  unfold State.linkActive
  split
  · simp
    rfl
  · simp
    rfl

@[simp] theorem State.restartTimers_frame (s : State) :
    s.restartTimers.pending = s.pending ∧
      s.restartTimers.order = s.order ∧
      s.restartTimers.tools = s.tools ∧
      s.restartTimers.crib = s.crib ∧
      s.restartTimers.presetter = s.presetter ∧
      s.restartTimers.issues = s.issues ∧
      s.restartTimers.reports = s.reports ∧
      s.restartTimers.board = s.board ∧
      s.restartTimers.freeCount = s.freeCount ∧
      s.restartTimers.link.configPart = s.link.configPart := by and_intros <;> rfl

@[simp] theorem State.restartLink_frame (s : State) :
    s.restartLink.pending = s.pending ∧
      s.restartLink.presetter = s.presetter ∧
      s.restartLink.board = s.board ∧
      s.restartLink.freeCount = s.freeCount ∧
      s.restartLink.order.portPart = s.order.portPart ∧
      s.restartLink.order.clock = s.order.clock ∧
      s.restartLink.crib.layoutPart = s.crib.layoutPart ∧
      s.restartLink.issues.transitWindow = s.issues.transitWindow ∧
      s.restartLink.link.configPart = s.link.configPart ∧
      s.restartLink.reports.countPart = s.reports.countPart := by
  unfold State.restartLink
  simp
  rfl

end Sys2Proof.Machine
end

