-- ==== Sys2Proof/Laws/FramesMeanings.lean ====
section
/-! SUPPORT. What the meanings leave alone: for each operation, the blocks it does not touch, and of those it does,
the parts that Safety.lean names. -/

namespace Sys2Proof.Machine

@[simp] theorem State.post_frame (n : SlotNo) (s : State) :
    (s.post n).pending = s.pending ∧
      (s.post n).tools = s.tools ∧
      (s.post n).crib = s.crib ∧
      (s.post n).presetter = s.presetter ∧
      (s.post n).issues = s.issues ∧
      (s.post n).link = s.link ∧
      (s.post n).reports = s.reports ∧
      (s.post n).board = s.board ∧
      (s.post n).freeCount = s.freeCount ∧
      (s.post n).order.clock = s.order.clock := by
  unfold State.post
  repeat' split
  all_goals simp_all

@[simp] theorem State.free_frame (n : SlotNo) (s : State) :
    (s.free n).pending = s.pending ∧
      (s.free n).tools = s.tools ∧
      (s.free n).crib = s.crib ∧
      (s.free n).presetter = s.presetter ∧
      (s.free n).issues = s.issues ∧
      (s.free n).link = s.link ∧
      (s.free n).reports = s.reports ∧
      (s.free n).board = s.board ∧
      (s.free n).freeCount = s.freeCount ∧
      (s.free n).order.portPart = s.order.portPart ∧
      (s.free n).order.clock = s.order.clock := by
  unfold State.free
  repeat' split
  all_goals simp_all

@[simp] theorem State.releaseEntries_frame (n : BitVec 16) (s : State) :
    (s.releaseEntries n).pending = s.pending ∧
      (s.releaseEntries n).tools = s.tools ∧
      (s.releaseEntries n).crib = s.crib ∧
      (s.releaseEntries n).presetter = s.presetter ∧
      (s.releaseEntries n).issues = s.issues ∧
      (s.releaseEntries n).link = s.link ∧
      (s.releaseEntries n).board = s.board ∧
      (s.releaseEntries n).freeCount = s.freeCount ∧
      (s.releaseEntries n).order.clock = s.order.clock := by
  unfold State.releaseEntries
  repeat' split
  all_goals simp_all

@[simp] theorem State.begin_frame (x : Series) (s : State) :
    (s.begin x).pending = s.pending ∧
      (s.begin x).tools = s.tools ∧
      (s.begin x).crib = s.crib ∧
      (s.begin x).presetter = s.presetter ∧
      (s.begin x).issues = s.issues ∧
      (s.begin x).link = s.link ∧
      (s.begin x).reports = s.reports ∧
      (s.begin x).board = s.board ∧
      (s.begin x).freeCount = s.freeCount ∧
      (s.begin x).order.clock = s.order.clock := by and_intros <;> rfl

@[simp] theorem State.resultDone_frame (n : SlotNo) (s : State) :
    (s.resultDone n).pending = s.pending ∧
      (s.resultDone n).tools = s.tools ∧
      (s.resultDone n).crib = s.crib ∧
      (s.resultDone n).presetter = s.presetter ∧
      (s.resultDone n).issues = s.issues ∧
      (s.resultDone n).link = s.link ∧
      (s.resultDone n).reports = s.reports ∧
      (s.resultDone n).freeCount = s.freeCount ∧
      (s.resultDone n).order.clock = s.order.clock := by and_intros <;> rfl

@[simp] theorem State.reportDone_frame (s : State) :
    s.reportDone.pending = s.pending ∧
      s.reportDone.tools = s.tools ∧
      s.reportDone.crib = s.crib ∧
      s.reportDone.presetter = s.presetter ∧
      s.reportDone.issues = s.issues ∧
      s.reportDone.freeCount = s.freeCount ∧
      s.reportDone.order.clock = s.order.clock ∧
      s.reportDone.link.configPart = s.link.configPart := by
  simp only [State.reportDone]
  and_intros
  all_goals repeat' split
  all_goals first | rfl | simp_all [pair_eq]

@[simp] theorem doSetCell_frame (img : SlotImage) (n : SlotNo) (s : State) :
    (doSetCell img n s).pending = s.pending ∧
      (doSetCell img n s).tools = s.tools ∧
      (doSetCell img n s).crib = s.crib ∧
      (doSetCell img n s).presetter = s.presetter ∧
      (doSetCell img n s).issues = s.issues ∧
      (doSetCell img n s).reports = s.reports ∧
      (doSetCell img n s).board = s.board ∧
      (doSetCell img n s).freeCount = s.freeCount ∧
      (doSetCell img n s).order.portPart = s.order.portPart ∧
      (doSetCell img n s).order.clock = s.order.clock ∧
      (doSetCell img n s).link.configPart = s.link.configPart := by
  simp only [doSetCell]
  and_intros
  all_goals repeat' split
  all_goals first | rfl | simp_all [pair_eq]

@[simp] theorem doSetRight_frame (img : SlotImage) (n : SlotNo) (s : State) :
    (doSetRight img n s).pending = s.pending ∧
      (doSetRight img n s).tools = s.tools ∧
      (doSetRight img n s).crib = s.crib ∧
      (doSetRight img n s).presetter = s.presetter ∧
      (doSetRight img n s).issues = s.issues ∧
      (doSetRight img n s).reports = s.reports ∧
      (doSetRight img n s).board = s.board ∧
      (doSetRight img n s).freeCount = s.freeCount ∧
      (doSetRight img n s).order.portPart = s.order.portPart ∧
      (doSetRight img n s).order.clock = s.order.clock := by
  unfold doSetRight
  repeat' split
  all_goals simp_all

@[simp] theorem State.endClosed_frame (s : State) (r : Request) :
    (s.endClosed r).pending = s.pending ∧
      (s.endClosed r).board = s.board ∧
      (s.endClosed r).freeCount = s.freeCount ∧
      (s.endClosed r).order.portPart = s.order.portPart ∧
      (s.endClosed r).order.clock = s.order.clock ∧
      (s.endClosed r).crib.layoutPart = s.crib.layoutPart ∧
      (s.endClosed r).presetter.stationPart = s.presetter.stationPart ∧
      (s.endClosed r).issues.transitWindow = s.issues.transitWindow ∧
      (s.endClosed r).link.configPart = s.link.configPart ∧
      (s.endClosed r).reports.countPart = s.reports.countPart := by simp [State.endClosed]

@[simp] theorem doSetDrawer_frame (img : SlotImage) (n : SlotNo) (s : State) :
    (doSetDrawer img n s).pending = s.pending ∧
      (doSetDrawer img n s).board = s.board ∧
      (doSetDrawer img n s).freeCount = s.freeCount ∧
      (doSetDrawer img n s).order.portPart = s.order.portPart ∧
      (doSetDrawer img n s).order.clock = s.order.clock ∧
      (doSetDrawer img n s).presetter.stationPart = s.presetter.stationPart ∧
      (doSetDrawer img n s).issues.transitWindow = s.issues.transitWindow ∧
      (doSetDrawer img n s).link.configPart = s.link.configPart ∧
      (doSetDrawer img n s).reports.countPart = s.reports.countPart := by
  have keeps : ∀ {β : Type} (view : State → β) (l : List Request) (t : State),
      (∀ t r, view (t.endClosed r) = view t) → view (l.foldl State.endClosed t) = view t :=
    fun view l t h => foldl_keeps view _ h l t
  unfold doSetDrawer
  split
  · extract_lets old t ended
    split
    · simp
    · simp only [State.complete_frame]
      and_intros
      · rw [keeps (fun t => t.pending) _ _ (by simp)]; simp [t]
      · rw [keeps (fun t => t.board) _ _ (by simp)]; simp [t]
      · rw [keeps (fun t => t.freeCount) _ _ (by simp)]; simp [t]
      · rw [keeps (fun t => t.order.portPart) _ _ (by simp)]; simp [t]
      · rw [keeps (fun t => t.order.clock) _ _ (by simp)]; simp [t]
      · rw [keeps (fun t => t.presetter.stationPart) _ _ (by simp)]; simp [t]
      · rw [keeps (fun t => t.issues.transitWindow) _ _ (by simp)]; simp [t]
      · rw [keeps (fun t => t.link.configPart) _ _ (by simp)]; simp [t]
      · rw [keeps (fun t => t.reports.countPart) _ _ (by simp)]; simp [t]
  · simp

@[simp] theorem State.storeLimits_frame (l : Limits) (s : State) :
    (s.storeLimits l).pending = s.pending ∧
      (s.storeLimits l).order = s.order ∧
      (s.storeLimits l).tools = s.tools ∧
      (s.storeLimits l).reports = s.reports ∧
      (s.storeLimits l).board = s.board ∧
      (s.storeLimits l).freeCount = s.freeCount := by and_intros <;> rfl

@[simp] theorem State.restartBroadcast_frame (given : Bool) (s : State) :
    (s.restartBroadcast given).pending = s.pending ∧
      (s.restartBroadcast given).order = s.order ∧
      (s.restartBroadcast given).tools = s.tools ∧
      (s.restartBroadcast given).crib = s.crib ∧
      (s.restartBroadcast given).presetter = s.presetter ∧
      (s.restartBroadcast given).issues = s.issues ∧
      (s.restartBroadcast given).reports = s.reports ∧
      (s.restartBroadcast given).board = s.board ∧
      (s.restartBroadcast given).freeCount = s.freeCount ∧
      (s.restartBroadcast given).link.configPart = s.link.configPart := by
  unfold State.restartBroadcast
  and_intros
  all_goals repeat' split
  all_goals first | rfl | simp_all

@[simp] theorem doSetLimits_frame (img : SlotImage) (n : SlotNo) (s : State) :
    (doSetLimits img n s).pending = s.pending ∧
      (doSetLimits img n s).tools = s.tools ∧
      (doSetLimits img n s).reports = s.reports ∧
      (doSetLimits img n s).board = s.board ∧
      (doSetLimits img n s).freeCount = s.freeCount ∧
      (doSetLimits img n s).order.portPart = s.order.portPart ∧
      (doSetLimits img n s).order.clock = s.order.clock := by
  simp only [doSetLimits]
  and_intros
  all_goals repeat' split
  all_goals first | rfl | simp_all [pair_eq]

@[simp] theorem doLockLayout_frame (n : SlotNo) (s : State) :
    (doLockLayout n s).pending = s.pending ∧
      (doLockLayout n s).tools = s.tools ∧
      (doLockLayout n s).presetter = s.presetter ∧
      (doLockLayout n s).issues = s.issues ∧
      (doLockLayout n s).link = s.link ∧
      (doLockLayout n s).reports = s.reports ∧
      (doLockLayout n s).board = s.board ∧
      (doLockLayout n s).freeCount = s.freeCount ∧
      (doLockLayout n s).order.portPart = s.order.portPart ∧
      (doLockLayout n s).order.clock = s.order.clock := by simp [doLockLayout]

@[simp] theorem State.enterService_frame (s : State) :
    s.enterService.pending = s.pending ∧
      s.enterService.tools = s.tools ∧
      s.enterService.crib = s.crib ∧
      s.enterService.presetter = s.presetter ∧
      s.enterService.issues = s.issues ∧
      s.enterService.reports = s.reports ∧
      s.enterService.board = s.board ∧
      s.enterService.freeCount = s.freeCount ∧
      s.enterService.order.clock = s.order.clock ∧
      s.enterService.link.configPart = s.link.configPart := by and_intros <;> rfl

@[simp] theorem doStartService_frame (n : SlotNo) (s : State) :
    (doStartService n s).pending = s.pending ∧
      (doStartService n s).tools = s.tools ∧
      (doStartService n s).crib = s.crib ∧
      (doStartService n s).presetter = s.presetter ∧
      (doStartService n s).issues = s.issues ∧
      (doStartService n s).reports = s.reports ∧
      (doStartService n s).board = s.board ∧
      (doStartService n s).freeCount = s.freeCount ∧
      (doStartService n s).order.clock = s.order.clock ∧
      (doStartService n s).link.configPart = s.link.configPart := by
  unfold doStartService
  repeat' split
  all_goals simp_all

@[simp] theorem State.dropPolls_frame (s : State) :
    s.dropPolls.pending = s.pending ∧
      s.dropPolls.order = s.order ∧
      s.dropPolls.tools = s.tools ∧
      s.dropPolls.crib = s.crib ∧
      s.dropPolls.presetter = s.presetter ∧
      s.dropPolls.issues = s.issues ∧
      s.dropPolls.reports = s.reports ∧
      s.dropPolls.board = s.board ∧
      s.dropPolls.freeCount = s.freeCount ∧
      s.dropPolls.link.configPart = s.link.configPart := by and_intros <;> rfl

@[simp] theorem State.enterSetup_frame (s : State) :
    s.enterSetup.pending = s.pending ∧
      s.enterSetup.tools = s.tools ∧
      s.enterSetup.crib = s.crib ∧
      s.enterSetup.presetter = s.presetter ∧
      s.enterSetup.issues = s.issues ∧
      s.enterSetup.reports = s.reports ∧
      s.enterSetup.board = s.board ∧
      s.enterSetup.freeCount = s.freeCount ∧
      s.enterSetup.order.clock = s.order.clock ∧
      s.enterSetup.link.configPart = s.link.configPart := by simp [State.enterSetup]

@[simp] theorem doStopService_frame (n : SlotNo) (s : State) :
    (doStopService n s).pending = s.pending ∧
      (doStopService n s).tools = s.tools ∧
      (doStopService n s).crib = s.crib ∧
      (doStopService n s).presetter = s.presetter ∧
      (doStopService n s).issues = s.issues ∧
      (doStopService n s).reports = s.reports ∧
      (doStopService n s).board = s.board ∧
      (doStopService n s).freeCount = s.freeCount ∧
      (doStopService n s).order.clock = s.order.clock ∧
      (doStopService n s).link.configPart = s.link.configPart := by
  unfold doStopService
  repeat' split
  all_goals simp_all

@[simp] theorem doRestoreCell_frame (img : SlotImage) (n : SlotNo) (s : State) :
    (doRestoreCell img n s).pending = s.pending ∧
      (doRestoreCell img n s).tools = s.tools ∧
      (doRestoreCell img n s).crib = s.crib ∧
      (doRestoreCell img n s).presetter = s.presetter ∧
      (doRestoreCell img n s).issues = s.issues ∧
      (doRestoreCell img n s).board = s.board ∧
      (doRestoreCell img n s).freeCount = s.freeCount ∧
      (doRestoreCell img n s).order.portPart = s.order.portPart ∧
      (doRestoreCell img n s).order.clock = s.order.clock ∧
      (doRestoreCell img n s).link.configPart = s.link.configPart ∧
      (doRestoreCell img n s).reports.countPart = s.reports.countPart := by
  unfold doRestoreCell
  repeat' split
  all_goals simp_all

@[simp] theorem State.enrolPocket_frame (x : Tool) (s : State) :
    (s.enrolPocket x).pending = s.pending ∧
      (s.enrolPocket x).order = s.order ∧
      (s.enrolPocket x).tools = s.tools ∧
      (s.enrolPocket x).presetter = s.presetter ∧
      (s.enrolPocket x).issues = s.issues ∧
      (s.enrolPocket x).link = s.link ∧
      (s.enrolPocket x).reports = s.reports ∧
      (s.enrolPocket x).board = s.board ∧
      (s.enrolPocket x).freeCount = s.freeCount ∧
      (s.enrolPocket x).crib.layoutPart = s.crib.layoutPart := by
  unfold State.enrolPocket
  repeat' split
  all_goals simp_all

@[simp] theorem doEnrol_frame (img : SlotImage) (n : SlotNo) (s : State) :
    (doEnrol img n s).pending = s.pending ∧
      (doEnrol img n s).presetter = s.presetter ∧
      (doEnrol img n s).issues = s.issues ∧
      (doEnrol img n s).link = s.link ∧
      (doEnrol img n s).reports = s.reports ∧
      (doEnrol img n s).board = s.board ∧
      (doEnrol img n s).freeCount = s.freeCount ∧
      (doEnrol img n s).order.portPart = s.order.portPart ∧
      (doEnrol img n s).order.clock = s.order.clock ∧
      (doEnrol img n s).crib.layoutPart = s.crib.layoutPart := by
  unfold doEnrol
  repeat' split
  all_goals simp_all

@[simp] theorem State.removeFromPocket_frame (n : SlotNo) (t : Nat) (p : PocketNo) (s : State) :
    (s.removeFromPocket n t p).pending = s.pending ∧
      (s.removeFromPocket n t p).presetter = s.presetter ∧
      (s.removeFromPocket n t p).issues = s.issues ∧
      (s.removeFromPocket n t p).link = s.link ∧
      (s.removeFromPocket n t p).reports = s.reports ∧
      (s.removeFromPocket n t p).board = s.board ∧
      (s.removeFromPocket n t p).freeCount = s.freeCount ∧
      (s.removeFromPocket n t p).order.portPart = s.order.portPart ∧
      (s.removeFromPocket n t p).order.clock = s.order.clock ∧
      (s.removeFromPocket n t p).crib.layoutPart = s.crib.layoutPart := by
  unfold State.removeFromPocket
  and_intros
  all_goals repeat' split
  all_goals first | rfl | simp_all [pair_eq]

@[simp] theorem doRemove_frame (img : SlotImage) (n : SlotNo) (s : State) :
    (doRemove img n s).pending = s.pending ∧
      (doRemove img n s).presetter = s.presetter ∧
      (doRemove img n s).issues = s.issues ∧
      (doRemove img n s).link = s.link ∧
      (doRemove img n s).reports = s.reports ∧
      (doRemove img n s).board = s.board ∧
      (doRemove img n s).freeCount = s.freeCount ∧
      (doRemove img n s).order.portPart = s.order.portPart ∧
      (doRemove img n s).order.clock = s.order.clock ∧
      (doRemove img n s).crib.layoutPart = s.crib.layoutPart := by
  simp only [doRemove]
  and_intros
  all_goals repeat' split
  all_goals first | rfl | simp_all [pair_eq]

@[simp] theorem doReadTool_frame (img : SlotImage) (n : SlotNo) (s : State) :
    (doReadTool img n s).pending = s.pending ∧
      (doReadTool img n s).tools = s.tools ∧
      (doReadTool img n s).crib = s.crib ∧
      (doReadTool img n s).presetter = s.presetter ∧
      (doReadTool img n s).issues = s.issues ∧
      (doReadTool img n s).link = s.link ∧
      (doReadTool img n s).reports = s.reports ∧
      (doReadTool img n s).board = s.board ∧
      (doReadTool img n s).freeCount = s.freeCount ∧
      (doReadTool img n s).order.portPart = s.order.portPart ∧
      (doReadTool img n s).order.clock = s.order.clock := by
  unfold doReadTool
  repeat' split
  all_goals simp_all

@[simp] theorem doFind_frame (img : SlotImage) (n : SlotNo) (s : State) :
    (doFind img n s).pending = s.pending ∧
      (doFind img n s).tools = s.tools ∧
      (doFind img n s).crib = s.crib ∧
      (doFind img n s).presetter = s.presetter ∧
      (doFind img n s).issues = s.issues ∧
      (doFind img n s).link = s.link ∧
      (doFind img n s).reports = s.reports ∧
      (doFind img n s).board = s.board ∧
      (doFind img n s).freeCount = s.freeCount ∧
      (doFind img n s).order.portPart = s.order.portPart ∧
      (doFind img n s).order.clock = s.order.clock := by
  unfold doFind
  repeat' split
  all_goals simp_all

@[simp] theorem doSetLife_frame (img : SlotImage) (n : SlotNo) (s : State) :
    (doSetLife img n s).pending = s.pending ∧
      (doSetLife img n s).crib = s.crib ∧
      (doSetLife img n s).presetter = s.presetter ∧
      (doSetLife img n s).issues = s.issues ∧
      (doSetLife img n s).link = s.link ∧
      (doSetLife img n s).reports = s.reports ∧
      (doSetLife img n s).board = s.board ∧
      (doSetLife img n s).freeCount = s.freeCount ∧
      (doSetLife img n s).order.portPart = s.order.portPart ∧
      (doSetLife img n s).order.clock = s.order.clock := by
  simp only [doSetLife]
  and_intros
  all_goals repeat' split
  all_goals first | rfl | simp_all [pair_eq]

@[simp] theorem doRegrind_frame (img : SlotImage) (n : SlotNo) (s : State) :
    (doRegrind img n s).pending = s.pending ∧
      (doRegrind img n s).crib = s.crib ∧
      (doRegrind img n s).presetter = s.presetter ∧
      (doRegrind img n s).issues = s.issues ∧
      (doRegrind img n s).link = s.link ∧
      (doRegrind img n s).reports = s.reports ∧
      (doRegrind img n s).board = s.board ∧
      (doRegrind img n s).freeCount = s.freeCount ∧
      (doRegrind img n s).order.portPart = s.order.portPart ∧
      (doRegrind img n s).order.clock = s.order.clock := by
  simp only [doRegrind]
  and_intros
  all_goals repeat' split
  all_goals first | rfl | simp_all [pair_eq]

@[simp] theorem State.startHoming_frame (axes : AxisSet) (s : State) :
    (s.startHoming axes).pending = s.pending ∧
      (s.startHoming axes).order = s.order ∧
      (s.startHoming axes).tools = s.tools ∧
      (s.startHoming axes).crib = s.crib ∧
      (s.startHoming axes).issues = s.issues ∧
      (s.startHoming axes).link = s.link ∧
      (s.startHoming axes).reports = s.reports ∧
      (s.startHoming axes).board = s.board ∧
      (s.startHoming axes).freeCount = s.freeCount ∧
      (s.startHoming axes).presetter.stationPart = s.presetter.stationPart := by
  unfold State.startHoming
  and_intros
  all_goals repeat' split
  all_goals first | rfl | simp_all

@[simp] theorem State.refuseHome_frame (n : SlotNo) (st : Status) (s : State) :
    (s.refuseHome n st).pending = s.pending ∧
      (s.refuseHome n st).tools = s.tools ∧
      (s.refuseHome n st).crib = s.crib ∧
      (s.refuseHome n st).presetter = s.presetter ∧
      (s.refuseHome n st).issues = s.issues ∧
      (s.refuseHome n st).link = s.link ∧
      (s.refuseHome n st).reports = s.reports ∧
      (s.refuseHome n st).board = s.board ∧
      (s.refuseHome n st).freeCount = s.freeCount ∧
      (s.refuseHome n st).order.portPart = s.order.portPart ∧
      (s.refuseHome n st).order.clock = s.order.clock := by simp [State.refuseHome]

@[simp] theorem doHome_frame (img : SlotImage) (n : SlotNo) (s : State) :
    (doHome img n s).pending = s.pending ∧
      (doHome img n s).tools = s.tools ∧
      (doHome img n s).crib = s.crib ∧
      (doHome img n s).issues = s.issues ∧
      (doHome img n s).board = s.board ∧
      (doHome img n s).freeCount = s.freeCount ∧
      (doHome img n s).order.portPart = s.order.portPart ∧
      (doHome img n s).order.clock = s.order.clock ∧
      (doHome img n s).presetter.stationPart = s.presetter.stationPart ∧
      (doHome img n s).link.configPart = s.link.configPart ∧
      (doHome img n s).reports.countPart = s.reports.countPart := by
  unfold doHome
  repeat' split
  all_goals simp_all

@[simp] theorem doCalibrate_frame (n : SlotNo) (s : State) :
    (doCalibrate n s).pending = s.pending ∧
      (doCalibrate n s).issues = s.issues ∧
      (doCalibrate n s).link = s.link ∧
      (doCalibrate n s).reports = s.reports ∧
      (doCalibrate n s).board = s.board ∧
      (doCalibrate n s).freeCount = s.freeCount ∧
      (doCalibrate n s).order.portPart = s.order.portPart ∧
      (doCalibrate n s).order.clock = s.order.clock ∧
      (doCalibrate n s).crib.layoutPart = s.crib.layoutPart ∧
      (doCalibrate n s).presetter.stationPart = s.presetter.stationPart := by
  unfold doCalibrate
  repeat' split
  all_goals simp_all

@[simp] theorem State.startMeasure_frame (n : SlotNo) (x : Tool) (s : State) :
    (s.startMeasure n x).pending = s.pending ∧
      (s.startMeasure n x).issues = s.issues ∧
      (s.startMeasure n x).link = s.link ∧
      (s.startMeasure n x).reports = s.reports ∧
      (s.startMeasure n x).board = s.board ∧
      (s.startMeasure n x).freeCount = s.freeCount ∧
      (s.startMeasure n x).order.portPart = s.order.portPart ∧
      (s.startMeasure n x).order.clock = s.order.clock ∧
      (s.startMeasure n x).crib.layoutPart = s.crib.layoutPart ∧
      (s.startMeasure n x).presetter.stationPart = s.presetter.stationPart := by
  unfold State.startMeasure
  extract_lets t
  rcases location : x.location with p | ⟨c, k⟩ | _ | _
  · have keeps := State.requestRemoval_frame .fetch p (.slot n) t
    dsimp only
    split <;> rename_i h <;> rw [h] at keeps <;> simp_all <;> simp [t]
  all_goals simp [t]

@[simp] theorem doMeasure_frame (img : SlotImage) (n : SlotNo) (s : State) :
    (doMeasure img n s).pending = s.pending ∧
      (doMeasure img n s).issues = s.issues ∧
      (doMeasure img n s).link = s.link ∧
      (doMeasure img n s).reports = s.reports ∧
      (doMeasure img n s).board = s.board ∧
      (doMeasure img n s).freeCount = s.freeCount ∧
      (doMeasure img n s).order.portPart = s.order.portPart ∧
      (doMeasure img n s).order.clock = s.order.clock ∧
      (doMeasure img n s).crib.layoutPart = s.crib.layoutPart ∧
      (doMeasure img n s).presetter.stationPart = s.presetter.stationPart := by
  simp only [doMeasure]
  and_intros
  all_goals repeat' split
  all_goals first | rfl | simp_all [pair_eq]

@[simp] theorem State.startStow_frame (n : SlotNo) (x : Tool) (s : State) :
    (s.startStow n x).pending = s.pending ∧
      (s.startStow n x).presetter = s.presetter ∧
      (s.startStow n x).issues = s.issues ∧
      (s.startStow n x).link = s.link ∧
      (s.startStow n x).reports = s.reports ∧
      (s.startStow n x).board = s.board ∧
      (s.startStow n x).freeCount = s.freeCount ∧
      (s.startStow n x).order.portPart = s.order.portPart ∧
      (s.startStow n x).order.clock = s.order.clock ∧
      (s.startStow n x).crib.layoutPart = s.crib.layoutPart := by
  simp only [State.startStow]
  and_intros
  all_goals repeat' split
  all_goals first | rfl | simp_all [pair_eq]

@[simp] theorem doStow_frame (img : SlotImage) (n : SlotNo) (s : State) :
    (doStow img n s).pending = s.pending ∧
      (doStow img n s).presetter = s.presetter ∧
      (doStow img n s).issues = s.issues ∧
      (doStow img n s).link = s.link ∧
      (doStow img n s).reports = s.reports ∧
      (doStow img n s).board = s.board ∧
      (doStow img n s).freeCount = s.freeCount ∧
      (doStow img n s).order.portPart = s.order.portPart ∧
      (doStow img n s).order.clock = s.order.clock ∧
      (doStow img n s).crib.layoutPart = s.crib.layoutPart := by
  simp only [doStow]
  and_intros
  all_goals repeat' split
  all_goals first | rfl | simp_all [pair_eq]

@[simp] theorem doIssue_frame (img : SlotImage) (n : SlotNo) (s : State) :
    (doIssue img n s).pending = s.pending ∧
      (doIssue img n s).crib = s.crib ∧
      (doIssue img n s).presetter = s.presetter ∧
      (doIssue img n s).board = s.board ∧
      (doIssue img n s).freeCount = s.freeCount ∧
      (doIssue img n s).order.portPart = s.order.portPart ∧
      (doIssue img n s).order.clock = s.order.clock ∧
      (doIssue img n s).issues.transitWindow = s.issues.transitWindow ∧
      (doIssue img n s).link.configPart = s.link.configPart ∧
      (doIssue img n s).reports.countPart = s.reports.countPart := by
  have opened : ∀ {a t}, s.acceptIssue a = .ok t → ∃ n, t = s.openIssue a n := by
    intro a t h
    unfold State.acceptIssue at h
    repeat' split at h
    all_goals simp_all
    exact ⟨_, h.symm⟩
  unfold doIssue
  split
  · simp
  · split
    · simp
    · rename_i h
      obtain ⟨k, rfl⟩ := opened h
      simp

@[simp] theorem State.startReturn_frame (n : SlotNo) (x : Tool) (s : State) :
    (s.startReturn n x).pending = s.pending ∧
      (s.startReturn n x).presetter = s.presetter ∧
      (s.startReturn n x).issues = s.issues ∧
      (s.startReturn n x).reports = s.reports ∧
      (s.startReturn n x).board = s.board ∧
      (s.startReturn n x).freeCount = s.freeCount ∧
      (s.startReturn n x).order.portPart = s.order.portPart ∧
      (s.startReturn n x).order.clock = s.order.clock ∧
      (s.startReturn n x).crib.layoutPart = s.crib.layoutPart ∧
      (s.startReturn n x).link.configPart = s.link.configPart := by
  unfold State.startReturn
  and_intros
  all_goals repeat' split
  all_goals first | rfl | simp_all [pair_eq]

@[simp] theorem doReturnTool_frame (img : SlotImage) (n : SlotNo) (s : State) :
    (doReturnTool img n s).pending = s.pending ∧
      (doReturnTool img n s).presetter = s.presetter ∧
      (doReturnTool img n s).issues = s.issues ∧
      (doReturnTool img n s).reports = s.reports ∧
      (doReturnTool img n s).board = s.board ∧
      (doReturnTool img n s).freeCount = s.freeCount ∧
      (doReturnTool img n s).order.portPart = s.order.portPart ∧
      (doReturnTool img n s).order.clock = s.order.clock ∧
      (doReturnTool img n s).crib.layoutPart = s.crib.layoutPart ∧
      (doReturnTool img n s).link.configPart = s.link.configPart := by
  unfold doReturnTool
  extract_lets
  and_intros
  all_goals repeat' split
  all_goals simp +zetaDelta

@[simp] theorem State.abortCycle_frame (m : SlotNo) (s : State) :
    (s.abortCycle m).pending = s.pending ∧
      (s.abortCycle m).issues = s.issues ∧
      (s.abortCycle m).link = s.link ∧
      (s.abortCycle m).reports = s.reports ∧
      (s.abortCycle m).board = s.board ∧
      (s.abortCycle m).freeCount = s.freeCount ∧
      (s.abortCycle m).order.portPart = s.order.portPart ∧
      (s.abortCycle m).order.clock = s.order.clock ∧
      (s.abortCycle m).crib.layoutPart = s.crib.layoutPart ∧
      (s.abortCycle m).presetter.stationPart = s.presetter.stationPart := by
  unfold State.abortCycle
  repeat' split
  all_goals simp_all

@[simp] theorem State.cancelContext_frame (m : SlotNo) (s : State) :
    (s.cancelContext m).1.pending = s.pending ∧
      (s.cancelContext m).1.board = s.board ∧
      (s.cancelContext m).1.freeCount = s.freeCount ∧
      (s.cancelContext m).1.order.portPart = s.order.portPart ∧
      (s.cancelContext m).1.order.clock = s.order.clock ∧
      (s.cancelContext m).1.crib.layoutPart = s.crib.layoutPart ∧
      (s.cancelContext m).1.presetter.stationPart = s.presetter.stationPart ∧
      (s.cancelContext m).1.issues.transitWindow = s.issues.transitWindow ∧
      (s.cancelContext m).1.link.configPart = s.link.configPart ∧
      (s.cancelContext m).1.reports.countPart = s.reports.countPart := by
  unfold State.cancelContext State.cancelMove
  repeat' split
  all_goals simp_all [pair_eq]

@[simp] theorem State.answerCancel_frame (n : SlotNo) (result : List Byte) (p : State × Status) :
    (State.answerCancel n result p).pending = p.1.pending ∧
      (State.answerCancel n result p).board = p.1.board ∧
      (State.answerCancel n result p).freeCount = p.1.freeCount ∧
      (State.answerCancel n result p).order.portPart = p.1.order.portPart ∧
      (State.answerCancel n result p).order.clock = p.1.order.clock ∧
      (State.answerCancel n result p).crib.layoutPart = p.1.crib.layoutPart ∧
      (State.answerCancel n result p).presetter.stationPart = p.1.presetter.stationPart ∧
      (State.answerCancel n result p).issues.transitWindow = p.1.issues.transitWindow ∧
      (State.answerCancel n result p).link.configPart = p.1.link.configPart ∧
      (State.answerCancel n result p).reports.countPart = p.1.reports.countPart := by simp [State.answerCancel]

@[simp] theorem State.cancelBySlot_frame (n m : SlotNo) (s : State) :
    (s.cancelBySlot n m).pending = s.pending ∧
      (s.cancelBySlot n m).board = s.board ∧
      (s.cancelBySlot n m).freeCount = s.freeCount ∧
      (s.cancelBySlot n m).order.portPart = s.order.portPart ∧
      (s.cancelBySlot n m).order.clock = s.order.clock ∧
      (s.cancelBySlot n m).crib.layoutPart = s.crib.layoutPart ∧
      (s.cancelBySlot n m).presetter.stationPart = s.presetter.stationPart ∧
      (s.cancelBySlot n m).issues.transitWindow = s.issues.transitWindow ∧
      (s.cancelBySlot n m).link.configPart = s.link.configPart ∧
      (s.cancelBySlot n m).reports.countPart = s.reports.countPart := by
  unfold State.cancelBySlot
  repeat' split
  all_goals simp_all

@[simp] theorem State.cancelById_frame (n : SlotNo) (id : Nat) (s : State) :
    (s.cancelById n id).pending = s.pending ∧
      (s.cancelById n id).board = s.board ∧
      (s.cancelById n id).freeCount = s.freeCount ∧
      (s.cancelById n id).order.portPart = s.order.portPart ∧
      (s.cancelById n id).order.clock = s.order.clock ∧
      (s.cancelById n id).crib.layoutPart = s.crib.layoutPart ∧
      (s.cancelById n id).presetter.stationPart = s.presetter.stationPart ∧
      (s.cancelById n id).issues.transitWindow = s.issues.transitWindow ∧
      (s.cancelById n id).link.configPart = s.link.configPart ∧
      (s.cancelById n id).reports.countPart = s.reports.countPart := by
  unfold State.cancelById
  repeat' split
  all_goals simp_all

@[simp] theorem doCancel_frame (img : SlotImage) (n : SlotNo) (s : State) :
    (doCancel img n s).pending = s.pending ∧
      (doCancel img n s).board = s.board ∧
      (doCancel img n s).freeCount = s.freeCount ∧
      (doCancel img n s).order.portPart = s.order.portPart ∧
      (doCancel img n s).order.clock = s.order.clock ∧
      (doCancel img n s).crib.layoutPart = s.crib.layoutPart ∧
      (doCancel img n s).presetter.stationPart = s.presetter.stationPart ∧
      (doCancel img n s).issues.transitWindow = s.issues.transitWindow ∧
      (doCancel img n s).link.configPart = s.link.configPart ∧
      (doCancel img n s).reports.countPart = s.reports.countPart := by
  simp only [doCancel]
  and_intros
  all_goals repeat' split
  all_goals first | rfl | simp_all [pair_eq]

@[simp] theorem State.clearNow_frame (n : SlotNo) (p : PocketNo) (s : State) :
    (s.clearNow n p).pending = s.pending ∧
      (s.clearNow n p).tools = s.tools ∧
      (s.clearNow n p).presetter = s.presetter ∧
      (s.clearNow n p).issues = s.issues ∧
      (s.clearNow n p).link = s.link ∧
      (s.clearNow n p).reports = s.reports ∧
      (s.clearNow n p).board = s.board ∧
      (s.clearNow n p).freeCount = s.freeCount ∧
      (s.clearNow n p).order.portPart = s.order.portPart ∧
      (s.clearNow n p).order.clock = s.order.clock ∧
      (s.clearNow n p).crib.layoutPart = s.crib.layoutPart := by simp [State.clearNow]

@[simp] theorem State.clearFaultOf_frame (n : SlotNo) (p : PocketNo) (s : State) :
    (s.clearFaultOf n p).pending = s.pending ∧
      (s.clearFaultOf n p).tools = s.tools ∧
      (s.clearFaultOf n p).presetter = s.presetter ∧
      (s.clearFaultOf n p).issues = s.issues ∧
      (s.clearFaultOf n p).link = s.link ∧
      (s.clearFaultOf n p).reports = s.reports ∧
      (s.clearFaultOf n p).board = s.board ∧
      (s.clearFaultOf n p).freeCount = s.freeCount ∧
      (s.clearFaultOf n p).order.portPart = s.order.portPart ∧
      (s.clearFaultOf n p).order.clock = s.order.clock ∧
      (s.clearFaultOf n p).crib.layoutPart = s.crib.layoutPart := by
  simp only [State.clearFaultOf]
  and_intros
  all_goals repeat' split
  all_goals first | rfl | simp_all [pair_eq]

@[simp] theorem doClearFault_frame (img : SlotImage) (n : SlotNo) (s : State) :
    (doClearFault img n s).pending = s.pending ∧
      (doClearFault img n s).tools = s.tools ∧
      (doClearFault img n s).presetter = s.presetter ∧
      (doClearFault img n s).issues = s.issues ∧
      (doClearFault img n s).link = s.link ∧
      (doClearFault img n s).reports = s.reports ∧
      (doClearFault img n s).board = s.board ∧
      (doClearFault img n s).freeCount = s.freeCount ∧
      (doClearFault img n s).order.portPart = s.order.portPart ∧
      (doClearFault img n s).order.clock = s.order.clock ∧
      (doClearFault img n s).crib.layoutPart = s.crib.layoutPart := by
  unfold doClearFault
  repeat' split
  all_goals simp_all

@[simp] theorem State.writeScan_frame (n : SlotNo) (start size bufLength : Nat) (extra : List Byte) (entries : List ScanEntry) (s : State) :
    (s.writeScan n start size bufLength extra entries).pending = s.pending ∧
      (s.writeScan n start size bufLength extra entries).tools = s.tools ∧
      (s.writeScan n start size bufLength extra entries).crib = s.crib ∧
      (s.writeScan n start size bufLength extra entries).presetter = s.presetter ∧
      (s.writeScan n start size bufLength extra entries).issues = s.issues ∧
      (s.writeScan n start size bufLength extra entries).link = s.link ∧
      (s.writeScan n start size bufLength extra entries).reports = s.reports ∧
      (s.writeScan n start size bufLength extra entries).board = s.board ∧
      (s.writeScan n start size bufLength extra entries).freeCount = s.freeCount ∧
      (s.writeScan n start size bufLength extra entries).order.portPart = s.order.portPart ∧
      (s.writeScan n start size bufLength extra entries).order.clock = s.order.clock := by simp [State.writeScan]

@[simp] theorem doScan_frame (img : SlotImage) (n : SlotNo) (s : State) :
    (doScan img n s).pending = s.pending ∧
      (doScan img n s).tools = s.tools ∧
      (doScan img n s).crib = s.crib ∧
      (doScan img n s).presetter = s.presetter ∧
      (doScan img n s).issues = s.issues ∧
      (doScan img n s).link = s.link ∧
      (doScan img n s).reports = s.reports ∧
      (doScan img n s).board = s.board ∧
      (doScan img n s).freeCount = s.freeCount ∧
      (doScan img n s).order.portPart = s.order.portPart ∧
      (doScan img n s).order.clock = s.order.clock := by
  simp only [doScan]
  and_intros
  all_goals repeat' split
  all_goals first | rfl | simp_all [pair_eq]

@[simp] theorem State.setLock_frame (p : PocketNo) (lock : Lock) (s : State) :
    (s.setLock p lock).pending = s.pending ∧
      (s.setLock p lock).order = s.order ∧
      (s.setLock p lock).tools = s.tools ∧
      (s.setLock p lock).presetter = s.presetter ∧
      (s.setLock p lock).issues = s.issues ∧
      (s.setLock p lock).link = s.link ∧
      (s.setLock p lock).reports = s.reports ∧
      (s.setLock p lock).board = s.board ∧
      (s.setLock p lock).freeCount = s.freeCount ∧
      (s.setLock p lock).crib.layoutPart = s.crib.layoutPart := by and_intros <;> rfl

@[simp] theorem State.confirmReleased_frame (p : PocketNo) (s : State) :
    (s.confirmReleased p).pending = s.pending ∧
      (s.confirmReleased p).tools = s.tools ∧
      (s.confirmReleased p).presetter = s.presetter ∧
      (s.confirmReleased p).link = s.link ∧
      (s.confirmReleased p).reports = s.reports ∧
      (s.confirmReleased p).board = s.board ∧
      (s.confirmReleased p).freeCount = s.freeCount ∧
      (s.confirmReleased p).order.portPart = s.order.portPart ∧
      (s.confirmReleased p).order.clock = s.order.clock ∧
      (s.confirmReleased p).crib.layoutPart = s.crib.layoutPart ∧
      (s.confirmReleased p).issues.transitWindow = s.issues.transitWindow := by
  unfold State.confirmReleased
  repeat' split
  all_goals simp_all

@[simp] theorem State.relockConfirmed_frame (n : SlotNo) (p : PocketNo) (s : State) :
    (s.relockConfirmed n p).pending = s.pending ∧
      (s.relockConfirmed n p).tools = s.tools ∧
      (s.relockConfirmed n p).presetter = s.presetter ∧
      (s.relockConfirmed n p).issues = s.issues ∧
      (s.relockConfirmed n p).link = s.link ∧
      (s.relockConfirmed n p).reports = s.reports ∧
      (s.relockConfirmed n p).board = s.board ∧
      (s.relockConfirmed n p).freeCount = s.freeCount ∧
      (s.relockConfirmed n p).order.portPart = s.order.portPart ∧
      (s.relockConfirmed n p).order.clock = s.order.clock ∧
      (s.relockConfirmed n p).crib.layoutPart = s.crib.layoutPart := by simp [State.relockConfirmed]

@[simp] theorem State.confirmEngaged_frame (p : PocketNo) (s : State) :
    (s.confirmEngaged p).pending = s.pending ∧
      (s.confirmEngaged p).tools = s.tools ∧
      (s.confirmEngaged p).presetter = s.presetter ∧
      (s.confirmEngaged p).issues = s.issues ∧
      (s.confirmEngaged p).link = s.link ∧
      (s.confirmEngaged p).reports = s.reports ∧
      (s.confirmEngaged p).board = s.board ∧
      (s.confirmEngaged p).freeCount = s.freeCount ∧
      (s.confirmEngaged p).order.portPart = s.order.portPart ∧
      (s.confirmEngaged p).order.clock = s.order.clock ∧
      (s.confirmEngaged p).crib.layoutPart = s.crib.layoutPart := by
  unfold State.confirmEngaged
  repeat' split
  all_goals simp_all

@[simp] theorem State.jam_frame (p : PocketNo) (s : State) :
    (s.jam p).pending = s.pending ∧
      (s.jam p).order = s.order ∧
      (s.jam p).tools = s.tools ∧
      (s.jam p).presetter = s.presetter ∧
      (s.jam p).issues = s.issues ∧
      (s.jam p).link = s.link ∧
      (s.jam p).reports = s.reports ∧
      (s.jam p).board = s.board ∧
      (s.jam p).freeCount = s.freeCount ∧
      (s.jam p).crib.layoutPart = s.crib.layoutPart := by and_intros <;> rfl

@[simp] theorem State.jamOpening_frame (p : PocketNo) (s : State) :
    (s.jamOpening p).pending = s.pending ∧
      (s.jamOpening p).board = s.board ∧
      (s.jamOpening p).freeCount = s.freeCount ∧
      (s.jamOpening p).order.portPart = s.order.portPart ∧
      (s.jamOpening p).order.clock = s.order.clock ∧
      (s.jamOpening p).crib.layoutPart = s.crib.layoutPart ∧
      (s.jamOpening p).presetter.stationPart = s.presetter.stationPart ∧
      (s.jamOpening p).issues.transitWindow = s.issues.transitWindow ∧
      (s.jamOpening p).link.configPart = s.link.configPart ∧
      (s.jamOpening p).reports.countPart = s.reports.countPart := by
  unfold State.jamOpening
  repeat' split
  all_goals simp_all

@[simp] theorem State.jamClosing_frame (p : PocketNo) (s : State) :
    (s.jamClosing p).pending = s.pending ∧
      (s.jamClosing p).tools = s.tools ∧
      (s.jamClosing p).presetter = s.presetter ∧
      (s.jamClosing p).issues = s.issues ∧
      (s.jamClosing p).board = s.board ∧
      (s.jamClosing p).freeCount = s.freeCount ∧
      (s.jamClosing p).order.portPart = s.order.portPart ∧
      (s.jamClosing p).order.clock = s.order.clock ∧
      (s.jamClosing p).crib.layoutPart = s.crib.layoutPart ∧
      (s.jamClosing p).link.configPart = s.link.configPart ∧
      (s.jamClosing p).reports.countPart = s.reports.countPart := by
  unfold State.jamClosing
  repeat' split
  all_goals simp_all

@[simp] theorem State.applyChange_frame (r : Request) (s : State) :
    (s.applyChange r).pending = s.pending ∧
      (s.applyChange r).order = s.order ∧
      (s.applyChange r).presetter = s.presetter ∧
      (s.applyChange r).issues = s.issues ∧
      (s.applyChange r).link = s.link ∧
      (s.applyChange r).reports = s.reports ∧
      (s.applyChange r).board = s.board ∧
      (s.applyChange r).freeCount = s.freeCount ∧
      (s.applyChange r).crib.layoutPart = s.crib.layoutPart := by
  simp only [State.applyChange]
  and_intros
  all_goals repeat' split
  all_goals first | rfl | simp_all [pair_eq]

@[simp] theorem State.closeRequest_frame (r : Request) (outcome : MoveOutcome) (s : State) :
    (s.closeRequest r outcome).pending = s.pending ∧
      (s.closeRequest r outcome).board = s.board ∧
      (s.closeRequest r outcome).freeCount = s.freeCount ∧
      (s.closeRequest r outcome).order.portPart = s.order.portPart ∧
      (s.closeRequest r outcome).order.clock = s.order.clock ∧
      (s.closeRequest r outcome).crib.layoutPart = s.crib.layoutPart ∧
      (s.closeRequest r outcome).presetter.stationPart = s.presetter.stationPart ∧
      (s.closeRequest r outcome).issues.transitWindow = s.issues.transitWindow ∧
      (s.closeRequest r outcome).link.configPart = s.link.configPart ∧
      (s.closeRequest r outcome).reports.countPart = s.reports.countPart := by simp [State.closeRequest]

@[simp] theorem State.clearReleased_frame (p : PocketNo) (s : State) :
    (s.clearReleased p).pending = s.pending ∧
      (s.clearReleased p).order = s.order ∧
      (s.clearReleased p).tools = s.tools ∧
      (s.clearReleased p).presetter = s.presetter ∧
      (s.clearReleased p).issues = s.issues ∧
      (s.clearReleased p).link = s.link ∧
      (s.clearReleased p).reports = s.reports ∧
      (s.clearReleased p).board = s.board ∧
      (s.clearReleased p).freeCount = s.freeCount ∧
      (s.clearReleased p).crib.layoutPart = s.crib.layoutPart := by
  unfold State.clearReleased
  repeat' split
  all_goals simp_all

@[simp] theorem State.expectedChange_frame (r : Request) (s : State) :
    (s.expectedChange r).pending = s.pending ∧
      (s.expectedChange r).board = s.board ∧
      (s.expectedChange r).freeCount = s.freeCount ∧
      (s.expectedChange r).order.portPart = s.order.portPart ∧
      (s.expectedChange r).order.clock = s.order.clock ∧
      (s.expectedChange r).crib.layoutPart = s.crib.layoutPart ∧
      (s.expectedChange r).presetter.stationPart = s.presetter.stationPart ∧
      (s.expectedChange r).issues.transitWindow = s.issues.transitWindow ∧
      (s.expectedChange r).link.configPart = s.link.configPart ∧
      (s.expectedChange r).reports.countPart = s.reports.countPart := by
  unfold State.expectedChange
  split <;> simp

@[simp] theorem State.forcedRemoval_frame (p : PocketNo) (t : Nat) (s : State) :
    (s.forcedRemoval p t).pending = s.pending ∧
      (s.forcedRemoval p t).presetter = s.presetter ∧
      (s.forcedRemoval p t).issues = s.issues ∧
      (s.forcedRemoval p t).board = s.board ∧
      (s.forcedRemoval p t).freeCount = s.freeCount ∧
      (s.forcedRemoval p t).order.portPart = s.order.portPart ∧
      (s.forcedRemoval p t).order.clock = s.order.clock ∧
      (s.forcedRemoval p t).crib.layoutPart = s.crib.layoutPart ∧
      (s.forcedRemoval p t).link.configPart = s.link.configPart ∧
      (s.forcedRemoval p t).reports.countPart = s.reports.countPart := by simp [State.forcedRemoval]

@[simp] theorem State.unexpectedRemoval_frame (p : PocketNo) (s : State) :
    (s.unexpectedRemoval p).pending = s.pending ∧
      (s.unexpectedRemoval p).presetter = s.presetter ∧
      (s.unexpectedRemoval p).issues = s.issues ∧
      (s.unexpectedRemoval p).board = s.board ∧
      (s.unexpectedRemoval p).freeCount = s.freeCount ∧
      (s.unexpectedRemoval p).order.portPart = s.order.portPart ∧
      (s.unexpectedRemoval p).order.clock = s.order.clock ∧
      (s.unexpectedRemoval p).crib.layoutPart = s.crib.layoutPart ∧
      (s.unexpectedRemoval p).link.configPart = s.link.configPart ∧
      (s.unexpectedRemoval p).reports.countPart = s.reports.countPart := by
  unfold State.unexpectedRemoval
  repeat' split
  all_goals simp_all

@[simp] theorem State.unexpectedInsertion_frame (p : PocketNo) (s : State) :
    (s.unexpectedInsertion p).pending = s.pending ∧
      (s.unexpectedInsertion p).tools = s.tools ∧
      (s.unexpectedInsertion p).presetter = s.presetter ∧
      (s.unexpectedInsertion p).issues = s.issues ∧
      (s.unexpectedInsertion p).board = s.board ∧
      (s.unexpectedInsertion p).freeCount = s.freeCount ∧
      (s.unexpectedInsertion p).order.portPart = s.order.portPart ∧
      (s.unexpectedInsertion p).order.clock = s.order.clock ∧
      (s.unexpectedInsertion p).crib.layoutPart = s.crib.layoutPart ∧
      (s.unexpectedInsertion p).link.configPart = s.link.configPart ∧
      (s.unexpectedInsertion p).reports.countPart = s.reports.countPart := by
  simp only [State.unexpectedInsertion]
  and_intros
  all_goals repeat' split
  all_goals first | rfl | simp_all [pair_eq]

@[simp] theorem State.earlyReport_frame (p : PocketNo) (x : Sensor) (s : State) :
    (s.earlyReport p x).pending = s.pending ∧
      (s.earlyReport p x).order = s.order ∧
      (s.earlyReport p x).tools = s.tools ∧
      (s.earlyReport p x).presetter = s.presetter ∧
      (s.earlyReport p x).issues = s.issues ∧
      (s.earlyReport p x).link = s.link ∧
      (s.earlyReport p x).reports = s.reports ∧
      (s.earlyReport p x).board = s.board ∧
      (s.earlyReport p x).freeCount = s.freeCount := by and_intros <;> rfl

@[simp] theorem State.stepScale_frame (a : Axis) (up : Bool) (s : State) :
    (s.stepScale a up).pending = s.pending ∧
      (s.stepScale a up).issues = s.issues ∧
      (s.stepScale a up).board = s.board ∧
      (s.stepScale a up).freeCount = s.freeCount ∧
      (s.stepScale a up).order.portPart = s.order.portPart ∧
      (s.stepScale a up).order.clock = s.order.clock ∧
      (s.stepScale a up).crib.layoutPart = s.crib.layoutPart ∧
      (s.stepScale a up).presetter.stationPart = s.presetter.stationPart ∧
      (s.stepScale a up).link.configPart = s.link.configPart ∧
      (s.stepScale a up).reports.countPart = s.reports.countPart := by
  unfold State.stepScale
  extract_lets x t
  split <;> simp [t]

@[simp] theorem State.quadratureFault_frame (a : Axis) (s : State) :
    (s.quadratureFault a).pending = s.pending ∧
      (s.quadratureFault a).issues = s.issues ∧
      (s.quadratureFault a).board = s.board ∧
      (s.quadratureFault a).freeCount = s.freeCount ∧
      (s.quadratureFault a).order.portPart = s.order.portPart ∧
      (s.quadratureFault a).order.clock = s.order.clock ∧
      (s.quadratureFault a).crib.layoutPart = s.crib.layoutPart ∧
      (s.quadratureFault a).presetter.stationPart = s.presetter.stationPart ∧
      (s.quadratureFault a).link.configPart = s.link.configPart ∧
      (s.quadratureFault a).reports.countPart = s.reports.countPart := by
  unfold State.quadratureFault
  repeat' split
  all_goals simp_all

@[simp] theorem State.markAxis_frame (a : Axis) (s : State) :
    (s.markAxis a).pending = s.pending ∧
      (s.markAxis a).tools = s.tools ∧
      (s.markAxis a).crib = s.crib ∧
      (s.markAxis a).issues = s.issues ∧
      (s.markAxis a).link = s.link ∧
      (s.markAxis a).reports = s.reports ∧
      (s.markAxis a).board = s.board ∧
      (s.markAxis a).freeCount = s.freeCount ∧
      (s.markAxis a).order.portPart = s.order.portPart ∧
      (s.markAxis a).order.clock = s.order.clock ∧
      (s.markAxis a).presetter.stationPart = s.presetter.stationPart := by
  unfold State.markAxis
  and_intros
  · rw [foldl_keeps (fun t => t.pending) _ (fun t n => by simp)]; simp
  · rw [foldl_keeps (fun t => t.tools) _ (fun t n => by simp)]; simp
  · rw [foldl_keeps (fun t => t.crib) _ (fun t n => by simp)]; simp
  · rw [foldl_keeps (fun t => t.issues) _ (fun t n => by simp)]; simp
  · rw [foldl_keeps (fun t => t.link) _ (fun t n => by simp)]; simp
  · rw [foldl_keeps (fun t => t.reports) _ (fun t n => by simp)]; simp
  · rw [foldl_keeps (fun t => t.board) _ (fun t n => by simp)]; simp
  · rw [foldl_keeps (fun t => t.freeCount) _ (fun t n => by simp)]; simp
  · rw [foldl_keeps (fun t => t.order.portPart) _ (fun t n => by simp)]; simp
  · rw [foldl_keeps (fun t => t.order.clock) _ (fun t n => by simp)]; simp
  · rw [foldl_keeps (fun t => t.presetter.stationPart) _ (fun t n => by simp)]; simp

@[simp] theorem State.deliverSeated_frame (n : SlotNo) (s : State) :
    (s.deliverSeated n).pending = s.pending ∧
      (s.deliverSeated n).issues = s.issues ∧
      (s.deliverSeated n).link = s.link ∧
      (s.deliverSeated n).reports = s.reports ∧
      (s.deliverSeated n).board = s.board ∧
      (s.deliverSeated n).freeCount = s.freeCount ∧
      (s.deliverSeated n).order.portPart = s.order.portPart ∧
      (s.deliverSeated n).order.clock = s.order.clock ∧
      (s.deliverSeated n).crib.layoutPart = s.crib.layoutPart ∧
      (s.deliverSeated n).presetter.stationPart = s.presetter.stationPart := by
  unfold State.deliverSeated
  repeat' split
  all_goals simp_all

@[simp] theorem State.seatCycle_frame (n : SlotNo) (s : State) :
    (s.seatCycle n).pending = s.pending ∧
      (s.seatCycle n).issues = s.issues ∧
      (s.seatCycle n).link = s.link ∧
      (s.seatCycle n).reports = s.reports ∧
      (s.seatCycle n).board = s.board ∧
      (s.seatCycle n).freeCount = s.freeCount ∧
      (s.seatCycle n).order.portPart = s.order.portPart ∧
      (s.seatCycle n).order.clock = s.order.clock ∧
      (s.seatCycle n).crib.layoutPart = s.crib.layoutPart ∧
      (s.seatCycle n).presetter.stationPart = s.presetter.stationPart := by
  unfold State.seatCycle
  simp
  rfl

@[simp] theorem State.unseatTool_frame (s : State) :
    s.unseatTool.pending = s.pending ∧
      s.unseatTool.order = s.order ∧
      s.unseatTool.crib = s.crib ∧
      s.unseatTool.presetter = s.presetter ∧
      s.unseatTool.issues = s.issues ∧
      s.unseatTool.link = s.link ∧
      s.unseatTool.reports = s.reports ∧
      s.unseatTool.board = s.board ∧
      s.unseatTool.freeCount = s.freeCount := by and_intros <;> rfl

@[simp] theorem State.acceptTouch_frame (a : Axis) (touches : Nat) (s : State) :
    (s.acceptTouch a touches).pending = s.pending ∧
      (s.acceptTouch a touches).issues = s.issues ∧
      (s.acceptTouch a touches).link = s.link ∧
      (s.acceptTouch a touches).reports = s.reports ∧
      (s.acceptTouch a touches).board = s.board ∧
      (s.acceptTouch a touches).freeCount = s.freeCount ∧
      (s.acceptTouch a touches).order.portPart = s.order.portPart ∧
      (s.acceptTouch a touches).order.clock = s.order.clock ∧
      (s.acceptTouch a touches).crib.layoutPart = s.crib.layoutPart ∧
      (s.acceptTouch a touches).presetter.stationPart = s.presetter.stationPart := by
  unfold State.acceptTouch
  simp [State.modAxis_stationPart a (AxisRec.touch touches) s fun _ => rfl]

@[simp] theorem State.receive_frame (c : CellNo) (f : LinkFrame) (s : State) :
    (s.receive c f).pending = s.pending ∧
      (s.receive c f).order = s.order ∧
      (s.receive c f).tools = s.tools ∧
      (s.receive c f).crib = s.crib ∧
      (s.receive c f).presetter = s.presetter ∧
      (s.receive c f).issues = s.issues ∧
      (s.receive c f).reports = s.reports ∧
      (s.receive c f).board = s.board ∧
      (s.receive c f).freeCount = s.freeCount ∧
      (s.receive c f).link.configPart = s.link.configPart := by and_intros <;> rfl

@[simp] theorem State.driveSlot_frame (driven : Bool) (s : State) :
    (s.driveSlot driven).pending = s.pending ∧
      (s.driveSlot driven).order = s.order ∧
      (s.driveSlot driven).tools = s.tools ∧
      (s.driveSlot driven).crib = s.crib ∧
      (s.driveSlot driven).presetter = s.presetter ∧
      (s.driveSlot driven).issues = s.issues ∧
      (s.driveSlot driven).reports = s.reports ∧
      (s.driveSlot driven).board = s.board ∧
      (s.driveSlot driven).freeCount = s.freeCount ∧
      (s.driveSlot driven).link.configPart = s.link.configPart := by and_intros <;> rfl

@[simp] theorem State.denyRequest_frame (f : RxFrame) (a : Ask) (reason : Reason) (s : State) :
    (s.denyRequest f a reason).pending = s.pending ∧
      (s.denyRequest f a reason).tools = s.tools ∧
      (s.denyRequest f a reason).crib = s.crib ∧
      (s.denyRequest f a reason).presetter = s.presetter ∧
      (s.denyRequest f a reason).issues = s.issues ∧
      (s.denyRequest f a reason).board = s.board ∧
      (s.denyRequest f a reason).freeCount = s.freeCount ∧
      (s.denyRequest f a reason).order.portPart = s.order.portPart ∧
      (s.denyRequest f a reason).order.clock = s.order.clock ∧
      (s.denyRequest f a reason).link.configPart = s.link.configPart ∧
      (s.denyRequest f a reason).reports.countPart = s.reports.countPart := by simp [State.denyRequest]

@[simp] theorem State.takeRequest_frame (f : RxFrame) (s : State) :
    (s.takeRequest f).pending = s.pending ∧
      (s.takeRequest f).crib = s.crib ∧
      (s.takeRequest f).presetter = s.presetter ∧
      (s.takeRequest f).board = s.board ∧
      (s.takeRequest f).freeCount = s.freeCount ∧
      (s.takeRequest f).order.portPart = s.order.portPart ∧
      (s.takeRequest f).order.clock = s.order.clock ∧
      (s.takeRequest f).issues.transitWindow = s.issues.transitWindow ∧
      (s.takeRequest f).link.configPart = s.link.configPart ∧
      (s.takeRequest f).reports.countPart = s.reports.countPart := by
  have opened : ∀ {a t}, s.acceptIssue a = .ok t → ∃ n, t = s.openIssue a n := by
    intro a t h
    unfold State.acceptIssue at h
    repeat' split at h
    all_goals simp_all
    exact ⟨_, h.symm⟩
  unfold State.takeRequest
  split
  · simp
  · split
    · rename_i h
      obtain ⟨k, rfl⟩ := opened h
      simp
    · simp

@[simp] theorem State.rejectMount_frame (c : CellNo) (t m : Nat) (s : State) :
    (s.rejectMount c t m).pending = s.pending ∧
      (s.rejectMount c t m).tools = s.tools ∧
      (s.rejectMount c t m).crib = s.crib ∧
      (s.rejectMount c t m).presetter = s.presetter ∧
      (s.rejectMount c t m).issues = s.issues ∧
      (s.rejectMount c t m).board = s.board ∧
      (s.rejectMount c t m).freeCount = s.freeCount ∧
      (s.rejectMount c t m).order.portPart = s.order.portPart ∧
      (s.rejectMount c t m).order.clock = s.order.clock ∧
      (s.rejectMount c t m).link.configPart = s.link.configPart ∧
      (s.rejectMount c t m).reports.countPart = s.reports.countPart := by simp [State.rejectMount]

@[simp] theorem State.mountWithoutIssue_frame (c : CellNo) (t m : Nat) (s : State) :
    (s.mountWithoutIssue c t m).pending = s.pending ∧
      (s.mountWithoutIssue c t m).crib = s.crib ∧
      (s.mountWithoutIssue c t m).presetter = s.presetter ∧
      (s.mountWithoutIssue c t m).issues = s.issues ∧
      (s.mountWithoutIssue c t m).board = s.board ∧
      (s.mountWithoutIssue c t m).freeCount = s.freeCount ∧
      (s.mountWithoutIssue c t m).order.portPart = s.order.portPart ∧
      (s.mountWithoutIssue c t m).order.clock = s.order.clock ∧
      (s.mountWithoutIssue c t m).link.configPart = s.link.configPart ∧
      (s.mountWithoutIssue c t m).reports.countPart = s.reports.countPart := by
  unfold State.mountWithoutIssue
  repeat' split
  all_goals simp_all

@[simp] theorem State.takeMounted_frame (f : RxFrame) (s : State) :
    (s.takeMounted f).pending = s.pending ∧
      (s.takeMounted f).crib = s.crib ∧
      (s.takeMounted f).presetter = s.presetter ∧
      (s.takeMounted f).board = s.board ∧
      (s.takeMounted f).freeCount = s.freeCount ∧
      (s.takeMounted f).order.portPart = s.order.portPart ∧
      (s.takeMounted f).order.clock = s.order.clock ∧
      (s.takeMounted f).issues.transitWindow = s.issues.transitWindow ∧
      (s.takeMounted f).link.configPart = s.link.configPart ∧
      (s.takeMounted f).reports.countPart = s.reports.countPart := by
  unfold State.takeMounted
  repeat' split
  all_goals simp_all

@[simp] theorem State.denyCancel_frame (c : CellNo) (id : Nat) (reason : Reason) (s : State) :
    (s.denyCancel c id reason).pending = s.pending ∧
      (s.denyCancel c id reason).tools = s.tools ∧
      (s.denyCancel c id reason).crib = s.crib ∧
      (s.denyCancel c id reason).presetter = s.presetter ∧
      (s.denyCancel c id reason).issues = s.issues ∧
      (s.denyCancel c id reason).board = s.board ∧
      (s.denyCancel c id reason).freeCount = s.freeCount ∧
      (s.denyCancel c id reason).order.portPart = s.order.portPart ∧
      (s.denyCancel c id reason).order.clock = s.order.clock ∧
      (s.denyCancel c id reason).link.configPart = s.link.configPart ∧
      (s.denyCancel c id reason).reports.countPart = s.reports.countPart := by simp [State.denyCancel]

@[simp] theorem State.takeCancel_frame (f : RxFrame) (s : State) :
    (s.takeCancel f).pending = s.pending ∧
      (s.takeCancel f).presetter = s.presetter ∧
      (s.takeCancel f).board = s.board ∧
      (s.takeCancel f).freeCount = s.freeCount ∧
      (s.takeCancel f).order.portPart = s.order.portPart ∧
      (s.takeCancel f).order.clock = s.order.clock ∧
      (s.takeCancel f).crib.layoutPart = s.crib.layoutPart ∧
      (s.takeCancel f).issues.transitWindow = s.issues.transitWindow ∧
      (s.takeCancel f).link.configPart = s.link.configPart ∧
      (s.takeCancel f).reports.countPart = s.reports.countPart := by
  simp only [State.takeCancel]
  and_intros
  all_goals repeat' split
  all_goals first | rfl | simp_all [pair_eq]

@[simp] theorem State.takeDataTaken_frame (f : RxFrame) (s : State) :
    (s.takeDataTaken f).pending = s.pending ∧
      (s.takeDataTaken f).presetter = s.presetter ∧
      (s.takeDataTaken f).board = s.board ∧
      (s.takeDataTaken f).freeCount = s.freeCount ∧
      (s.takeDataTaken f).order.portPart = s.order.portPart ∧
      (s.takeDataTaken f).order.clock = s.order.clock ∧
      (s.takeDataTaken f).crib.layoutPart = s.crib.layoutPart ∧
      (s.takeDataTaken f).issues.transitWindow = s.issues.transitWindow ∧
      (s.takeDataTaken f).link.configPart = s.link.configPart ∧
      (s.takeDataTaken f).reports.countPart = s.reports.countPart := by
  unfold State.takeDataTaken
  repeat' split
  all_goals simp_all

@[simp] theorem State.takeDataRefused_frame (f : RxFrame) (s : State) :
    (s.takeDataRefused f).pending = s.pending ∧
      (s.takeDataRefused f).presetter = s.presetter ∧
      (s.takeDataRefused f).board = s.board ∧
      (s.takeDataRefused f).freeCount = s.freeCount ∧
      (s.takeDataRefused f).order.portPart = s.order.portPart ∧
      (s.takeDataRefused f).order.clock = s.order.clock ∧
      (s.takeDataRefused f).crib.layoutPart = s.crib.layoutPart ∧
      (s.takeDataRefused f).issues.transitWindow = s.issues.transitWindow ∧
      (s.takeDataRefused f).link.configPart = s.link.configPart ∧
      (s.takeDataRefused f).reports.countPart = s.reports.countPart := by
  unfold State.takeDataRefused
  repeat' split
  all_goals simp_all

@[simp] theorem State.takeWithdrawn_frame (f : RxFrame) (s : State) :
    (s.takeWithdrawn f).pending = s.pending ∧
      (s.takeWithdrawn f).presetter = s.presetter ∧
      (s.takeWithdrawn f).board = s.board ∧
      (s.takeWithdrawn f).freeCount = s.freeCount ∧
      (s.takeWithdrawn f).order.portPart = s.order.portPart ∧
      (s.takeWithdrawn f).order.clock = s.order.clock ∧
      (s.takeWithdrawn f).crib.layoutPart = s.crib.layoutPart ∧
      (s.takeWithdrawn f).issues.transitWindow = s.issues.transitWindow ∧
      (s.takeWithdrawn f).link.configPart = s.link.configPart ∧
      (s.takeWithdrawn f).reports.countPart = s.reports.countPart := by
  unfold State.takeWithdrawn
  repeat' split
  all_goals simp_all

@[simp] theorem State.countPresent_frame (c : CellNo) (s : State) :
    (s.countPresent c).pending = s.pending ∧
      (s.countPresent c).tools = s.tools ∧
      (s.countPresent c).crib = s.crib ∧
      (s.countPresent c).presetter = s.presetter ∧
      (s.countPresent c).issues = s.issues ∧
      (s.countPresent c).board = s.board ∧
      (s.countPresent c).freeCount = s.freeCount ∧
      (s.countPresent c).order.portPart = s.order.portPart ∧
      (s.countPresent c).order.clock = s.order.clock ∧
      (s.countPresent c).link.configPart = s.link.configPart ∧
      (s.countPresent c).reports.countPart = s.reports.countPart := by
  simp only [State.countPresent]
  and_intros
  all_goals repeat' split
  all_goals first | rfl | simp_all [pair_eq]

@[simp] theorem State.takePresent_frame (f : RxFrame) (s : State) :
    (s.takePresent f).pending = s.pending ∧
      (s.takePresent f).presetter = s.presetter ∧
      (s.takePresent f).board = s.board ∧
      (s.takePresent f).freeCount = s.freeCount ∧
      (s.takePresent f).order.portPart = s.order.portPart ∧
      (s.takePresent f).order.clock = s.order.clock ∧
      (s.takePresent f).crib.layoutPart = s.crib.layoutPart ∧
      (s.takePresent f).issues.transitWindow = s.issues.transitWindow ∧
      (s.takePresent f).link.configPart = s.link.configPart ∧
      (s.takePresent f).reports.countPart = s.reports.countPart := by
  unfold State.takePresent
  repeat' split
  all_goals simp_all

@[simp] theorem State.lifeChecks_frame (c : CellNo) (t : Nat) (follows : Bool) (s : State) :
    (s.lifeChecks c t follows).pending = s.pending ∧
      (s.lifeChecks c t follows).crib = s.crib ∧
      (s.lifeChecks c t follows).presetter = s.presetter ∧
      (s.lifeChecks c t follows).issues = s.issues ∧
      (s.lifeChecks c t follows).board = s.board ∧
      (s.lifeChecks c t follows).freeCount = s.freeCount ∧
      (s.lifeChecks c t follows).order.portPart = s.order.portPart ∧
      (s.lifeChecks c t follows).order.clock = s.order.clock ∧
      (s.lifeChecks c t follows).link.configPart = s.link.configPart ∧
      (s.lifeChecks c t follows).reports.countPart = s.reports.countPart := by
  unfold State.lifeChecks
  repeat' split
  all_goals simp_all

@[simp] theorem State.addIncrement_frame (c : CellNo) (t n : Nat) (follows : Bool) (s : State) :
    (s.addIncrement c t n follows).pending = s.pending ∧
      (s.addIncrement c t n follows).crib = s.crib ∧
      (s.addIncrement c t n follows).presetter = s.presetter ∧
      (s.addIncrement c t n follows).issues = s.issues ∧
      (s.addIncrement c t n follows).board = s.board ∧
      (s.addIncrement c t n follows).freeCount = s.freeCount ∧
      (s.addIncrement c t n follows).order.portPart = s.order.portPart ∧
      (s.addIncrement c t n follows).order.clock = s.order.clock ∧
      (s.addIncrement c t n follows).link.configPart = s.link.configPart ∧
      (s.addIncrement c t n follows).reports.countPart = s.reports.countPart := by
  unfold State.addIncrement
  repeat' split
  all_goals simp_all

@[simp] theorem State.queueLifeEnd_frame (c : CellNo) (t : Nat) (s : State) :
    (s.queueLifeEnd c t).pending = s.pending ∧
      (s.queueLifeEnd c t).tools = s.tools ∧
      (s.queueLifeEnd c t).crib = s.crib ∧
      (s.queueLifeEnd c t).presetter = s.presetter ∧
      (s.queueLifeEnd c t).issues = s.issues ∧
      (s.queueLifeEnd c t).board = s.board ∧
      (s.queueLifeEnd c t).freeCount = s.freeCount ∧
      (s.queueLifeEnd c t).order.portPart = s.order.portPart ∧
      (s.queueLifeEnd c t).order.clock = s.order.clock ∧
      (s.queueLifeEnd c t).link.configPart = s.link.configPart ∧
      (s.queueLifeEnd c t).reports.countPart = s.reports.countPart := by
  unfold State.queueLifeEnd
  and_intros
  all_goals repeat' split
  all_goals first | rfl | simp_all [pair_eq]

@[simp] theorem State.acceptUsage_frame (c : CellNo) (x : Tool) (n : Nat) (s : State) :
    (s.acceptUsage c x n).pending = s.pending ∧
      (s.acceptUsage c x n).crib = s.crib ∧
      (s.acceptUsage c x n).presetter = s.presetter ∧
      (s.acceptUsage c x n).issues = s.issues ∧
      (s.acceptUsage c x n).board = s.board ∧
      (s.acceptUsage c x n).freeCount = s.freeCount ∧
      (s.acceptUsage c x n).order.portPart = s.order.portPart ∧
      (s.acceptUsage c x n).order.clock = s.order.clock ∧
      (s.acceptUsage c x n).link.configPart = s.link.configPart ∧
      (s.acceptUsage c x n).reports.countPart = s.reports.countPart := by
  simp only [State.acceptUsage]
  and_intros
  all_goals repeat' split
  all_goals first | rfl | simp_all [pair_eq]

@[simp] theorem State.rejectUsage_frame (c : CellNo) (t n : Nat) (s : State) :
    (s.rejectUsage c t n).pending = s.pending ∧
      (s.rejectUsage c t n).tools = s.tools ∧
      (s.rejectUsage c t n).crib = s.crib ∧
      (s.rejectUsage c t n).presetter = s.presetter ∧
      (s.rejectUsage c t n).issues = s.issues ∧
      (s.rejectUsage c t n).board = s.board ∧
      (s.rejectUsage c t n).freeCount = s.freeCount ∧
      (s.rejectUsage c t n).order.portPart = s.order.portPart ∧
      (s.rejectUsage c t n).order.clock = s.order.clock ∧
      (s.rejectUsage c t n).link.configPart = s.link.configPart ∧
      (s.rejectUsage c t n).reports.countPart = s.reports.countPart := by simp [State.rejectUsage]

@[simp] theorem State.takeUsage_frame (f : RxFrame) (s : State) :
    (s.takeUsage f).pending = s.pending ∧
      (s.takeUsage f).crib = s.crib ∧
      (s.takeUsage f).presetter = s.presetter ∧
      (s.takeUsage f).issues = s.issues ∧
      (s.takeUsage f).board = s.board ∧
      (s.takeUsage f).freeCount = s.freeCount ∧
      (s.takeUsage f).order.portPart = s.order.portPart ∧
      (s.takeUsage f).order.clock = s.order.clock ∧
      (s.takeUsage f).link.configPart = s.link.configPart ∧
      (s.takeUsage f).reports.countPart = s.reports.countPart := by
  simp only [State.takeUsage]
  and_intros
  all_goals repeat' split
  all_goals first | rfl | simp_all [pair_eq]

@[simp] theorem State.denyNotice_frame (c : CellNo) (t n : Nat) (reason : Reason) (s : State) :
    (s.denyNotice c t n reason).pending = s.pending ∧
      (s.denyNotice c t n reason).tools = s.tools ∧
      (s.denyNotice c t n reason).crib = s.crib ∧
      (s.denyNotice c t n reason).presetter = s.presetter ∧
      (s.denyNotice c t n reason).issues = s.issues ∧
      (s.denyNotice c t n reason).board = s.board ∧
      (s.denyNotice c t n reason).freeCount = s.freeCount ∧
      (s.denyNotice c t n reason).order.portPart = s.order.portPart ∧
      (s.denyNotice c t n reason).order.clock = s.order.clock ∧
      (s.denyNotice c t n reason).link.configPart = s.link.configPart ∧
      (s.denyNotice c t n reason).reports.countPart = s.reports.countPart := by simp [State.denyNotice]

@[simp] theorem State.acceptNotice_frame (c : CellNo) (t n : Nat) (before : ToolState) (s : State) :
    (s.acceptNotice c t n before).pending = s.pending ∧
      (s.acceptNotice c t n before).crib = s.crib ∧
      (s.acceptNotice c t n before).presetter = s.presetter ∧
      (s.acceptNotice c t n before).issues = s.issues ∧
      (s.acceptNotice c t n before).board = s.board ∧
      (s.acceptNotice c t n before).freeCount = s.freeCount ∧
      (s.acceptNotice c t n before).order.portPart = s.order.portPart ∧
      (s.acceptNotice c t n before).order.clock = s.order.clock ∧
      (s.acceptNotice c t n before).link.configPart = s.link.configPart ∧
      (s.acceptNotice c t n before).reports.countPart = s.reports.countPart := by
  simp only [State.acceptNotice]
  and_intros
  all_goals repeat' split
  all_goals first | rfl | simp_all [pair_eq]

@[simp] theorem State.takeNotice_frame (f : RxFrame) (s : State) :
    (s.takeNotice f).pending = s.pending ∧
      (s.takeNotice f).crib = s.crib ∧
      (s.takeNotice f).presetter = s.presetter ∧
      (s.takeNotice f).issues = s.issues ∧
      (s.takeNotice f).board = s.board ∧
      (s.takeNotice f).freeCount = s.freeCount ∧
      (s.takeNotice f).order.portPart = s.order.portPart ∧
      (s.takeNotice f).order.clock = s.order.clock ∧
      (s.takeNotice f).link.configPart = s.link.configPart ∧
      (s.takeNotice f).reports.countPart = s.reports.countPart := by
  simp only [State.takeNotice]
  and_intros
  all_goals repeat' split
  all_goals first | rfl | simp_all [pair_eq]

@[simp] theorem State.attemptOver_frame (a : Attempt) (s : State) :
    (s.attemptOver a).pending = s.pending ∧
      (s.attemptOver a).order = s.order ∧
      (s.attemptOver a).tools = s.tools ∧
      (s.attemptOver a).crib = s.crib ∧
      (s.attemptOver a).presetter = s.presetter ∧
      (s.attemptOver a).issues = s.issues ∧
      (s.attemptOver a).reports = s.reports ∧
      (s.attemptOver a).board = s.board ∧
      (s.attemptOver a).freeCount = s.freeCount ∧
      (s.attemptOver a).link.configPart = s.link.configPart := by
  unfold State.attemptOver
  extract_lets t
  have config : t.link.configPart = s.link.configPart := rfl
  split
  · and_intros <;> rfl
  · split <;> simp [config] <;> simp [t]

@[simp] theorem State.noticeLoss_frame (a : Attempt) (s : State) :
    (s.noticeLoss a).pending = s.pending ∧
      (s.noticeLoss a).order = s.order ∧
      (s.noticeLoss a).tools = s.tools ∧
      (s.noticeLoss a).crib = s.crib ∧
      (s.noticeLoss a).presetter = s.presetter ∧
      (s.noticeLoss a).link = s.link ∧
      (s.noticeLoss a).reports = s.reports ∧
      (s.noticeLoss a).board = s.board ∧
      (s.noticeLoss a).freeCount = s.freeCount ∧
      (s.noticeLoss a).issues.transitWindow = s.issues.transitWindow := by
  unfold State.noticeLoss
  repeat' split
  all_goals simp_all

@[simp] theorem State.countFault_frame (a : Attempt) (s : State) :
    (s.countFault a).pending = s.pending ∧
      (s.countFault a).tools = s.tools ∧
      (s.countFault a).crib = s.crib ∧
      (s.countFault a).presetter = s.presetter ∧
      (s.countFault a).issues = s.issues ∧
      (s.countFault a).board = s.board ∧
      (s.countFault a).freeCount = s.freeCount ∧
      (s.countFault a).order.portPart = s.order.portPart ∧
      (s.countFault a).order.clock = s.order.clock ∧
      (s.countFault a).link.configPart = s.link.configPart ∧
      (s.countFault a).reports.countPart = s.reports.countPart := by
  unfold State.countFault
  extract_lets t
  have config : t.link.configPart = s.link.configPart := rfl
  split <;> simp [config] <;> simp [t]

@[simp] theorem State.exchangeSent_frame (c : CellNo) (ack : Bool) (s : State) :
    (s.exchangeSent c ack).pending = s.pending ∧
      (s.exchangeSent c ack).presetter = s.presetter ∧
      (s.exchangeSent c ack).board = s.board ∧
      (s.exchangeSent c ack).freeCount = s.freeCount ∧
      (s.exchangeSent c ack).order.portPart = s.order.portPart ∧
      (s.exchangeSent c ack).order.clock = s.order.clock ∧
      (s.exchangeSent c ack).crib.layoutPart = s.crib.layoutPart ∧
      (s.exchangeSent c ack).issues.transitWindow = s.issues.transitWindow ∧
      (s.exchangeSent c ack).link.configPart = s.link.configPart ∧
      (s.exchangeSent c ack).reports.countPart = s.reports.countPart := by
  unfold State.exchangeSent
  repeat' split
  all_goals simp_all

@[simp] theorem State.frameSent_frame (a : Attempt) (ack : Bool) (s : State) :
    (s.frameSent a ack).pending = s.pending ∧
      (s.frameSent a ack).presetter = s.presetter ∧
      (s.frameSent a ack).board = s.board ∧
      (s.frameSent a ack).freeCount = s.freeCount ∧
      (s.frameSent a ack).order.portPart = s.order.portPart ∧
      (s.frameSent a ack).order.clock = s.order.clock ∧
      (s.frameSent a ack).crib.layoutPart = s.crib.layoutPart ∧
      (s.frameSent a ack).issues.transitWindow = s.issues.transitWindow ∧
      (s.frameSent a ack).link.configPart = s.link.configPart ∧
      (s.frameSent a ack).reports.countPart = s.reports.countPart := by
  unfold State.frameSent
  extract_lets t
  have config : t.link.configPart = s.link.configPart := rfl
  split
  · and_intros <;> rfl
  · split <;> simp [config] <;> simp [t]

@[simp] theorem State.dispatchPoll_frame (s : State) :
    s.dispatchPoll.pending = s.pending ∧
      s.dispatchPoll.order = s.order ∧
      s.dispatchPoll.tools = s.tools ∧
      s.dispatchPoll.crib = s.crib ∧
      s.dispatchPoll.presetter = s.presetter ∧
      s.dispatchPoll.issues = s.issues ∧
      s.dispatchPoll.reports = s.reports ∧
      s.dispatchPoll.board = s.board ∧
      s.dispatchPoll.freeCount = s.freeCount := by
  unfold State.dispatchPoll
  repeat' split
  all_goals simp_all

end Sys2Proof.Machine
end

