-- ==== Sys2Proof/Laws/Orders.lean ====
section
/-! SUPPORT. What taking an order, forming its result and the end of a step do (R174, R179, R180): the commands that bring orders
reduce to State.answered, State.started and State.ended of Safety.lean. -/

namespace Sys2Proof.Machine

/-- An order that passes the checks of R179 is handed to the work of its kind, in the same step. -/
theorem State.takeOrder_accepted {s : State} {k : OrderKind} {img : SlotImage} {n : SlotNo}
    (work : SlotNo → State → State) (ok : s.accepts k img n) :
    s.takeOrder k img work = (work n (s.taken n k.code img)).settle := by
  obtain ⟨⟨reading, _⟩, checks⟩ := ok
  simp [State.takeOrder, reading, checks]

/-- An order that fails a check of R179 is refused with the status of that check. -/
theorem State.takeOrder_refused {s : State} {k : OrderKind} {img : SlotImage} {n : SlotNo} {st : Status}
    (work : SlotNo → State → State) (reading : s.reading n) (check : takingCheck k img s.order.service = some st) :
    s.takeOrder k img work = ((s.taken n k.code img).refuse n st).settle := by
  simp [State.takeOrder, reading.1, check]

/-- The slot that has just been taken. -/
@[simp] theorem State.slot_taken (n : SlotNo) (kind : Nat) (img : SlotImage) (s : State) :
    (s.taken n kind img).slot n = { state := .taken, context := some (newContext kind img) } :=
  (State.slot_setSlot n n _ s).trans (if_pos rfl)

@[simp] theorem State.formedNow_taken (n : SlotNo) (kind : Nat) (img : SlotImage) (s : State) :
    (s.taken n kind img).order.formedNow = s.order.formedNow := rfl

@[simp] theorem State.clock_taken (n : SlotNo) (kind : Nat) (img : SlotImage) (s : State) :
    (s.taken n kind img).order.clock = s.order.clock := rfl

/-- A result formed alone in its step joins the waiting ones last. -/
theorem State.settle_completeWith {s : State} {n : SlotNo} {c : Context} (status : Status) (result buffer : List Byte)
    (context : (s.slot n).context = some c) (unfinished : c.output = none) (alone : s.order.formedNow = []) :
    (s.completeWith n status result buffer).settle = s.ended n status result buffer := by
  unfold State.completeWith State.ended State.settle
  simp only [context, unfinished]
  simp [State.setSlot, State.modOrder, insertSlot, alone, context]

/-- A result formed in the step that took its slot. -/
theorem State.ended_taken (n : SlotNo) (kind : Nat) (img : SlotImage) (status : Status) (result buffer : List Byte)
    (s : State) : (s.taken n kind img).ended n status result buffer = s.answered n kind img status result buffer := by
  unfold State.ended
  rw [State.slot_taken]
  simp [State.taken, State.answered, State.setSlot, State.modOrder, newContext]

/-- The end of a step in which no result was formed. -/
theorem State.settle_of_none {s : State} (none : s.order.formedNow = []) : s.settle = s := by
  cases s with
  | mk pending order tools crib presetter issues link reports board freeCount =>
    cases order
    simp_all [State.settle, State.modOrder]

/-- Work set in the step that took its slot. -/
theorem State.setWork_taken (n : SlotNo) (kind : Nat) (img : SlotImage) (work : Work) (s : State) :
    (s.taken n kind img).setWork n work = s.started n kind img work := by
  unfold State.setWork
  rw [State.slot_taken]
  simp [State.taken, State.started, State.setSlot, State.modOrder, newContext]

end Sys2Proof.Machine
end

