-- ==== Sys2Proof/Laws/Issues.lean ====
section
/-! SUPPORT. What closing an issue does (R143, R144): State.closeIssue reduces to State.issueClosed of Safety.lean. -/

namespace Sys2Proof.Machine

/-- A record read back after one is freed. -/
theorem State.issueRec_freeRecord (i j : IssueNo) (s : State) :
    (s.freeRecord i).issueRec j =
      if i = j then { generation := advanceGeneration i (s.issueRec i).generation, issue := none } else s.issueRec j :=
  get_set ..

/-- What a report does to the Report Writer rests on the Report Writer and the port alone. -/
theorem State.reports_handReport_congr {s t : State} (r : Report) (reports : t.reports = s.reports)
    (order : t.order = s.order) : (t.handReport r).reports = (s.handReport r).reports := by
  unfold State.handReport State.enterStall State.placeCribState State.canAccess State.clock
  simp only [reports, order, State.modReports, State.modOrder, State.modLink]
  split <;> (try split) <;> rfl

/-- A report changes no slot. -/
theorem State.slots_handReport (r : Report) (s : State) : (s.handReport r).order.slots = s.order.slots := by
  unfold State.handReport State.enterStall State.placeCribState
  simp only [State.modReports, State.modOrder, State.modLink]
  split <;> (try split) <;> rfl

/-- The context of an order that forms its result. -/
theorem State.context_complete {s : State} {n : SlotNo} {c : Context} (status : Status) (result : List Byte)
    (context : (s.slot n).context = some c) (unfinished : c.output = none) :
    ((s.complete n status result).slot n).context = some
      { c with
        work := .idle
        output := some { status := status, stamp := s.clock, result := result, buffer := [] } } := by
  unfold State.complete State.completeWith
  simp only [context, unfinished]
  exact congrArg Slot.context ((State.slot_setSlot n n _ s).trans (if_pos rfl))

/-- The result of an ISSUE rests on the Tool Table alone. -/
theorem State.issueResult_congr {s t : State} (id : Nat) (x : Issue) (tools : t.tools = s.tools) :
    t.issueResult id x = s.issueResult id x := by
  simp only [State.issueResult, State.toolAfter, State.findTool, tools]

/-- ISSUE_CLOSED rests on the Tool Table and the clock alone. -/
theorem State.issueClosedReport_congr {s t : State} (id : Nat) (x : Issue) (ref : Nat) (result : Status)
    (tools : t.tools = s.tools) (order : t.order = s.order) :
    t.issueClosedReport id x ref result = s.issueClosedReport id x ref result := by
  simp only [State.issueClosedReport, State.findTool, State.clock, tools, order]

/-- The release at a close, spelled out (R143). -/
theorem closeRelease_eq (x : Issue) (result : Status) (y : Tool) :
    closeRelease x result y =
      match result with
      | .mounted =>
        { y.release false .out (.cell x.cell x.slot) with
          issueCount := min 65535 ((y.release false .out (.cell x.cell x.slot)).issueCount + 1) }
      | .astray => y.release false .astray .loose
      | _ => y.release false .ready y.location := by
  cases result <;> rfl

/-- A close of an open issue, by its steps (R143). -/
theorem State.closeIssue_eq {s : State} {i : IssueNo} {x y : Issue} (result : Status)
    (isOpen : (s.issueRec i).issue = some x) (closed : y = { x with closed := some s.clock }) :
    s.closeIssue i result =
      (match y.origin with
        | .order n => (s.modTool y.tool (closeRelease y result)).complete n result
            ((s.modTool y.tool (closeRelease y result)).issueResult (s.issueId i) y)
        | .cell ref => (s.modTool y.tool (closeRelease y result)).handReport
            ((s.modTool y.tool (closeRelease y result)).issueClosedReport (s.issueId i) y ref result)).freeRecord i := by
  subst closed
  unfold State.closeIssue
  rw [isOpen] <;> rfl

/-- The tools after a close. -/
theorem State.tools_closeRelease (x : Issue) (result : Status) (s : State) :
    (s.modTool x.tool (closeRelease x result)).tools = s.tools.map fun y => if y.number = x.tool then
        (match result with
        | .mounted =>
          { y.release false .out (.cell x.cell x.slot) with
            issueCount := min 65535 ((y.release false .out (.cell x.cell x.slot)).issueCount + 1) }
        | .astray => y.release false .astray .loose
        | _ => y.release false .ready y.location)
      else y := by
  simp only [← closeRelease_eq]; rfl

/-- A close of an open issue (R143, R144). -/
theorem State.issueClosed_closeIssue {s : State} {i : IssueNo} {x y : Issue} (result : Status)
    (isOpen : (s.issueRec i).issue = some x) (closed : y = { x with closed := some s.clock }) :
    s.issueClosed i y result (s.closeIssue i result) := by
  rw [State.closeIssue_eq result isOpen closed]
  have tools := State.tools_closeRelease y result s
  clear closed isOpen
  generalize ht : s.modTool y.tool (closeRelease y result) = t at *
  have order : t.order = s.order := by rw [← ht]; rfl
  have reports : t.reports = s.reports := by rw [← ht]; rfl
  have issues : t.issues = s.issues := by rw [← ht]; rfl
  have slot (k : SlotNo) : t.slot k = s.slot k := by rw [← ht]; rfl
  have clock : t.clock = s.clock := by rw [← ht]; rfl
  clear ht
  cases h : y.origin with
  | order n =>
    dsimp only
    have frame := State.complete_frame n result (t.issueResult (s.issueId i) y) t
    generalize hu : t.complete n result (t.issueResult (s.issueId i) y) = u at *
    obtain ⟨-, uTools, -, -, uIssues, -, uReports, -⟩ := frame
    have keep (j : IssueNo) : u.issueRec j = s.issueRec j := by
      simp only [State.issueRec, uIssues, issues]
    refine ⟨?_, fun j ne => ?_, uTools.trans tools, fun k c eq context unfinished => ?_, fun ref eq => ?_⟩
    · rw [State.issueRec_freeRecord, if_pos rfl, keep]; rfl
    · rw [State.issueRec_freeRecord, if_neg (Ne.symm ne), keep]
    · obtain rfl : n = k := by simpa [h] using eq
      refine ⟨uReports.trans reports, ?_⟩
      have done := State.context_complete result (t.issueResult (s.issueId i) y) ((slot n).symm ▸ context) unfinished
      rw [hu, clock] at done
      rw [State.issueResult_congr (s := t) (s.issueId i) y (t := { s with tools := (u.freeRecord i).tools }) uTools]
      exact done
    · simp [h] at eq
  | cell reference =>
    dsimp only
    have frame := State.handReport_frame (t.issueClosedReport (s.issueId i) y reference result) t
    have slots := State.slots_handReport (t.issueClosedReport (s.issueId i) y reference result) t
    have handed := State.reports_handReport_congr (t.issueClosedReport (s.issueId i) y reference result) reports order
    generalize hu : t.handReport (t.issueClosedReport (s.issueId i) y reference result) = u at *
    obtain ⟨-, uTools, -, -, uIssues, -⟩ := frame
    have keep (j : IssueNo) : u.issueRec j = s.issueRec j := by
      simp only [State.issueRec, uIssues, issues]
    refine ⟨?_, fun j ne => ?_, uTools.trans tools, fun k c eq context unfinished => ?_, fun ref eq => ?_⟩
    · rw [State.issueRec_freeRecord, if_pos rfl, keep]; rfl
    · rw [State.issueRec_freeRecord, if_neg (Ne.symm ne), keep]
    · simp [h] at eq
    · obtain rfl : reference = ref := by simpa [h] using eq
      refine ⟨slots.trans (congrArg OrderBlock.slots order), ?_⟩
      rw [State.issueClosedReport_congr (s := t) (s.issueId i) y reference result
        (t := { s with tools := (u.freeRecord i).tools }) uTools order.symm]
      exact handed

end Sys2Proof.Machine
end

