-- ==== Sys2Proof/Laws/Memory.lean ====
section
/-! SUPPORT. The board area: every write keeps the canonical form, and what reads back. -/

namespace Sys2Proof.Machine

/-- The canonical form of a memory without its first entry. -/
theorem Memory.wf_tail {c : Host.Cell} {m : Memory} (wf : Memory.wf (c :: m) = true) : Memory.wf m = true := by
  cases m with
  | nil => rfl
  | cons d rest => simp_all [Memory.wf]

/-- A write puts no entry before a lower bound that it respects. -/
theorem Memory.wf_cons_write {c : Host.Cell} {a : Nat} {b : Byte} {m : Memory} (lower : c.1 < a)
    (wf : Memory.wf (c :: m) = true) (rest : Memory.wf (Memory.write a b m) = true) :
    Memory.wf (c :: Memory.write a b m) = true := by
  cases m with
  | nil => simp [Memory.write, Memory.wf, lower]
  | cons d ds =>
    simp only [Memory.wf, Bool.and_eq_true, decide_eq_true_eq] at wf
    unfold Memory.write at rest ⊢
    split
    · simp_all [Memory.wf]
    · split
      · simp_all [Memory.wf]
      · simp_all [Memory.wf]

/-- A write keeps the canonical form. -/
theorem Memory.wf_write (a : Nat) (b : Byte) {m : Memory} (wf : Memory.wf m = true) :
    Memory.wf (Memory.write a b m) = true := by
  induction m with
  | nil => rfl
  | cons c rest ih =>
    unfold Memory.write
    split
    · rename_i below
      simp [Memory.wf, below, wf]
    · split
      · rename_i eq
        cases rest with
        | nil => rfl
        | cons d ds => simp_all [Memory.wf]
      · exact Memory.wf_cons_write (by omega) wf (ih (Memory.wf_tail wf))

/-- What a written byte reads as, and that every other byte reads as before. -/
theorem Memory.read_write (a x : Nat) (b : Byte) {m : Memory} (wf : Memory.wf m = true) :
    Memory.read x (Memory.write a b m) = if x = a then some b else Memory.read x m := by
  induction m with
  | nil => simp [Memory.write, Memory.read, eq_comm]
  | cons c rest ih =>
    unfold Memory.write
    split
    · by_cases eq : x = a
      · simp [Memory.read, eq]
      · simp [Memory.read, eq, Ne.symm eq]
    · split
      · rename_i eq
        by_cases h : x = a
        · simp [Memory.read, h]
        · have : ¬ c.1 = x := by omega
          simp [Memory.read, h, Ne.symm h, this]
      · by_cases first : c.1 = x
        · have : ¬ x = a := by omega
          simp [Memory.read, first, this]
        · simp only [Memory.read, first, if_false]
          exact ih (Memory.wf_tail wf)

/-- One access keeps the canonical form. -/
theorem Memory.wf_writeAll (cells : List Host.Cell) {m : Memory} (wf : Memory.wf m = true) :
    Memory.wf (Memory.writeAll m cells) = true := by
  unfold Memory.writeAll
  induction cells generalizing m with
  | nil => exact wf
  | cons c cs ih => exact ih (Memory.wf_write c.1 c.2 wf)

/-- An address that no byte of an access names reads as before. -/
theorem Memory.read_writeAll_of_not_mem (x : Nat) (cells : List Host.Cell) {m : Memory} (wf : Memory.wf m = true)
    (outside : ∀ c ∈ cells, c.1 ≠ x) : Memory.read x (Memory.writeAll m cells) = Memory.read x m := by
  unfold Memory.writeAll
  induction cells generalizing m with
  | nil => rfl
  | cons c cs ih =>
    rw [List.foldl_cons, ih (Memory.wf_write c.1 c.2 wf) fun d h => outside d (List.mem_cons_of_mem c h),
      Memory.read_write c.1 x c.2 wf, if_neg (Ne.symm (outside c List.mem_cons_self))]

/-- The accesses of a series keep the canonical form. -/
theorem State.wf_writeAccesses (as : List (List Host.Cell)) (s : State) (wf : Memory.wf s.board = true) :
    Memory.wf (s.writeAccesses as).board = true := by
  simp only [State.writeAccesses, State.modBoard_board]
  induction as generalizing s with
  | nil => exact wf
  | cons a as ih =>
    exact ih { s with board := Memory.writeAll s.board a } (Memory.wf_writeAll a wf)

/-- An address that no byte of a series names reads as before. -/
theorem State.read_writeAccesses_of_not_mem (x : Nat) (as : List (List Host.Cell)) (s : State)
    (wf : Memory.wf s.board = true) (outside : ∀ a ∈ as, ∀ c ∈ a, c.1 ≠ x) :
    Memory.read x (s.writeAccesses as).board = Memory.read x s.board := by
  simp only [State.writeAccesses, State.modBoard_board]
  induction as generalizing s with
  | nil => rfl
  | cons a as ih =>
    rw [List.foldl_cons]
    exact (ih { s with board := Memory.writeAll s.board a } (Memory.wf_writeAll a wf)
      fun b h => outside b (List.mem_cons_of_mem a h)).trans
      (Memory.read_writeAll_of_not_mem x a wf (outside a List.mem_cons_self))

/-- The written part of a series keeps the canonical form. -/
theorem State.wf_writePart (good : Nat) (s : State) (wf : Memory.wf s.board = true) :
    Memory.wf (s.writePart good).board = true := State.wf_writeAccesses _ s wf

/-- Reset memory has the canonical form. -/
theorem State.wf_reset : Memory.wf State.reset.board = true := rfl

end Sys2Proof.Machine
end

