-- ==== Sys2Proof/Laws/PerInstr.lean ====
section
/-! SUPPORT. The ranges of the operands that a well-formed command keeps, one lemma for each constructor. -/

namespace Sys2Proof.Laws.Fields

/-- The slot image of an order command. -/
def image? : Instr → Option SlotImage
  | .badKind _ img | .setCell img | .setRight img | .setDrawer img | .setLimits img | .lockLayout img
  | .startService img | .stopService img | .enrol img | .remove img | .readTool img | .find img | .setLife img
  | .regrind img | .home img | .calibrate img | .measure img | .stow img | .issue img | .returnTool img
  | .cancel img | .scan img | .clearFault img | .restoreCell img => some img
  | _ => none

/-- The number of board accesses that a command says had ended good. -/
def accesses? : Instr → Option Nat
  | .reset _ n | .fullReset _ n | .portEnable _ n | .boardFault n => some n
  | _ => none

/-- The issue id that a command names. -/
def issueId? : Instr → Option Nat
  | .deferralTimerExpires id | .transitWindowExpires id => some id
  | _ => none

/-- A well-formed command's operands lie in their ranges: at most 48 parameter bytes (R176), at most 14353 accesses (R174,
R183, R197), an issue id of at most 254 (R124). -/
def Statement (i : Instr) : Prop :=
  i.wellFormed = true →
    (image? i).all SlotImage.wellFormed = true ∧ (accesses? i).all wellFormedAccesses = true ∧
      (issueId? i).all wellFormedIssueId = true

theorem reset (seated : Bool) (accesses : Nat) : Statement (.reset seated accesses) := fun wf =>
  ⟨rfl, wf, rfl⟩

theorem fullReset (seated : Bool) (accesses : Nat) : Statement (.fullReset seated accesses) := fun wf =>
  ⟨rfl, wf, rfl⟩

theorem portEnable (on : Bool) (accesses : Nat) : Statement (.portEnable on accesses) := fun wf =>
  ⟨rfl, wf, rfl⟩

theorem linkRestart : Statement .linkRestart := fun _ => ⟨rfl, rfl, rfl⟩

theorem resume : Statement .resume := fun _ => ⟨rfl, rfl, rfl⟩

theorem bbaWrite (value : Word) : Statement (.bbaWrite value) := fun _ => ⟨rfl, rfl, rfl⟩

theorem pstWrite (value : Word) : Statement (.pstWrite value) := fun _ => ⟨rfl, rfl, rfl⟩

theorem donWrite (value : Word) : Statement (.donWrite value) := fun _ => ⟨rfl, rfl, rfl⟩

theorem rpcWrite (value : Word) : Statement (.rpcWrite value) := fun _ => ⟨rfl, rfl, rfl⟩

theorem cauWrite (value : Word) : Statement (.cauWrite value) := fun _ => ⟨rfl, rfl, rfl⟩

theorem cenWrite (value : Word) : Statement (.cenWrite value) := fun _ => ⟨rfl, rfl, rfl⟩

theorem ignoredRegisterWrite (reg : Register) (value : Word) : Statement (.ignoredRegisterWrite reg value) := fun _ => ⟨rfl, rfl, rfl⟩

theorem slotRead : Statement .slotRead := fun _ => ⟨rfl, rfl, rfl⟩

theorem badKind (kind : Byte) (img : SlotImage) : Statement (.badKind kind img) := fun wf =>
  ⟨(Bool.and_eq_true_iff.mp wf).2, rfl, rfl⟩

theorem setCell (img : SlotImage) : Statement (.setCell img) := fun wf => ⟨wf, rfl, rfl⟩

theorem setRight (img : SlotImage) : Statement (.setRight img) := fun wf => ⟨wf, rfl, rfl⟩

theorem setDrawer (img : SlotImage) : Statement (.setDrawer img) := fun wf => ⟨wf, rfl, rfl⟩

theorem setLimits (img : SlotImage) : Statement (.setLimits img) := fun wf => ⟨wf, rfl, rfl⟩

theorem lockLayout (img : SlotImage) : Statement (.lockLayout img) := fun wf => ⟨wf, rfl, rfl⟩

theorem startService (img : SlotImage) : Statement (.startService img) := fun wf => ⟨wf, rfl, rfl⟩

theorem stopService (img : SlotImage) : Statement (.stopService img) := fun wf => ⟨wf, rfl, rfl⟩

theorem enrol (img : SlotImage) : Statement (.enrol img) := fun wf => ⟨wf, rfl, rfl⟩

theorem remove (img : SlotImage) : Statement (.remove img) := fun wf => ⟨wf, rfl, rfl⟩

theorem readTool (img : SlotImage) : Statement (.readTool img) := fun wf => ⟨wf, rfl, rfl⟩

theorem find (img : SlotImage) : Statement (.find img) := fun wf => ⟨wf, rfl, rfl⟩

theorem setLife (img : SlotImage) : Statement (.setLife img) := fun wf => ⟨wf, rfl, rfl⟩

theorem regrind (img : SlotImage) : Statement (.regrind img) := fun wf => ⟨wf, rfl, rfl⟩

theorem home (img : SlotImage) : Statement (.home img) := fun wf => ⟨wf, rfl, rfl⟩

theorem calibrate (img : SlotImage) : Statement (.calibrate img) := fun wf => ⟨wf, rfl, rfl⟩

theorem measure (img : SlotImage) : Statement (.measure img) := fun wf => ⟨wf, rfl, rfl⟩

theorem stow (img : SlotImage) : Statement (.stow img) := fun wf => ⟨wf, rfl, rfl⟩

theorem issue (img : SlotImage) : Statement (.issue img) := fun wf => ⟨wf, rfl, rfl⟩

theorem returnTool (img : SlotImage) : Statement (.returnTool img) := fun wf => ⟨wf, rfl, rfl⟩

theorem cancel (img : SlotImage) : Statement (.cancel img) := fun wf => ⟨wf, rfl, rfl⟩

theorem scan (img : SlotImage) : Statement (.scan img) := fun wf => ⟨wf, rfl, rfl⟩

theorem clearFault (img : SlotImage) : Statement (.clearFault img) := fun wf => ⟨wf, rfl, rfl⟩

theorem restoreCell (img : SlotImage) : Statement (.restoreCell img) := fun wf => ⟨wf, rfl, rfl⟩

theorem resultWrite : Statement .resultWrite := fun _ => ⟨rfl, rfl, rfl⟩

theorem resultWritten : Statement .resultWritten := fun _ => ⟨rfl, rfl, rfl⟩

theorem reportWrite : Statement .reportWrite := fun _ => ⟨rfl, rfl, rfl⟩

theorem reportWriteDone : Statement .reportWriteDone := fun _ => ⟨rfl, rfl, rfl⟩

theorem boardFault (accesses : Nat) : Statement (.boardFault accesses) := fun wf =>
  ⟨rfl, wf, rfl⟩

theorem firstScan (modules : Vector (Option Word) 16) : Statement (.firstScan modules) := fun _ => ⟨rfl, rfl, rfl⟩

theorem releasedConfirmation (pocket : Fin 512) : Statement (.releasedConfirmation pocket) := fun _ => ⟨rfl, rfl, rfl⟩

theorem engagedConfirmation (pocket : Fin 512) : Statement (.engagedConfirmation pocket) := fun _ => ⟨rfl, rfl, rfl⟩

theorem lockConfirmWindowExpires (pocket : Fin 512) : Statement (.lockConfirmWindowExpires pocket) := fun _ => ⟨rfl, rfl, rfl⟩

theorem sensorRemoval (pocket : Fin 512) : Statement (.sensorRemoval pocket) := fun _ => ⟨rfl, rfl, rfl⟩

theorem sensorInsertion (pocket : Fin 512) : Statement (.sensorInsertion pocket) := fun _ => ⟨rfl, rfl, rfl⟩

theorem requestWindowExpires (pocket : Fin 512) : Statement (.requestWindowExpires pocket) := fun _ => ⟨rfl, rfl, rfl⟩

theorem scaleStep (axis : Axis) (move : ScaleMove) : Statement (.scaleStep axis move) := fun _ => ⟨rfl, rfl, rfl⟩

theorem indexMark (axis : Axis) : Statement (.indexMark axis) := fun _ => ⟨rfl, rfl, rfl⟩

theorem seatedRisingEdge : Statement .seatedRisingEdge := fun _ => ⟨rfl, rfl, rfl⟩

theorem seatedFallingEdge : Statement .seatedFallingEdge := fun _ => ⟨rfl, rfl, rfl⟩

theorem touchEdge (axis : Axis) : Statement (.touchEdge axis) := fun _ => ⟨rfl, rfl, rfl⟩

theorem seatWindowExpires : Statement .seatWindowExpires := fun _ => ⟨rfl, rfl, rfl⟩

theorem touchWindowExpires : Statement .touchWindowExpires := fun _ => ⟨rfl, rfl, rfl⟩

theorem homeWindowExpires (slot : Fin 32) : Statement (.homeWindowExpires slot) := fun _ => ⟨rfl, rfl, rfl⟩

theorem frameReceived (line : List Bool) : Statement (.frameReceived line) := fun _ => ⟨rfl, rfl, rfl⟩

theorem toolRequest : Statement .toolRequest := fun _ => ⟨rfl, rfl, rfl⟩

theorem mounted : Statement .mounted := fun _ => ⟨rfl, rfl, rfl⟩

theorem cancelFrame : Statement .cancelFrame := fun _ => ⟨rfl, rfl, rfl⟩

theorem usage : Statement .usage := fun _ => ⟨rfl, rfl, rfl⟩

theorem returnNotice : Statement .returnNotice := fun _ => ⟨rfl, rfl, rfl⟩

theorem dataTaken : Statement .dataTaken := fun _ => ⟨rfl, rfl, rfl⟩

theorem dataRefused : Statement .dataRefused := fun _ => ⟨rfl, rfl, rfl⟩

theorem withdrawn : Statement .withdrawn := fun _ => ⟨rfl, rfl, rfl⟩

theorem present : Statement .present := fun _ => ⟨rfl, rfl, rfl⟩

theorem transmitAttempt : Statement .transmitAttempt := fun _ => ⟨rfl, rfl, rfl⟩

theorem lostArbitration : Statement .lostArbitration := fun _ => ⟨rfl, rfl, rfl⟩

theorem transmitFault : Statement .transmitFault := fun _ => ⟨rfl, rfl, rfl⟩

theorem frameSent (ack : Bool) : Statement (.frameSent ack) := fun _ => ⟨rfl, rfl, rfl⟩

theorem answerWindowExpires (cell : Fin 24) : Statement (.answerWindowExpires cell) := fun _ => ⟨rfl, rfl, rfl⟩

theorem deferralTimerExpires (issueId : Nat) : Statement (.deferralTimerExpires issueId) := fun wf =>
  ⟨rfl, rfl, wf⟩

theorem broadcastTimerExpires : Statement .broadcastTimerExpires := fun _ => ⟨rfl, rfl, rfl⟩

theorem holdTimerExpires : Statement .holdTimerExpires := fun _ => ⟨rfl, rfl, rfl⟩

theorem pollTimerExpires : Statement .pollTimerExpires := fun _ => ⟨rfl, rfl, rfl⟩

theorem idleRecovery : Statement .idleRecovery := fun _ => ⟨rfl, rfl, rfl⟩

theorem transitWindowExpires (issueId : Nat) : Statement (.transitWindowExpires issueId) := fun wf =>
  ⟨rfl, rfl, wf⟩

end Sys2Proof.Laws.Fields
end

