-- ==== Sys2Proof/Laws/Requests.lean ====
section
/-! SUPPORT. How queued unlock requests start (R37): one at a time, the oldest that may start first, until none starts. What
keeps the content of a pocket and the location of its tool in agreement after an insertion (R6). -/

namespace Sys2Proof.Machine

/-- A map that takes the property from a member and gives it to none makes the count fall. -/
theorem countP_map_lt {α : Type} {p : α → Bool} {f : α → α} {l : List α} {x : α} (gives : ∀ y, p (f y) = true → p y = true)
    (member : x ∈ l) (had : p x = true) (lost : p (f x) = false) : (l.map f).countP p < l.countP p := by
  have le (l : List α) : (l.map f).countP p ≤ l.countP p := by
    rw [List.countP_map]
    exact List.countP_mono_left fun y _ => gives y
  induction l with
  | nil => simp at member
  | cons y ys ih =>
    rcases List.mem_cons.mp member with rfl | member
    · simp only [List.map_cons, List.countP_cons, had, lost]
      have := le ys
      simp only [if_true, Bool.false_eq_true, if_false]
      omega
    · have := ih member
      by_cases h : p (f y) = true
      · simp only [List.map_cons, List.countP_cons, h, gives y h]; omega
      · simp only [List.map_cons, List.countP_cons, h]
        simp only [Bool.false_eq_true, if_false]
        omega

/-- The oldest queued request that may start, started while the count is below the budget (R37). -/
theorem State.startOne_of_next {s : State} {r : Request} (below : s.budgetCount < s.crib.lockBudget)
    (next : s.nextToStart = some r) :
    s.startOne = (s.modRequest r.number fun q => { q with state := .opening }).sendUnlock r.pocket := by
  simp only [State.startOne, if_pos below, next]

/-- Nothing starts with the budget used up, or with no queued request that may start (R37). -/
theorem State.startOne_of_none {s : State} (none : s.crib.lockBudget ≤ s.budgetCount ∨ s.nextToStart = none) :
    s.startOne = s := by
  unfold State.startOne
  split
  · rcases none with full | none
    · omega
    · rw [none]
  · rfl

/-- A start leaves fewer requests in the queue. -/
theorem State.startOne_progress (s : State) : s.startOne = s ∨ s.startOne.queuedCount < s.queuedCount := by
  by_cases below : s.budgetCount < s.crib.lockBudget
  · cases next : s.nextToStart with
    | none => exact .inl (State.startOne_of_none (.inr next))
    | some r =>
      right
      rw [State.startOne_of_next below next]
      have member : r ∈ s.crib.requests := List.mem_of_find?_eq_some next
      have found := List.find?_some next
      simp only [Bool.and_eq_true, beq_iff_eq] at found
      refine countP_map_lt (x := r) (fun y h => ?_) member (by simp [found.1]) (by simp)
      by_cases same : y.number = r.number
      · simp [same] at h
      · simpa [same] using h
  · exact .inl (State.startOne_of_none (.inl (by omega)))

/-- A step that changes nothing changes nothing when repeated. -/
theorem repeatStep_fixed {f : State → State} {s : State} (fixed : f s = s) (n : Nat) : repeatStep f n s = s := by
  induction n with
  | zero => rfl
  | succ n ih => rw [repeatStep, fixed, ih]

/-- As many repetitions as there are queued requests are enough. -/
theorem State.repeat_startOne_enough (k n m : Nat) (s : State) (bound : s.queuedCount ≤ k) (hn : s.queuedCount ≤ n)
    (hm : s.queuedCount ≤ m) : repeatStep State.startOne n s = repeatStep State.startOne m s := by
  induction k generalizing n m s with
  | zero =>
    rcases s.startOne_progress with fixed | less
    · rw [repeatStep_fixed fixed, repeatStep_fixed fixed]
    · omega
  | succ k ih =>
    rcases s.startOne_progress with fixed | less
    · rw [repeatStep_fixed fixed, repeatStep_fixed fixed]
    · cases n with
      | zero => omega
      | succ n =>
        cases m with
        | zero => omega
        | succ m => exact ih n m s.startOne (by omega) (by omega) (by omega)

/-- Queued requests start one after the other, each start followed by the starts of the state it leaves (R37). -/
theorem State.startQueued_startOne (s : State) : s.startQueued = s.startOne.startQueued := by
  rcases s.startOne_progress with fixed | less
  · rw [fixed]
  · unfold State.startQueued
    cases h : s.queuedCount with
    | zero => omega
    | succ n =>
      rw [repeatStep]
      exact State.repeat_startOne_enough n _ _ _ (by omega) (by omega) le_rfl

/-! ## Content and location after an insertion (R6) -/

/-- A pocket whose tool is there, or that names no tool on record, is left as it is. -/
theorem State.clearReleased_of_here {s : State} {p : PocketNo}
    (here : ∀ t y, (s.pocket p).content = some t → s.findTool t = some y → y.location = .pocket p) :
    s.clearReleased p = s := by
  unfold State.clearReleased
  split
  · rename_i y found
    obtain ⟨t, content, record⟩ := Option.bind_eq_some_iff.mp found
    rw [if_pos (here t y content record)]
  · rfl

/-- The content of a pocket whose tool is at another place is cleared. -/
theorem State.clearReleased_of_elsewhere {s : State} {p : PocketNo} {t : Nat} {y : Tool}
    (content : (s.pocket p).content = some t) (record : s.findTool t = some y) (elsewhere : y.location ≠ .pocket p) :
    s.clearReleased p = s.changePocket p fun k => { k with content := none } := by
  unfold State.clearReleased
  rw [content, Option.bind_some, record]
  exact if_neg elsewhere

/-- After it the pocket names the tool exactly when the tool is there (R6). -/
theorem State.clearReleased_agrees {s : State} {p : PocketNo} {t : Nat} {y : Tool}
    (content : (s.pocket p).content = some t) (record : s.findTool t = some y) :
    ((s.clearReleased p).pocket p).content = some t ↔ y.location = .pocket p := by
  by_cases here : y.location = .pocket p
  · rw [State.clearReleased_of_here fun t' y' content' record' => by simp_all]
    exact iff_of_true content here
  · rw [State.clearReleased_of_elsewhere content record here, State.pocket_changePocket]
    simp [here]

end Sys2Proof.Machine
end

