-- ==== Sys2Proof/Tests/Slice0.lean ====
section
/-! SUPPORT. The model's own tests: ill-formed terms, one small step for each command, and for every statement with hypotheses
a concrete state that meets them, with what the statement says of it. -/

namespace Sys2Proof.Machine

-- One kernel evaluation at a time.
set_option Elab.async false

/-! ## Helpers -/

/-- Equality of the Crib Controller, its pockets compared in one pass over their list. -/
def Crib.same (a b : Crib) : Bool :=
  decide (a.pockets.toList = b.pockets.toList) &&
    decide (a.drawers = b.drawers ∧ a.layoutLock = b.layoutLock ∧ a.requests = b.requests ∧
      a.nextNumber = b.nextNumber ∧ a.lockBudget = b.lockBudget ∧ a.pickupWindow = b.pickupWindow ∧
      a.insertWindow = b.insertWindow ∧ a.scanDone = b.scanDone ∧ a.early = b.early)

/-- Equality of states, the pockets compared in one pass. -/
def State.same (s t : State) : Bool :=
  s.crib.same t.crib &&
    decide (s.pending = t.pending ∧ s.order = t.order ∧ s.tools = t.tools ∧ s.presetter = t.presetter ∧
      s.issues = t.issues ∧ s.link = t.link ∧ s.reports = t.reports ∧ s.board = t.board ∧ s.freeCount = t.freeCount)

theorem Crib.same_iff (a b : Crib) : a.same b = true ↔ a = b := by
  cases a; cases b
  simp only [Crib.same, Bool.and_eq_true, decide_eq_true_eq, Crib.mk.injEq, Vector.toList_inj]

theorem State.same_iff (s t : State) : s.same t = true ↔ s = t := by
  cases s; cases t
  simp only [State.same, Bool.and_eq_true, decide_eq_true_eq, Crib.same_iff, State.mk.injEq]
  tauto

/-- A command answers exactly this next state. -/
def reaches (c : Instr) (s t : State) : Bool :=
  match exec c s with
  | .next u => u.same t
  | .fault _ | .refused _ => false

theorem exec_next_iff (c : Instr) (s t : State) : exec c s = .next t ↔ reaches c s t = true := by
  unfold reaches
  cases exec c s <;> simp [State.same_iff]

/-- The state a command leads to. -/
def after (c : Instr) (s : State) : State :=
  match exec c s with
  | .next t => t
  | .fault _ | .refused _ => s

theorem working_iff (s : State) (n : SlotNo) (w : Work) :
    s.working n w ↔ (∃ c ∈ (s.slot n).context, c.work = w ∧ c.output = none) ∧ s.order.formedNow = [] := by
  simp [State.working]

/-- A pocket at rest, empty. -/
def restPocket : Pocket := { Pocket.reset with lock := .locked, confirm := none }

/-- The part at rest, the port enabled, the first scan done. -/
def quiet (st : ServiceState) : State :=
  { State.reset with
    order := { OrderBlock.reset with portEnable := true, service := st, clock := 5 }
    crib := { Crib.reset with pockets := Vector.replicate 512 restPocket, scanDone := true } }

/-- The read of a slot under way. -/
def State.brings (n : SlotNo) (s : State) : State := s.modOrder fun o => { o with series := some (.slotRead n) }

/-- A slot with these parameters, tag 7 and a buffer of 256 bytes. -/
def image (params : List Byte) : SlotImage :=
  { flags := 0, tag := 7, bufOffset := 0x2000, bufLength := 256, params := params }

/-- A long order with this work in a slot. -/
def State.runs (n : SlotNo) (w : Work) (s : State) : State :=
  s.setSlot n
    { state := .taken
      context := some { newContext 0x10 (image []) with tag := 9, long := true, work := w } }

/-- A tool record: LOOSE, class 3, life used 2 of 100, measured and within its tolerances. -/
def tool (number : Nat) (state : ToolState) (location : Location) : Tool :=
  { number := number, cls := 3, state := state, stateBefore := none, claim := none, location := location, last := none
    home := none, nominalLength := 1000, nominalRadius := 50, lengthTol := 5, radiusTol := 5
    geometry := some { length := 1001, radius := 50, stamp := 1, generation := 1 }, outOfTol := false
    lifeUnit := .minutes, lifeLimit := 100, lifeUsed := 2, warnPercent := 90, warningSent := false
    lifeEnded := false, regrinds := 0, regrindMax := 2, issueCount := 0 }

/-- A record put into the table. -/
def State.has (x : Tool) (s : State) : State := s.modTools (putTool x)

/-- A tool READY in a pocket that holds and senses it. -/
def State.stocks (number : Nat) (p : PocketNo) (s : State) : State :=
  (s.has (tool number .ready (.pocket p))).modPocket p fun k => { k with content := some number, sensor := .present }

/-- Both axes HOMED, at counts in the middle of the range. -/
def State.homed (s : State) : State :=
  s.modPresetter fun p =>
    { p with z := { p.z with state := .homed, counter := 2000 }, x := { p.x with state := .homed, counter := 700 } }

/-- A reference of generation 1 used this often. -/
def State.referenced (uses : Nat) (s : State) : State :=
  s.modPresetter fun p =>
    { p with generation := 1, reference := some { refZ := 1000, refX := 650, generation := 1, uses := uses, stamp := 1 } }

/-- A cell enabled, in a standing with its counts. -/
def State.enables (c : CellNo) (st : Standing) (faults answers : Nat) (s : State) : State :=
  s.modCell c fun x => { x with enabled := true, standing := st, faultCount := faults, answers := answers }

/-- An open issue for tool 5 at magazine slot 9 of the cell at address 3. -/
def sampleIssue (origin : Origin) (phase : IssuePhase) : Issue :=
  { newIssue { cell := 2, slot := 9, origin := origin, byClass := none, tool := 5 } 5 4 1 with phase := phase }

/-- An issue in record 0, of id 0, that claims tool 5 in pocket 4. -/
def State.issues5 (x : Issue) (s : State) : State :=
  ((s.stocks 5 4).modIssues fun m => { m with records := m.records.set 0 { generation := 0, issue := some x } }).claimTool 5
    (.issue 0)

/-- A request on a pocket, with its claim. -/
def State.requests (r : Request) (lock : Lock) (s : State) : State :=
  (s.modCrib fun c => { c with requests := c.requests ++ [r], nextNumber := r.number + 1 }).modPocket r.pocket fun k =>
    { k with claim := some r.number, lock := lock, confirm := if lock = .opening ∨ lock = .closing then some 250 else none }

/-- A request. -/
def request (number : Nat) (mv : Movement) (p : PocketNo) (t : Option Nat) (owner : Owner) (st : RequestState)
    (window : Option Nat) : Request :=
  { number := number, movement := mv, pocket := p, tool := t, owner := owner, state := st, window := window, outcome := none }

/-- No request can be made: the budget is used up and 16 are queued. -/
def State.crowded (s : State) : State :=
  s.modCrib fun c =>
    { c with lockBudget := 0, requests := List.replicate 16 (request 900 .fetch 9 none (.slot 9) .queued none) }

/-- An exchange in flight in a buffer. -/
def flying (s : State) (p : Payload) (owner : ExchangeOwner) (window : Option Nat) : Exchange :=
  { s.newExchange p owner with step := .inFlight, buffer := some 2, triesUsed := 1, window := window }

/-- An exchange in a cell's queue. -/
def State.queues (c : CellNo) (e : Exchange) (s : State) : State :=
  s.modCell c fun x => { x with queue := x.queue ++ [e] }

/-- A frame at the head of the receive queue. -/
def State.receives (c : CellNo) (kind : Nat) (payload : List Byte) (s : State) : State :=
  s.modLink fun l => { l with rx := [{ source := c, kind := kind, payload := payload, stamp := 4 }] }

/-- An attempt of an issue's offer in buffer 2. -/
def offerAttempt : Attempt :=
  { buffer := 2, frame := (Payload.dataOffer 0 5 9 1001 50 98 .minutes).frame 2, exchange := some (2, .issue 0)
    attached := true }

/-- An attempt on the line. -/
def State.attempts (a : Attempt) (s : State) : State := s.modLink fun l => { l with attempt := some a }

/-- A report entry. -/
def entry : Report := { Report.blank .linkState with stamp := 5, count := 1 }

/-! ## Well-formedness -/

theorem test_accesses_in_range : (Instr.reset false 14353).wellFormed = true := by decide
theorem test_accesses_out_of_range : (Instr.boardFault 14354).wellFormed = false := by decide
theorem test_bad_kind_zero : (Instr.badKind 0 (image [])).wellFormed = true := by decide
theorem test_bad_kind_of_an_order : (Instr.badKind 0x17 (image [])).wellFormed = false := by decide
theorem test_params_fill_48_bytes : (Instr.setCell (image (List.replicate 48 0))).wellFormed = true := by decide
theorem test_params_over_48_bytes : (Instr.setCell (image (List.replicate 49 0))).wellFormed = false := by decide
theorem test_bad_kind_params_over_48_bytes :
    (Instr.badKind 0x18 (image (List.replicate 49 0))).wellFormed = false := by decide
theorem test_ignored_write_to_sta : (Instr.ignoredRegisterWrite .sta 1).wellFormed = true := by decide
theorem test_no_write_of_ctl_is_ignored : (Instr.ignoredRegisterWrite .ctl 0).wellFormed = false := by decide
theorem test_write_of_pst_not_ignored : (Instr.ignoredRegisterWrite .pst 1).wellFormed = false := by decide
theorem test_issue_id_in_range : (Instr.transitWindowExpires 254).wellFormed = true := by decide
theorem test_issue_id_out_of_range : (Instr.deferralTimerExpires 255).wellFormed = false := by decide

/-! ## The machine and the registers -/

/-- `step` takes the command at the front. -/
theorem witness_StepTakesTheFrontCommand :
    let s := { State.reset with pending := [.cenWrite 3, .resume] }
    step s = exec (.cenWrite 3) { s with pending := [.resume] } := rfl

/-- An empty queue, and the millisecond that passes. -/
theorem witness_EmptyQueueTicks :
    State.reset.pending = [] ∧ step State.reset = .next State.reset.tick ∧ State.reset.tick.order.clock = 1 ∧
      (∀ k ∈ State.reset.tick.crib.pockets.toList, k.confirm = some 249) ∧
      State.reset.tick.link.broadcastTimer = some 999 :=
  ⟨rfl, rfl, by decide +kernel, by decide +kernel, by decide +kernel⟩

/-- A bar of touch bounce in its last millisecond and before, a home window, a request window, and an acknowledgement slot. -/
theorem witness_EmptyQueueTicks_counts :
    let s := (((quiet .setup).modPresetter fun p =>
      { p with z := { p.z with bounce := some 0 }, x := { p.x with bounce := some 50 } }).runs 31
        (.home ⟨true, false⟩ .unhomed .unhomed 1)).requests (request 9 .fetch 4 none (.slot 3) .opened (some 1)) .opened
    let t := ({ s with link := { s.link with slotDriven := true, pollTimer := some 0 } } : State).tick
    (t.axis .z).bounce = none ∧ (t.axis .x).bounce = some 49 ∧ t.work 31 = .home ⟨true, false⟩ .unhomed .unhomed 0 ∧
      t.crib.requests.map (·.window) = [some 0] ∧ t.link.slotDriven = false ∧ t.link.pollTimer = some 0 := by
  decide +kernel

/-- Frames handed on by the wrong command, and series that are not under way. -/
theorem witness_EveryCommandAnswersNext :
    let s := (quiet .service).receives 2 0x17 []
    exec .mounted s = .next s ∧ exec .usage (quiet .service) = .next (quiet .service) ∧
      exec .resultWritten (s.brings 0) = .next (s.brings 0) ∧ exec .reportWriteDone s = .next s := by
  simp only [exec_next_iff]; decide +kernel

theorem test_resets_agree :
    reaches (.reset true 3) (quiet .service) { State.reset with presetter := Presetter.reset true } = true ∧
      reaches (.fullReset false 0) (quiet .service) State.reset = true := by decide +kernel

/-- The rights table, the poll pointer, and the register window after a reset of a machine at work. -/
theorem test_reset_of_the_rights :
    let t := after (.reset false 0) (quiet .service)
    t.link.rights = Vector.replicate 16
        { enabled := false, cells := 0, value := 0, mask := 0, perms := ⟨false, false, false⟩ } ∧
      t.link.pollPointer = 0 ∧ t.readRegister .sta = 0#32 := by decide +kernel

theorem test_port_enable_and_resume :
    let s := (quiet .setup).brings 4
    reaches (.portEnable false 2) s (s.modOrder fun o => { o with portEnable := false, series := none }) = true ∧
      reaches (.portEnable true 0) s s = true ∧
      reaches .resume (s.modOrder fun o => { o with halted := true }) s = true := by decide +kernel

theorem test_link_restart_restores_a_cell :
    let t := after .linkRestart ((quiet .service).enables 2 .cutOff 256 7)
    t.cell 2 = { Cell.reset with enabled := true } ∧ t.reports.hold.map (·.kind) = [.cellStanding] := by decide +kernel

/-- A link restart while OFF: a WEAK cell, an unacknowledged and an acknowledged offer, a LIFE_END, and the WITHDRAW of a RETURN. -/
theorem witness_LinkRestartRestores :
    let offer := fun acked (s : State) =>
      ((s.enables 2 .weak 100 0).issues5 (sampleIssue (.order 31) .offerWait)).queues 2
        { flying s (.dataOffer 0 5 9 1001 50 98 .minutes) (.issue 0) none with acknowledged := acked }
    let r : ReturnCtx :=
      { tool := 7, stateBefore := .out, request := 1, pocket := 0, opened := false, outcome := none
        withdrawTo := some (3, 9), withdraw := .pending, tries := 1, acknowledged := true, released := none }
    let base := (((quiet .service).runs 3 (.returning r)).queues 3
      (flying (quiet .service) (.withdraw 0xFF 7 9) (.slot 3) none)).modLink fun l =>
        { l with state := .off, errors := 256, slotDriven := true, holdTimer := none }
    let s := (offer true base).queues 4 (flying base (.lifeEnd 8) .lifeHandler none)
    let t := after .linkRestart s
    let u := after .linkRestart ((offer false base).runs 31 (.issue 0))
    t.reports.hold.map (fun x => (x.kind, x.cell, x.code)) =
        [(.cellStanding, 3, 5), (.linkState, 0, 3), (.lifeEndUndelivered, 5, 4)] ∧
      (t.link.state, t.link.errors, t.link.slotDriven, t.link.pollTimer) = (.active, 0, false, some 250) ∧
      ((t.issueRec 0).issue.map fun x => (x.phase, x.offer, x.failure)) = some (.withdrawing, .unknown, some .linkRestart) ∧
      (t.cell 2).queue.map (fun e => (e.payload, e.step, e.stamp)) = [(.withdraw 0 5 9, .inFlight, 5)] ∧
      (t.cell 2).lastGrant = 5 ∧ (t.cell 4).queue = [] ∧ (t.cell 4).lastGrant = 0 ∧
      (t.cell 3).queue.map (·.payload) = [.withdraw 0xFF 7 9] ∧
      t.work 3 = .returning { r with tries := 0, acknowledged := false } ∧
      u.formedStatus 31 = some .linkRestart ∧ (u.issueRec 0).issue = none ∧ (u.cell 2).queue = [] := by
  decide +kernel

/-- An offer never acknowledged, dropped by a link restart: a CELL and an ORDER origin, with a failure result recorded and without;
and the WITHDRAW of a RETURN whose movement has ended. -/
theorem witness_LinkRestartRestores_owners :
    let offer := { flying (quiet .service) (.dataOffer 0 5 9 1001 50 98 .minutes) (.issue 0) none with
      triesUsed := 4, deferrals := 2 }
    let drop := fun origin failure => (((quiet .service).issues5
      { sampleIssue origin .offerWait with failure := failure }).runs 31 (.issue 0)).exchangeEnded 2 offer
        (.dropped .linkRestart)
    let closed := fun origin result =>
      { sampleIssue origin .offerWait with tries := 4, deferrals := 2, failure := some result, closed := some 5 }
    let cell := drop (.cell 7) none
    let order := drop (.order 31) (some .cancelled)
    let r : ReturnCtx :=
      { tool := 5, stateBefore := .out, request := 1, pocket := 4, opened := true, outcome := some .sensed
        withdrawTo := some (2, 9), withdraw := .pending, tries := 1, acknowledged := true, released := none }
    let back := ((quiet .service).runs 3 (.returning r)).exchangeEnded 2
      (flying (quiet .service) (.withdraw 0xFF 5 9) (.slot 3) none) (.dropped .linkRestart)
    cell.reports.hold =
        [{ cell.issueClosedReport 0 (closed (.cell 7) .linkRestart) 7 .linkRestart with stamp := 5 }] ∧
      cell.issueRec 0 = { generation := 1, issue := none } ∧ cell.findTool 5 = some (tool 5 .ready (.pocket 4)) ∧
      cell.formedStatus 31 = none ∧ (drop (.order 31) none).formedStatus 31 = some .linkRestart ∧
      (order.slot 31).context.bind (·.output) = some
        { status := .cancelled, stamp := 5, buffer := []
          result := order.issueResult 0 (closed (.order 31) .cancelled) } ∧
      order.reports.hold = [] ∧ back.work 3 = .returning { r with tries := 0, acknowledged := false } ∧
      (back.cell 2).queue.map (·.payload) = [.withdraw 0xFF 5 9] := by
  dsimp only
  and_intros <;> decide +kernel

/-- BBA while disabled, and the two cases that ignore the write; DON on a DONE slot and on a FREE one. -/
theorem witness_RegisterReadsBbaAndDon :
    let off := (quiet .setup).modOrder fun o => { o with portEnable := false }
    let busy := off.setSlot 31 { state := .taken, context := none }
    let done := (quiet .setup).setSlot 31 { state := .done, context := none }
    (off.order.portEnable = false ∧ (∀ n, (off.slot n).state ≠ .taken) ∧
      exec (.bbaWrite 0x12348765) off = .next (off.modOrder fun o => { o with bba := 0x12340000 })) ∧
    exec (.bbaWrite 0x12340000) (quiet .setup) = .next (quiet .setup) ∧
    (busy.order.portEnable = false ∧ exec (.bbaWrite 0x12340000) busy = .next busy) ∧
    exec (.donWrite 0xFFFFFFFF) done = .next (quiet .setup) ∧ exec (.donWrite 1) done = .next done ∧
    exec (.ignoredRegisterWrite .sta 1) done = .next done := by
  simp only [exec_next_iff]; decide +kernel

/-- What the registers read with everything set, the last slot in conflict and POSTED and the first DONE, and with nothing set. -/
theorem witness_RegisterReadsBbaAndDon_reads :
    let base := ((quiet .service).setSlot 31 { state := .posted, context := none }).setSlot 0 { state := .done, context := none }
    let s : State :=
      { base with
        order :=
          { base.order with
            halted := true, conflict := some 31, boardFault := true, releaseError := true, cauReport := true, cauStall := true
            cauFault := true, cen := 5, bba := 0xFFFF0000 }
        reports := { base.reports with stalled := true, written := 65535 }, link := { base.link with state := .off } }
    let off := (quiet .setup).modOrder fun o => { o with portEnable := false }
    s.readRegister .ctl = 1#32 ∧ s.readRegister .sta = 0x1F7F#32 ∧ s.readRegister .bba = 0xFFFF0000#32 ∧
      s.readRegister .pst = 0x80000000#32 ∧ s.readRegister .don = 1#32 ∧ s.readRegister .rpc = 0xFFFF#32 ∧
      s.readRegister .cau = 0xF#32 ∧ s.readRegister .cen = 5#32 ∧
      (s.modOrder fun o => { o with conflict := some 0 }).readRegister .sta = 0x7F#32 ∧
      [Register.ctl, .sta, .bba, .pst, .don, .rpc, .cau, .cen].map off.readRegister = List.replicate 8 0#32 := by
  decide +kernel

theorem test_post_write :
    let s := (quiet .setup).setSlot 31 { state := .done, context := none }
    let t := after (.pstWrite 0x80000001) s
    (t.slot 0).state = .posted ∧ (t.slot 31).state = .done ∧ t.order.conflict = some 31 ∧ t.order.cauFault = true ∧
      t.readRegister .sta = 0x1F10#32 ∧ t.readRegister .cau = 9#32 := by decide +kernel

/-- A release of one, of all that is outstanding, of none, and of one too many. -/
theorem witness_ReleaseWrite :
    let s := (quiet .setup).modReports fun r => { r with written := 130, released := 2 }
    let released := fun n => exec (.rpcWrite n) s = .next (s.modReports fun r => { r with released := 2 + n.setWidth 16 })
    s.reports.outstanding = 128 ∧ s.reports.credit = 0 ∧ released 1 ∧ released 128 ∧
      exec (.rpcWrite 0xFFFF0000) s = .next s ∧
      exec (.rpcWrite 129) s = .next (s.modOrder fun o => { o with releaseError := true, cauFault := true }) := by
  simp only [exec_next_iff]; decide +kernel

theorem test_cause_clear_and_enables :
    let s := (quiet .setup).modOrder fun o =>
      { o with cauReport := true, cauFault := true, boardFault := true, conflict := some 3 }
    reaches (.cauWrite 0xA) s (quiet .setup) = true ∧ reaches (.cauWrite 1) s s = true ∧
      (after (.cenWrite 0xFFFFFFF8) s).intAsserted = true ∧ (after (.cenWrite 4) s).intAsserted = false ∧
      (after (.cenWrite 0xFFFFFFFF) s).readRegister .cen = 0xF#32 := by decide +kernel

/-! ## The Order Port -/

/-- Each series begun, and each reason why none begins. -/
theorem witness_SeriesBegin :
    let posted : Slot := { state := .posted, context := none }
    let s := ((quiet .setup).setSlot 31 posted).setSlot 2 posted
    let r := s.modReports fun w => { w with hold := [entry] }
    let w := r.modOrder fun o => { o with writeOrder := [7, 1] }
    (s.order.portEnable = true ∧ s.order.halted = false ∧ s.order.series = none ∧ s.order.writeOrder = [] ∧
      (s.slot 2).state = .posted ∧ (∀ m < (2 : SlotNo), (s.slot m).state ≠ .posted) ∧
      exec .slotRead s = .next (s.begin (.slotRead 2)) ∧ exec .resultWrite s = .next s ∧
      exec .reportWrite s = .next s) ∧
    (r.reports.credit ≠ 0 ∧ exec .reportWrite r = .next (r.begin .reportWrite) ∧ exec .slotRead r = .next r) ∧
    (let full := r.modReports (fun w => { w with written := 128 });
      full.reports.credit = 0 ∧ exec .reportWrite full = .next full ∧
        exec .slotRead full = .next (full.begin (.slotRead 2))) ∧
    (exec .resultWrite w = .next (w.begin (.resultWrite 7)) ∧ exec .reportWrite w = .next w ∧
      exec .slotRead w = .next w) ∧
    (let off := w.modOrder (fun o => { o with portEnable := false });
      exec .resultWrite off = .next off) ∧
    (let halted := s.modOrder (fun o => { o with halted := true });
      exec .slotRead halted = .next halted) ∧
    exec .slotRead (s.brings 0) = .next (s.brings 0) ∧
    exec .slotRead (quiet .setup) = .next (quiet .setup) := by
  simp only [exec_next_iff]; decide +kernel

/-- A result with a buffer under write. -/
def writingResult : State :=
  (((quiet .setup).setSlot 31
      { state := .taken
        context := some
          { newContext 0x0B (image []) with
            output := some { status := .ok, stamp := 0x01020304, result := [0xAA, 0xBB], buffer := [1, 2, 3] } } }).modOrder
    fun o => { o with bba := 0x50000, writeOrder := [31, 0], series := some (.resultWrite 31) }).modBoard fun _ =>
      [(1, 0xEE)]

/-- The result area, the buffer and a byte outside both. -/
theorem witness_ResultWritten :
    let t := after .resultWritten writingResult
    Memory.wf writingResult.board = true ∧ t.slot 31 = { state := .done, context := none } ∧
      t.order.series = none ∧ t.order.writeOrder = [0] ∧ writingResult.order.bba.toNat % 4 = 0 ∧
      (List.range 12).map (fun i => Memory.read (0x50000 + 0x80 * 31 + 0x40 + i) t.board) =
        [some 1, some 0, some 7, some 0, some 4, some 3, some 2, some 1, some 0xAA, some 0xBB, some 0, some 0] ∧
      Memory.read (0x50000 + 0x80 * 31 + 0x7F) t.board = some 0 ∧
      (List.range 4).map (fun i => Memory.read (0x52000 + i) t.board) = [some 1, some 2, some 3, none] ∧
      Memory.read 1 t.board = some 0xEE ∧ Memory.wf t.board = true := by decide +kernel

/-- A report under write, with this many entries. -/
def writingReport (stalled : Bool) (more : List Report) : State :=
  ((quiet .setup).modReports fun w => { w with written := 129, released := 2, hold := entry :: more, stalled := stalled }).begin
    .reportWrite

/-- The last report of a stall, and one with another behind it. -/
theorem witness_ReportWritten :
    let t := after .reportWriteDone (writingReport true [])
    let u := after .reportWriteDone (writingReport true [entry])
    t.reports = { written := 130, released := 2, hold := [], stalled := false } ∧ t.order.cauReport = true ∧
      t.order.series = none ∧ t.link.holdTimer = none ∧ t.link.broadcastTimer = some 1000 ∧
      t.link.buffer0 = some { service := .setup, hold := 0 } ∧
      (List.range 20).map (fun i => Memory.read (0x1020 + i) t.board) =
        [some 0x0C, some 0, some 0, some 0xFF, some 5, some 0, some 0, some 0, some 0, some 0, some 0, some 0, some 1,
          some 0, some 129, some 0, some 0, some 0, some 0, some 0] ∧
      Memory.read 0x1040 t.board = none ∧ u.reports.stalled = true ∧ u.link = (writingReport true [entry]).link := by
  decide +kernel

/-- The 32 bytes of an entry with every field in use, and of a MERGED one. -/
theorem witness_ReportWritten_layout :
    let bytes := fun r => (List.range 32).map fun i => Memory.read (0x1020 + i)
      (after .reportWriteDone ((writingReport false []).modReports fun w => { w with hold := [r] })).board
    let full : Report :=
      { kind := .pocketFault, held := true, bit1 := false, bit2 := true, bit3 := false, cell := 24, issue := 254
        stamp := 0x04030201, tool := 0x0605, code := 0x0807, count := 0x0A09, detail := .plain [1, 2, 3] }
    let merged : Report := { full with kind := .merged, bit2 := false, bit3 := true, detail := .merged 0x8001 0x11223344 }
    bytes full = ([0x0A, 5, 24, 254, 1, 2, 3, 4, 5, 6, 7, 8, 9, 10, 129, 0, 1, 2, 3] ++ List.replicate 13 0).map some ∧
      bytes merged = ([0x0E, 9, 24, 254, 1, 2, 3, 4, 5, 6, 7, 8, 9, 10, 129, 0, 0x01, 0x80, 0x44, 0x33, 0x22, 0x11] ++
        List.replicate 10 0).map some := by decide +kernel

/-- A board fault in a report write after three good accesses, and one with no access to fault. -/
theorem witness_BoardFaultHalts :
    let s := writingReport false []
    let t := after (.boardFault 3) s
    s.order.series ≠ none ∧ t.order.halted = true ∧ t.order.boardFault = true ∧ t.order.cauFault = true ∧
      t.order.series = none ∧ t.reports = s.reports ∧ t.board.length = 12 ∧
      exec (.boardFault 3) (quiet .setup) = .next (quiet .setup) := by
  simp only [exec_next_iff]; decide +kernel

/-- Each check at taking, and an order with no slot read under way. -/
theorem witness_ChecksAtTaking :
    let s := (quiet .service).brings 31
    let u := (quiet .setup).brings 31
    let long := { image [] with bufOffset := 0xFF01, bufLength := 0x100 }
    let refuses := fun (k : OrderKind) img (s : State) st =>
      exec (orderCommand k img) s = .next (s.answered 31 k.code img st [] [])
    s.order.series = some (.slotRead 31) ∧ s.order.formedNow = [] ∧
      exec (.badKind 0x18 (image [])) s = .next (s.answered 31 0x18 (image []) .badKind [] []) ∧
      refuses .stow { image [] with flags := 1 } s .badParam ∧ refuses .setCell (image []) s .wrongState ∧
      refuses .stow (image []) u .wrongState ∧ refuses .find { image [] with bufOffset := 0x1FFF } s .badBuffer ∧
      refuses .scan long s .badBuffer ∧ refuses .measure { image [] with bufLength := 255 } s .badBuffer ∧
      refuses .calibrate { image [] with bufLength := 255 } u .badBuffer ∧
      exec (.find (image [])) (quiet .setup) = .next (quiet .setup) ∧
      exec (.badKind 0 (image [])) (quiet .setup) = .next (quiet .setup) := by
  simp only [exec_next_iff]; decide +kernel

/-! ## Orders that configure the part -/

/-- The last cell, sizes at both ends, and each value out of range. -/
theorem witness_SetCell :
    let s := (quiet .setup).brings 0
    let bad := fun ps => exec (.setCell (image ps)) s = .next (s.answered 0 0x01 (image ps) .badParam [] [])
    s.accepts .setCell (image [24, 1, 240, 0]) 0 ∧
      exec (.setCell (image [24, 1, 240, 0])) s =
        .next (State.answered 0 0x01 (image [24, 1, 240, 0]) .ok [0, 240, 4, 1, 240, 4] []
          (s.modCell 23 fun x => { x with enabled := true, magSize := 240, issueLimit := 4 })) ∧
      exec (.setCell (image [1, 0, 1, 8])) s =
        .next (State.answered 0 0x01 (image [1, 0, 1, 8]) .ok [0, 240, 4, 0, 1, 8] []
          (s.modCell 0 fun x => { x with enabled := false, magSize := 1, issueLimit := 8 })) ∧
      bad [0, 1, 1, 1] ∧ bad [25, 1, 1, 1] ∧ bad [1, 2, 1, 1] ∧ bad [1, 1, 0, 1] ∧ bad [1, 1, 241, 1] ∧
      bad [1, 1, 1, 9] := by
  simp only [exec_next_iff, State.accepts, State.reading]; decide +kernel

/-- The last entry with and without the layout lock, and each value out of range. -/
theorem witness_SetRight :
    let s := (quiet .setup).brings 0
    let locked := s.modCrib fun c => { c with layoutLock := true }
    let bad := fun ps => exec (.setRight (image ps)) s = .next (s.answered 0 0x02 (image ps) .badParam [] [])
    let entry := [15, 1, 0xFF, 0xFF, 0xFF, 0, 0xF0, 0x0F, 7]
    let right : Right := { enabled := true, cells := 0xFFFFFF, value := 0xF0, mask := 0x0F, perms := ⟨true, true, true⟩ }
    s.accepts .setRight (image entry) 0 ∧
      exec (.setRight (image entry)) s =
        .next (State.answered 0 0x02 (image entry) .ok [0, 0, 0, 0, 0, 0, 0, 0] []
          (s.modLink fun l => { l with rights := l.rights.set 15 right })) ∧
      exec (.setRight (image entry)) locked =
        .next (locked.answered 0 0x02 (image entry) .layoutLocked [] []) ∧
      bad [16, 1, 0, 0, 0, 0, 0, 0, 7] ∧ bad [0, 1, 0, 0, 0, 1, 0, 0, 7] ∧ bad [0, 1, 0, 0, 0, 0, 0, 0, 8] := by
  simp only [exec_next_iff, State.accepts, State.reading]; decide +kernel

/-- A widening under the lock, a narrowing that shuts a queued REMOVE out, and values out of range. -/
theorem witness_SetDrawer :
    let s := (quiet .service).brings 0
    let locked := s.modCrib fun c => { c with layoutLock := true, drawers := c.drawers.set 15 .issueOnly }
    let q := request 9 .removeOut 480 none (.slot 3) .queued none
    let queued := (((s.stocks 5 480).claimTool 5 (.slot 3)).requests q .locked).runs 3 (.remove 5 9)
    let t := after (.setDrawer (image [15, 3])) queued
    s.accepts .setDrawer (image [15, 3]) 0 ∧
      exec (.setDrawer (image [15, 2])) locked =
        .next (locked.answered 0 0x03 (image [15, 2]) .layoutLocked [] []) ∧
      exec (.setDrawer (image [15, 1])) s =
        .next (State.answered 0 0x03 (image [15, 1]) .ok [15, 0, 1, 0] []
          (s.modCrib fun c => { c with drawers := c.drawers.set 15 .issueOnly })) ∧
      exec (.setDrawer (image [15, 3])) locked =
        .next (State.answered 0 0x03 (image [15, 3]) .ok [15, 1, 3, 0] []
          (locked.modCrib fun c => { c with drawers := c.drawers.set 15 .closed })) ∧
      exec (.setDrawer (image [16, 0])) s = .next (s.answered 0 0x03 (image [16, 0]) .badParam [] []) ∧
      exec (.setDrawer (image [0, 4])) s = .next (s.answered 0 0x03 (image [0, 4]) .badParam [] []) ∧
      queued.accepts .setDrawer (image [15, 3]) 0 ∧ (queued.crib.requests.map (·.number)).Nodup ∧
      t.crib.requests = [] ∧ (t.pocket 480).claim = none ∧ t.attributeOf 480 = .closed ∧
      t.formedStatus 3 = some .drawerClosed ∧ t.findTool 5 = some (tool 5 .ready (.pocket 480)) := by
  simp only [exec_next_iff, State.accepts, State.reading]; decide +kernel

/-- A budget within, outside and under the layout lock; a lowered budget is stored. -/
theorem witness_SetLimits :
    let s := (quiet .setup).brings 0
    let locked := s.modCrib fun c => { c with layoutLock := true }
    let budget := fun v => image [1, 0, 0, 0, v]
    s.accepts .setLimits (budget 1) 0 ∧ (limitsOf (budget 9) s.limits).valid 1 = false ∧
      exec (.setLimits (budget 9)) s = .next (s.answered 0 0x04 (budget 9) .badParam [] []) ∧
      (limitsOf (budget 1) s.limits).valid 1 = true ∧
      exec (.setLimits (budget 1)) locked = .next (locked.answered 0 0x04 (budget 1) .layoutLocked [] []) ∧
      exec (.setLimits (budget 1)) s =
        .next (State.answered 0 0x04 (budget 1) .ok (limitsOf (budget 1) s.limits).bytes []
          (s.modCrib fun c => { c with lockBudget := 1 })) ∧
      (limitsOf (budget 1) s.limits).bytes.length = 39 := by
  simp only [exec_next_iff, State.accepts, State.reading]; decide +kernel

/-- Every limit present, at the ends of its range, and one beyond it. -/
theorem witness_SetLimits_all :
    let s := (quiet .setup).brings 0
    let all := fun answer broadcast (transit : Byte) => image ([0xFF, 0xFF, 7, 0, 8, 5, 255, 255, 8] ++ le 2 600 ++ le 2 5 ++
      le 2 10 ++ le 4 1048575 ++ le 4 0 ++ le 4 999999 ++ le 4 0 ++ le 2 answer ++ [15] ++ le 2 10000 ++ le 2 broadcast ++
      le 2 0 ++ le 2 100 ++ [transit])
    let t := after (.setLimits (all 20 200 60)) s
    let status := fun img => (after (.setLimits img) s).formedStatus 0
    status (all 20 200 60) = some .ok ∧ status (all 1000 0 1) = some .ok ∧ status (all 19 200 60) = some .badParam ∧
      status (all 20 199 60) = some .badParam ∧ status (all 20 200 61) = some .badParam ∧
      (t.crib.lockBudget, t.presetter.homeWindow, t.presetter.z.softLimit, t.link.answerWindow, t.issues.transitWindow) =
        (8, 10, 1048575, 20, 60) ∧ t.link.broadcastTimer = some 200 := by decide +kernel

/-- The layout lock, START_SERVICE with a mismatch in the lowest pocket, and STOP_SERVICE with an open issue and with a pocket
away from LOCKED. -/
theorem witness_LayoutLockAndServiceState :
    let s := (quiet .setup).brings 0
    let u := (quiet .service).brings 0
    let img := image []
    let mismatch := s.modPocket 0 fun k => { k with sensor := .present }
    let busy := fun (s : State) detail => exec (.stopService img) s = .next (s.answered 0 0x07 img .busy detail [])
    s.accepts .lockLayout img 0 ∧
      exec (.lockLayout img) s =
        .next (State.answered 0 0x05 img .ok [0] [] (s.modCrib fun c => { c with layoutLock := true })) ∧
      s.accepts .startService img 0 ∧ (mismatch.pocket 0).mismatch = true ∧
      exec (.startService img) mismatch = .next (mismatch.answered 0 0x06 img .mapMismatch [0, 0] []) ∧
      u.accepts .stopService img 0 ∧ busy (u.issues5 (sampleIssue (.cell 1) .transit)) [0, 0, 0] ∧
      busy (u.modPocket 1 fun k => { k with lock := .jammed }) [1, 1, 0] := by
  simp only [exec_next_iff, State.accepts, State.reading]; decide +kernel

theorem quiet_pocket (st : ServiceState) (p : PocketNo) : (quiet st).pocket p = restPocket := by
  simp only [State.pocket, quiet, get_replicate]

/-- START_SERVICE with a fault and no mismatch, and with neither. -/
theorem witness_LayoutLockAndServiceState_start :
    let s := (quiet .setup).brings 0
    let fault := s.modPocket 1 fun k => { k with fault := .forced }
    (s.accepts .startService (image []) 0 ∧ ∀ q, (s.pocket q).mismatch = false ∧ (s.pocket q).lock = .locked ∧
      (s.pocket q).fault = .clear) ∧
    fault.accepts .startService (image []) 0 ∧ (∀ q, (fault.pocket q).mismatch = false) ∧
      (fault.pocket 1).fault ≠ .clear ∧ ∀ q < 1, (fault.pocket q).lock = .locked ∧ (fault.pocket q).fault = .clear := by
  intro s fault
  have rest (q : PocketNo) : s.pocket q = restPocket := quiet_pocket .setup q
  have faulted (q : PocketNo) : fault.pocket q = if 1 = q then { restPocket with fault := .forced } else restPocket := by
    simp only [fault, State.pocket_modPocket, rest]
  refine ⟨⟨⟨⟨rfl, rfl⟩, rfl⟩, fun q => ?_⟩, ⟨⟨rfl, rfl⟩, rfl⟩, fun q => ?_, ?_, fun q below => ?_⟩
  · rw [rest]; exact ⟨rfl, rfl, rfl⟩
  · rw [faulted]; split <;> rfl
  · rw [faulted]; decide
  · rw [faulted, if_neg (fun e => absurd (e ▸ below) (lt_irrefl _))]; exact ⟨rfl, rfl⟩

/-- An attempt of a buffer on the line while START_SERVICE is read. -/
def startingOn (b : Nat) : State := ((quiet .setup).brings 0).attempts { offerAttempt with buffer := b }

/-- START_SERVICE that is accepted leaves the link so. -/
def startsWith (f : Link → Link) (s : State) : Bool :=
  reaches (.startService (image [])) s (State.answered 0 0x06 (image []) .ok [] []
    ((s.modOrder fun o => { o with service := .service }).modLink f))

/-- START_SERVICE with an attempt of another buffer on the line. -/
theorem witness_LayoutLockAndServiceState_otherBuffer :
    (startingOn 7).crib = (quiet .setup).crib ∧
      startsWith (fun l => { l with buffer0 := some ⟨.service, 0⟩, pollTimer := some 250 }) (startingOn 7) = true :=
  ⟨rfl, by decide +kernel⟩

/-- START_SERVICE in the stall with an attempt of buffer 0 on the line and polling off. -/
theorem witness_LayoutLockAndServiceState_buffer0 :
    startsWith (fun l => { l with next0 := some ⟨.service, 500⟩, broadcastTimer := none, holdTimer := some 500 })
      (((startingOn 0).modReports fun r => { r with stalled := true }).modLink fun l =>
        { l with pollInterval := 0 }) = true := by decide +kernel

/-- STOP_SERVICE with every pocket LOCKED: a request, a long order in the last slot, and neither. -/
theorem witness_LayoutLockAndServiceState_stop :
    let s := (quiet .service).brings 0
    let r := request 9 .removeOut 2 none (.slot 3) .queued none
    let queued := s.requests r .locked
    let long := s.runs 31 (.remove 5 9)
    (queued.accepts .stopService (image []) 0 ∧ queued.openIssues = [] ∧ (∀ q, (queued.pocket q).lock = .locked) ∧
      queued.crib.requests = [r]) ∧
    (long.accepts .stopService (image []) 0 ∧ long.openIssues = [] ∧ (∀ q, (long.pocket q).lock = .locked) ∧
      long.crib.requests = [] ∧ ((long.slot 31).context.map (·.long)) = some true ∧
      ∀ k < (31 : SlotNo), (long.slot k).context = none) ∧
    s.accepts .stopService (image []) 0 ∧ s.openIssues = [] ∧ (∀ q, (s.pocket q).lock = .locked) ∧
      s.crib.requests = [] ∧ ∀ m, (s.slot m).context = none := by
  intro s r queued long
  have rest (q : PocketNo) : s.pocket q = restPocket := quiet_pocket .service q
  have claimed (q : PocketNo) : queued.pocket q =
      if 2 = q then { restPocket with claim := some 9 } else restPocket := by
    have same : queued.pocket q =
        (s.modPocket 2 fun k => { k with claim := some 9, lock := .locked, confirm := none }).pocket q := rfl
    rw [same, State.pocket_modPocket, rest, rest]; rfl
  refine ⟨⟨⟨⟨rfl, rfl⟩, rfl⟩, by decide +kernel, fun q => ?_, rfl⟩,
    ⟨⟨⟨rfl, rfl⟩, rfl⟩, by decide +kernel, fun q => congrArg Pocket.lock (rest q), rfl, by decide +kernel,
      by decide +kernel⟩, ⟨⟨rfl, rfl⟩, rfl⟩, by decide +kernel, fun q => congrArg Pocket.lock (rest q), rfl,
    by decide +kernel⟩
  rw [claimed]; split <;> rfl

/-- A CUT_OFF cell restored, a GOOD one refused, and addresses out of range. -/
theorem witness_RestoreCell :
    let s := ((quiet .service).enables 23 .cutOff 256 7).brings 0
    let img := image [24]
    s.accepts .restoreCell img 0 ∧
      exec (.restoreCell img) s =
        .next (State.answered 0 0x17 img .ok [2, 0, 1] []
          ((s.enables 23 .good 0 0).handReport
            { Report.blank .cellStanding with cell := 24, code := 4, detail := .plain [2, 0, 0, 0, 0] })) ∧
      exec (.restoreCell (image [1])) s = .next (s.answered 0 0x17 (image [1]) .wrongState [] []) ∧
      exec (.restoreCell (image [0])) s = .next (s.answered 0 0x17 (image [0]) .badParam [] []) ∧
      exec (.restoreCell (image [25])) s = .next (s.answered 0 0x17 (image [25]) .badParam [] []) := by
  simp only [exec_next_iff, State.accepts, State.reading]; decide +kernel

/-! ## Tool records -/

/-- ENROL parameters of tool 6: class 3, this location, sizes 1001 and 50, life limit 100, life used 2. -/
def enrolImage (location : List Byte) : SlotImage :=
  image ([2, 6, 0, 3] ++ location ++ [0, 0] ++ le 4 1000 ++ le 4 50 ++ le 2 5 ++ le 2 5 ++ le 4 1001 ++ le 4 50 ++
    [0] ++ le 2 100 ++ [90] ++ le 2 2 ++ [0, 2] ++ le 2 0)

/-- The record that these parameters give, before its derived fields. -/
def enrolTool (location : Location) : Tool :=
  { tool 6 .unmeasured location with
    geometry := some { length := 1001, radius := 50, stamp := 5, generation := 0 } }

/-- Parameters out of range, a refusal, and a tool enrolled in the last pocket and LOOSE. -/
theorem witness_Enrol :
    let s := (quiet .setup).brings 0
    let noNumber := image []
    let pocket := enrolImage [0, 0xFF, 1]
    let loose := enrolImage [3, 0, 0]
    let known := s.has (tool 6 .ready .loose)
    let x : Tool := { enrolTool (.pocket 511) with home := some 511, state := .ready }
    s.accepts .enrol pocket 0 ∧ enrolParams noNumber s.clock = none ∧
      exec (.enrol noNumber) s = .next (s.answered 0 0x08 noNumber .badParam [] []) ∧
      enrolParams loose s.clock = some (enrolTool .loose) ∧
      known.enrolCheck (enrolTool .loose) = some .toolExists ∧
      exec (.enrol loose) known = .next (known.answered 0 0x08 loose .toolExists [] []) ∧
      enrolParams pocket s.clock = some (enrolTool (.pocket 511)) ∧
      s.enrolCheck (enrolTool (.pocket 511)) = none ∧
      exec (.enrol pocket) s =
        .next (State.answered 0 0x08 pocket .ok [6, 0, 2] []
          ((s.has x).modPocket 511 fun k => { k with content := some 6, stamp := 5 })) ∧
      exec (.enrol loose) s =
        .next (State.answered 0 0x08 loose .ok [6, 0, 1] [] (s.has { enrolTool .loose with state := .passed })) := by
  simp only [exec_next_iff, State.accepts, State.reading]; decide +kernel

/-- Each check of an ENROL after its parameters, and the derived states. -/
theorem witness_EnrolChecksAndDerivedState :
    let s := quiet .setup
    let out := s.has { tool 5 .out (.cell 2 9) with last := some (2, 9) }
    let p := enrolTool (.pocket 4)
    (quiet .service).enrolCheck p = some .wrongState ∧ (quiet .service).enrolCheck (enrolTool (.cell 2 9)) = some .wrongState ∧
      (s.has (tool 6 .ready .loose)).enrolCheck p = some .toolExists ∧ (s.stocks 5 4).enrolCheck p = some .pocketTaken ∧
      s.enrolCheck p = none ∧ out.enrolCheck (enrolTool (.cell 2 9)) = some .slotOccupied ∧
      out.enrolCheck (enrolTool (.cell 2 8)) = none ∧
      (s.has (tool 5 .passed .presetter)).enrolCheck (enrolTool .presetter) = some .stationOccupied ∧
      (s.modPresetter (Presetter.withCycle 3)).enrolCheck (enrolTool .presetter) = some .stationBusy ∧
      s.enrolCheck (enrolTool .presetter) = none ∧ s.enrolCheck (enrolTool .loose) = none ∧
      p.enrolled.state = .ready ∧ p.enrolled.home = some 4 ∧ (enrolTool .presetter).enrolled.state = .passed ∧
      (enrolTool (.cell 2 9)).enrolled.state = .out ∧ ({ p with lifeUsed := 100 } : Tool).enrolled.state = .worn ∧
      ({ p with geometry := none } : Tool).enrolled.state = .unmeasured ∧
      ({ p with lengthTol := 0 } : Tool).enrolled.state = .quarantine ∧
      ({ p with lifeUsed := 90 } : Tool).enrolled.warningSent = true := by decide +kernel

/-- REMOVE by number, state, location and service state, and by movement. -/
theorem witness_Remove :
    let s := (quiet .service).brings 0
    let u := (quiet .setup).brings 0
    let img := image [5]
    let at4 := s.stocks 5 4
    let refuses := fun img (s : State) st => exec (.remove img) s = .next (s.answered 0 0x09 img st [] [])
    s.accepts .remove img 0 ∧ refuses (image [0]) s .badParam ∧ refuses img s .unknownTool ∧
      refuses img (at4.claimTool 5 (.slot 3)) .busy ∧
      exec (.remove img) (s.has (tool 5 .worn .loose)) = .next (s.answered 0 0x09 img .ok [5, 0, 8] []) ∧
      exec (.remove img) (u.stocks 5 4) =
        .next (State.answered 0 0x09 img .ok [5, 0, 2] []
          (u.modPocket 4 fun k => { k with sensor := .present, content := none, stamp := 5 })) ∧
      refuses img (at4.modPocket 4 fun k => { k with sensor := .absent }) .notStocked ∧
      refuses img (at4.modCrib fun c => { c with drawers := c.drawers.set 0 .closed }) .drawerDenies ∧
      (tool 5 .ready (.pocket 4)).meetsReady = true ∧ refuses img (at4.modPocket 4 fun k => { k with claim := some 2 }) .busy ∧
      refuses img at4.crowded .cribBusy ∧
      ((at4.claimTool 5 (.slot 0)).requestRemoval .removeOut 4 (.slot 0)).2 = .made 1 4 ∧
      exec (.remove img) at4 =
        .next (((at4.claimTool 5 (.slot 0)).requestRemoval .removeOut 4 (.slot 0)).1.started 0 0x09 img
          (.remove 5 1)) := by
  simp only [exec_next_iff, State.accepts, State.reading]; decide +kernel

/-- Releases of a record: ASTRAY before its claim, named READY within and outside the conditions, and by a RETURN. -/
theorem witness_Remove_claims :
    let x := tool 5 .ready (.pocket 4)
    let state := fun (x : Tool) named loc => (x.release false named loc).state
    let astray := { x.take (.slot 3) with stateBefore := some .astray }
    x.take (.slot 3) = { x with state := .claimed, stateBefore := some .ready, claim := some (.slot 3) } ∧
      (x.take (.slot 3)).release false .ready (.pocket 4) = x ∧
      astray.release false .ready (.pocket 4) = tool 5 .astray .loose ∧
      astray.release true .quarantine (.pocket 4) = tool 5 .quarantine (.pocket 4) ∧
      state { x with lifeUsed := 99 } .ready (.pocket 4) = .ready ∧
      state { x with lifeUsed := 100 } .ready (.pocket 4) = .worn ∧
      state { x with lifeUsed := 100, geometry := none } .ready .loose = .worn ∧
      state { x with geometry := none } .ready (.pocket 4) = .unmeasured ∧
      state { x with lengthTol := 1 } .ready (.pocket 4) = .ready ∧
      { x with lengthTol := 0 }.release false .ready .loose =
        { tool 5 .quarantine .loose with lengthTol := 0, outOfTol := true } ∧
      state x .ready .presetter = .passed ∧ state x .worn .loose = .worn := by decide +kernel

/-- A REMOVE refused BUSY by the pocket releases a record that is READY no more as WORN. -/
theorem witness_Remove_worn :
    let s := ((quiet .service).brings 0).stocks 5 4 |>.modTool 5 fun x => { x with lifeUsed := 100 }
    let t := after (.remove (image [5])) (s.modPocket 4 fun k => { k with claim := some 2 })
    t.formedStatus 0 = some .busy ∧ t.findTool 5 = some { tool 5 .worn (.pocket 4) with lifeUsed := 100 } := by
  decide +kernel

/-- READ_TOOL of no tool, an unknown one and a known one; FIND with values out of range, and with more than its buffer holds. -/
theorem witness_ReadToolAndFind :
    let s := (((quiet .service).brings 0).has (tool 5 .ready .loose)).has (tool 7 .passed .loose)
    let find : SlotImage := { image [5, 0, 3, 0, 6, 0] with bufLength := 2 }
    s.accepts .readTool (image [5]) 0 ∧
      exec (.readTool (image [0])) s = .next (s.answered 0 0x0A (image [0]) .badParam [] []) ∧
      exec (.readTool (image [6])) s = .next (s.answered 0 0x0A (image [6]) .unknownTool [] []) ∧
      exec (.readTool (image [5])) s =
        .next (s.answered 0 0x0A (image [5]) .ok (tool 5 .ready .loose).bytes []) ∧
      (tool 5 .ready .loose).bytes.length = 56 ∧ s.accepts .find find 0 ∧
      exec (.find (image [0, 0, 3, 0, 6, 0])) s =
        .next (s.answered 0 0x0B (image [0, 0, 3, 0, 6, 0]) .badParam [] []) ∧
      exec (.find (image [5, 0, 3, 0, 0, 2])) s =
        .next (s.answered 0 0x0B (image [5, 0, 3, 0, 0, 2]) .badParam [] []) ∧
      exec (.find find) s = .next (s.answered 0 0x0B find .ok [1, 0, 5, 0, 1] [5, 0]) := by
  simp only [exec_next_iff, State.accepts, State.reading]; decide +kernel

/-- The 56 bytes of a record with every optional field, and of one with none. -/
theorem witness_ReadToolAndFind_layout :
    let full : Tool :=
      { tool 0x0201 .claimed (.cell 23 240) with
        stateBefore := some .out, claim := some (.slot 31), last := some (0, 9), home := some 511, outOfTol := true
        lifeUnit := .cuts, warningSent := true, regrinds := 1, issueCount := 0x0403 }
    let bare : Tool := { tool 7 .unmeasured .loose with geometry := none, lifeLimit := 1, lifeEnded := true }
    full.bytes = [0x1F, 1, 2, 3, 3, 4, 1, 31, 1, 24, 240, 1, 9, 0xFF, 1] ++ le 4 1000 ++ le 4 50 ++ [5, 0, 5, 0] ++
        le 4 1001 ++ le 4 50 ++ [1, 0, 0, 0, 1, 0] ++ [1, 1, 100, 0, 2, 0, 90, 1, 0, 1, 2, 3, 4, 90, 0] ∧
      bare.bytes = [0, 7, 0, 3, 0, 0, 0, 0, 3, 0, 0, 0, 0, 0, 0] ++ le 4 1000 ++ le 4 50 ++ [5, 0, 5, 0] ++
        List.replicate 14 0 ++ [0, 0, 1, 0, 2, 0, 90, 0, 1, 0, 2, 0, 0, 1, 0] := by decide +kernel

/-- SET_LIFE: each refusal, a limit at life used, one above it, and a WORN record. -/
theorem witness_SetLife :
    let s := (quiet .service).brings 0
    let img := fun limit percent => image [5, 0, limit, 0, 1, percent]
    let refuses := fun img (s : State) st => exec (.setLife img) s = .next (s.answered 0 0x0C img st [] [])
    let x := tool 5 .ready .loose
    let worn := s.has { x with state := .worn }
    s.reading 0 ∧ (worn.tools.map (·.number)).Nodup ∧ refuses (image [0, 0, 1, 0, 1, 90]) s .badParam ∧ refuses (img 0 90) s .badParam ∧
      refuses (image [5, 0, 1, 0, 2, 90]) s .badParam ∧ refuses (img 1 49) s .badParam ∧
      refuses (img 1 100) s .badParam ∧ refuses (img 1 50) s .unknownTool ∧
      refuses (img 1 99) (s.has { x with state := .claimed }) .busy ∧
      refuses (img 1 0) (s.has { x with state := .out }) .wrongState ∧
      exec (.setLife (img 2 0)) (s.has x) =
        .next (State.answered 0 0x0C (img 2 0) .ok [1, 0, 2, 0, 8] []
          (s.has { x with lifeLimit := 2, lifeUnit := .cuts, warningSent := true, lifeEnded := true, state := .worn })) ∧
      exec (.setLife (img 3 50)) (s.has x) =
        .next (State.answered 0 0x0C (img 3 50) .ok [1, 0, 2, 0, 2] []
          (s.has { x with lifeLimit := 3, lifeUnit := .cuts, warnPercent := 50, warningSent := true })) ∧
      exec (.setLife (img 3 99)) worn =
        .next (State.answered 0 0x0C (img 3 99) .ok [2, 0, 2, 0, 8] []
          (s.has { x with lifeLimit := 3, lifeUnit := .cuts, warnPercent := 99, state := .worn })) := by
  simp only [exec_next_iff, State.reading]; decide +kernel

/-- REGRIND: each refusal, and a WORN record reground with both sizes and with none. -/
theorem witness_Regrind :
    let s := (quiet .service).brings 0
    let img := image ([3, 5, 0] ++ le 4 999999 ++ le 4 0)
    let refuses := fun img (s : State) st => exec (.regrind img) s = .next (s.answered 0 0x0D img st [] [])
    let x := { tool 5 .worn .loose with lifeUsed := 100, warningSent := true, lifeEnded := true, regrinds := 1 }
    let y : Tool :=
      { x with
        lifeUsed := 0, regrinds := 2, warningSent := false, lifeEnded := false, geometry := none, state := .unmeasured }
    s.reading 0 ∧ refuses (image [0, 0, 0]) s .badParam ∧ refuses (image ([1, 5, 0] ++ le 4 1000000)) s .badParam ∧
      refuses (image ([2, 5, 0] ++ le 4 0 ++ le 4 1000000)) s .badParam ∧ refuses img s .unknownTool ∧
      refuses img (s.has { x with state := .claimed }) .busy ∧ refuses img (s.has { x with state := .ready }) .wrongState ∧
      refuses img (s.has { x with regrinds := 2 }) .spent ∧
      exec (.regrind img) (s.has x) =
        .next (State.answered 0 0x0D img .ok [2, 2] [] (s.has { y with nominalLength := 999999, nominalRadius := 0 })) ∧
      exec (.regrind (image [0, 5])) (s.has x) =
        .next (State.answered 0 0x0D (image [0, 5]) .ok [2, 2] [] (s.has y)) := by
  simp only [exec_next_iff, State.reading]; decide +kernel

/-! ## Orders that set work going -/

/-- HOME: each refusal; both axes set HOMING with a reference lost, and one without. -/
theorem witness_HomeOrder :
    let s := (quiet .service).brings 0
    let refuses := fun ps (s : State) st => exec (.home (image ps)) s =
      .next (s.answered 0 0x0E (image ps) st ([0, 0] ++ s.presetter.axes.bytes) [])
    let lost := s.homed.handReport
      { Report.blank .referenceLost with
        code := 1, detail := .plain ([3, 1, 0, 4, 0] ++ s.homed.presetter.axes.bytes) }
    let homing := fun (s : State) => s.modPresetter fun p =>
      { p with z := { p.z with state := .homing }, x := { p.x with state := .homing } }
    s.accepts .home (image [3]) 0 ∧ refuses [0] s .badParam ∧ refuses [4] s .badParam ∧
      refuses [3] (s.modPresetter (Presetter.withCycle 2)) .stationBusy ∧ refuses [2] (homing s) .busy ∧
      (let u := (s.homed.referenced 4).modPresetter (fun p => { p with generation := 0 });
        exec (.home (image [3])) u =
          .next (State.started 0 0x0E (image [3]) (.home ⟨true, true⟩ .homed .homed 300000) (homing lost))) ∧
      exec (.home (image [1])) s = .next (State.started 0 0x0E (image [1]) (.home ⟨true, false⟩ .unhomed .unhomed 300000)
        (s.modPresetter fun p => { p with z := { p.z with state := .homing } })) := by
  simp only [exec_next_iff, State.accepts, State.reading]; decide +kernel

/-- A master of these sizes. -/
def State.mastered (s : State) : State :=
  s.modPresetter fun p => { p with masterLength := 500, masterRadius := 25 }

/-- CALIBRATE: each refusal; SEAT, TOUCH below the soft limits, and TOUCH at one. -/
theorem witness_CalibrateOrder :
    let s := ((quiet .setup).brings 0).homed.mastered
    let img := image []
    let refuses := fun (s : State) st => exec (.calibrate img) s =
      .next (s.answered 0 0x0F img st [39, 0] (List.replicate 29 0 ++ s.presetter.axes.bytes))
    let seated := s.modPresetter fun p => { p with seated := true }
    let limit := seated.modPresetter fun p => { p with z := { p.z with softLimit := 2000 } }
    s.accepts .calibrate img 0 ∧ refuses (s.modPresetter fun p => { p with masterRadius := 0 }) .noMaster ∧
      refuses (((quiet .setup).brings 0).mastered) .axisNotHomed ∧ (∀ a ∈ [Axis.z, .x], (s.axis a).state = .homed) ∧
      refuses (s.modPresetter (Presetter.withCycle 2)) .stationBusy ∧
      refuses (s.has (tool 5 .passed .presetter)) .stationOccupied ∧
      exec (.calibrate img) s = .next (State.started 0 0x0F img (.calibrate 500 25)
        (s.modPresetter (Presetter.withCycle 0))) ∧
      exec (.calibrate img) seated = .next (State.started 0 0x0F img (.calibrate 500 25)
        (seated.modPresetter (Presetter.withCycle 0))) ∧
      exec (.calibrate img) limit = .next (State.ended 0 .overtravel [39, 0]
        (List.replicate 29 0 ++ limit.presetter.axes.bytes) (State.started 0 0x0F img (.calibrate 500 25)
          (limit.modPresetter fun p => { p.withCycle 0 with cycle := none }))) := by
  simp only [exec_next_iff, State.accepts, State.reading]; decide +kernel

/-- MEASURE refused by each of its checks. -/
theorem witness_MeasureChecks :
    let s := (((quiet .service).brings 0).homed.referenced 255).has (tool 5 .ready .loose)
    let img := image [5]
    let refuses := fun img (s : State) st => exec (.measure img) s =
      .next (s.answered 0 0x10 img st [70, 0] (List.replicate 60 0 ++ s.presetter.axes.bytes))
    s.accepts .measure img 0 ∧ s.findTool 5 = some (tool 5 .ready .loose) ∧ refuses (image [0]) s .badParam ∧
      refuses (image [6]) s .unknownTool ∧ refuses img (s.claimTool 5 (.slot 3)) .busy ∧
      refuses img (s.has (tool 5 .out .loose)) .wrongState ∧ refuses img (s.has (tool 5 .worn .loose)) .wrongState ∧
      refuses img (s.modPresetter fun p => { p with x := { p.x with state := .lost } }) .axisNotHomed ∧
      refuses img (s.modPresetter fun p => { p with reference := none }) .noReference ∧
      refuses img (s.referenced 256) .referenceStale ∧
      refuses img (s.modPresetter (Presetter.withCycle 2)) .stationBusy ∧
      refuses img (s.has (tool 6 .passed .presetter)) .stationOccupied ∧
      refuses img (s.modPresetter fun p => { p with seated := true }) .stationOccupied := by
  simp only [exec_next_iff, State.accepts, State.reading]; decide +kernel

/-- MEASURE started from LOOSE, from PRESETTER with SEATED inactive and active, and from a pocket; and refused its FETCH. -/
theorem witness_MeasureStarts :
    let s := ((quiet .service).brings 0).homed.referenced 255
    let img := image [5]
    let started := fun (s : State) x m => exec (.measure img) s =
      .next (State.started 0 0x10 img (.measure m)
        ((x : State).modPresetter fun _ => s.presetter.withCycle 0))
    let loose := s.has (tool 5 .ready .loose)
    let there := s.has (tool 5 .quarantine .presetter)
    let seated := there.modPresetter fun p => { p with seated := true }
    let pocket := s.stocks 5 4
    let fetch := (pocket.claimTool 5 (.slot 0)).requestRemoval .fetch 4 (.slot 0)
    let shut := pocket.modCrib fun c => { c with drawers := c.drawers.set 0 .closed }
    let t := after (.measure img) shut
    s.accepts .measure img 0 ∧ started loose (loose.claimTool 5 (.slot 0)) (newMeasure 5 .loose .seating) ∧
      started there (there.claimTool 5 (.slot 0)) (newMeasure 5 .presetter .seating) ∧
      started seated (seated.claimTool 5 (.slot 0)) (newMeasure 5 .presetter .touching) ∧ fetch.2 = .made 1 4 ∧
      started pocket fetch.1 { newMeasure 5 (.pocket 4) .fetching with fetch := some 1, fetchMade := some 1 } ∧
      ((shut.claimTool 5 (.slot 0)).requestRemoval .fetch 4 (.slot 0)).2 = .denied .drawerDenies ∧
      t.formedStatus 0 = some .drawerDenies ∧ t.findTool 5 = some (tool 5 .ready (.pocket 4)) := by
  simp only [exec_next_iff, State.accepts, State.reading]; decide +kernel

/-- MEASURE from PRESETTER with SEATED active and a counter at its soft limit. -/
theorem witness_MeasureStarts_overtravel :
    let s := (((quiet .service).brings 0).homed.referenced 255).has (tool 5 .quarantine .presetter)
    let seated := s.modPresetter fun p => { p with seated := true, x := { p.x with softLimit := 700 } }
    let t := after (.measure (image [5])) seated
    let m := { newMeasure 5 .presetter .touching with
      outcome := some
        { fault := some .overtravel, zCaptures := [], xCaptures := [], means := none, axes := s.presetter.axes } }
    t.formedStatus 0 = some .overtravel ∧ t.presetter = { seated.presetter.withCycle 0 with cycle := none } ∧
      t.tools = s.tools ∧ t.order.writeOrder = [0] ∧
      (t.slot 0).context.bind (fun c => c.output.map (·.buffer)) = some (t.measureRecord m) := by decide +kernel

/-- STOW: each refusal, a STORE made, and a RETURN_PUT refused with CRIB_BUSY. -/
theorem witness_StowOrder :
    let s := (quiet .service).brings 0
    let img := image [5]
    let refuses := fun img (s : State) st => exec (.stow img) s = .next (s.answered 0 0x11 img st [] [])
    let passed := s.has (tool 5 .passed .presetter)
    let asked := (passed.claimTool 5 (.slot 0)).requestInsertion .store 5 (.slot 0)
    let full := (s.has (tool 5 .worn .loose)).crowded.modCrib fun c => { c with drawers := c.drawers.set 0 .returnOnly }
    s.accepts .stow img 0 ∧ refuses (image [0]) s .badParam ∧ refuses img s .unknownTool ∧
      refuses img (passed.claimTool 5 (.slot 3)) .busy ∧ refuses img (s.has (tool 5 .passed (.pocket 4))) .wrongState ∧
      refuses img (s.has (tool 5 .ready .loose)) .wrongState ∧ asked.2 = .made 1 0 ∧
      exec (.stow img) passed = .next (State.started 0 0x11 img
        (.stow { tool := 5, movement := .store, request := 1, pocket := 0 }) asked.1) ∧
      ((full.claimTool 5 (.slot 0)).requestInsertion .returnPut 5 (.slot 0)).2 = .denied .cribBusy ∧
      refuses img full .cribBusy := by
  simp only [exec_next_iff, State.accepts, State.reading]; decide +kernel

/-- RETURN: each refusal; an OUT tool with its WITHDRAW, an ASTRAY one whose last cell is CUT_OFF, and one with no cell. -/
theorem witness_ReturnOrder :
    let s := ((quiet .service).brings 0).modCrib fun c => { c with drawers := c.drawers.set 0 .returnOnly }
    let img := image [5]
    let refuses := fun img (s : State) st => exec (.returnTool img) s = .next (s.answered 0 0x13 img st [] [])
    let out := s.has { tool 5 .out (.cell 2 9) with last := some (2, 9) }
    let astray := (s.enables 2 .cutOff 256 0).has { tool 5 .astray .loose with last := some (2, 9) }
    let back := s.has (tool 5 .returning .loose)
    let asked := fun (s : State) => (s.claimTool 5 (.slot 0)).requestInsertion .returnPut 5 (.slot 0)
    let ctx : ReturnCtx :=
      { tool := 5, stateBefore := .returning, request := 1, pocket := 0, opened := false, outcome := none
        withdrawTo := none, withdraw := .notSent, tries := 0, acknowledged := false, released := none }
    s.accepts .returnTool img 0 ∧ refuses (image [0]) s .badParam ∧ refuses img s .unknownTool ∧
      refuses img (s.has (tool 5 .claimed .loose)) .busy ∧ refuses img (s.has (tool 5 .ready .loose)) .wrongState ∧
      (asked back.crowded).2 = .denied .cribBusy ∧ refuses img back.crowded .cribBusy ∧
      (asked back).2 = .made 1 0 ∧
      exec (.returnTool img) back = .next (State.started 0 0x13 img (.returning ctx) (asked back).1) ∧
      exec (.returnTool img) out = .next (State.started 0 0x13 img
        (.returning { ctx with stateBefore := .out, withdrawTo := some (2, 9), withdraw := .pending })
        ((asked out).1.queueExchange 2 (.withdraw 0xFF 5 9) (.slot 0)).1) ∧
      exec (.returnTool img) astray = .next (State.started 0 0x13 img
        (.returning { ctx with stateBefore := .astray, withdrawTo := some (2, 9), withdraw := .unconfirmed })
        (asked astray).1) := by
  simp only [exec_next_iff, State.accepts, State.reading]; decide +kernel

/-- ISSUE: values out of range, a failed check, a failed selection, an issue opened, and one whose offer finds a full queue. -/
theorem witness_IssueOrder :
    let s := ((quiet .service).enables 23 .good 0 0).brings 0
    let ask := image [24, 240, 0, 5, 0]
    let bad := fun ps => exec (.issue (image ps)) s = .next (s.answered 0 0x12 (image ps) .badParam [] [])
    let stocked := s.stocks 5 4
    let a : Ask := ⟨23, 240, .order 0, none, 5⟩
    let opened := (((stocked.claimTool 5 (.issue 0)).modIssues fun m =>
      { m with records := m.records.set 0 { generation := 0, issue := some (newIssue a 5 4 5) } }).queueExchange 23
        (.dataOffer 0 5 240 1001 50 98 .minutes) (.issue 0))
    let full := stocked.modCell 23 fun x => { x with queue := List.replicate 16 (s.newExchange (.lifeEnd 8) .lifeHandler) }
    let t := after (.issue ask) full
    s.accepts .issue ask 0 ∧ bad [0, 1, 0, 5] ∧ bad [25, 1, 0, 5] ∧ bad [1, 0, 0, 5] ∧ bad [1, 241, 0, 5] ∧
      bad [1, 1, 2, 5] ∧ bad [1, 1, 0, 0, 0] ∧ bad [1, 1, 1, 0, 1] ∧
      s.acceptCheck ⟨0, 1, .order 0, some 255, 0⟩ = some .cellDisabled ∧
      exec (.issue (image [1, 1, 1, 255])) s = .next (s.answered 0 0x12 (image [1, 1, 1, 255]) .cellDisabled [] []) ∧
      exec (.issue ask) s = .next (s.answered 0 0x12 ask .unknownTool [] []) ∧ stocked.acceptCheck a = none ∧
      stocked.freeIssue = some 0 ∧ opened.2 = none ∧
      exec (.issue ask) stocked = .next (State.started 0 0x12 ask (.issue 0) opened.1) ∧
      t.formedStatus 0 = some .noAnswer ∧ (t.issueRec 0).issue = none ∧ t.link.cells = full.link.cells ∧
      t.findTool 5 = some (tool 5 .ready (.pocket 4)) := by
  simp only [exec_next_iff, State.accepts, State.reading]; decide +kernel

/-- A RETURN whose movement has ended. -/
def movedReturn : ReturnCtx :=
  { tool := 5, stateBefore := .out, request := 1, pocket := 0, opened := false, outcome := some .sensed
    withdrawTo := none, withdraw := .pending, tries := 0, acknowledged := false, released := none }

/-- CANCEL: each refusal, of slots and of issues. -/
theorem witness_CancelOrder_refused :
    let s := (quiet .service).brings 0
    let answers := fun ps (s : State) st result =>
      exec (.cancel (image ps)) s = .next (s.answered 0 0x14 (image ps) st result [])
    let refuses := fun ps (s : State) st => answers ps s st []
    let issue := fun phase => s.issues5 (sampleIssue (.order 31) phase)
    s.accepts .cancel (image [0, 31]) 0 ∧ refuses [2, 1] s .badParam ∧ refuses [0, 32] s .badParam ∧
      refuses [0, 0] s .badParam ∧ refuses [1, 255] s .badParam ∧ refuses [0, 31] s .noOrder ∧
      answers [0, 31] (s.runs 31 (.returning movedReturn)) .notCancellable [0, 31, 0x10, 9, 0, 0, 0] ∧
      answers [0, 31] (s.runs 31 (.clearRelock 4)) .notCancellable [0, 31, 0x10, 9, 0, 0, 0] ∧
      answers [0, 31] ((issue .transit).runs 31 (.issue 0)) .tooLate [1, 31, 0x10, 9, 0, 0, 3] ∧
      answers [0, 31] ((issue .withdrawing).runs 31 (.issue 0)) .notCancellable [1, 31, 0x10, 9, 0, 0, 4] ∧
      refuses [1, 254] s .noIssue ∧ (issue .transit).openIndex 0 = some 0 ∧
      answers [1, 0] (issue .transit) .tooLate [1, 0, 0, 0, 0, 0, 3] ∧
      answers [1, 0] (issue .withdrawing) .notCancellable [1, 0, 0, 0, 0, 0, 4] := by
  simp only [exec_next_iff, State.accepts, State.reading]; decide +kernel

/-- CANCEL of a HOME in a higher slot, and of an issue whose offer is in flight. -/
theorem witness_CancelOrder :
    let s := (quiet .service).brings 0
    let homing := (s.modPresetter fun p => { p with z := { p.z with state := .homing } }).runs 31
      (.home ⟨true, false⟩ .lost .unhomed 9)
    let t := after (.cancel (image [0, 31])) homing
    let offered := (s.issues5 (sampleIssue (.cell 1) .offerWait)).queues 2
      (flying s (.dataOffer 0 5 9 1001 50 98 .minutes) (.issue 0) none)
    (homing.slot 31).context.any (fun c => c.long && c.output.isNone) = true ∧
      t.formedStatus 31 = some .cancelled ∧ t.order.writeOrder = [0, 31] ∧
      (t.slot 0).context.bind (·.output) =
        some { status := .ok, stamp := 5, result := [0, 31, 0x10, 9, 0, 0, 0], buffer := [] } ∧
      (t.axis .z).state = .unhomed ∧
      exec (.cancel (image [1, 0])) offered = .next (State.answered 0 0x14 (image [1, 0]) .ok [1, 0, 0, 0, 0, 0, 0] []
        (offered.modIssue 0 fun x => { x with failure := some .cancelled, cancelPending := true })) := by
  simp only [exec_next_iff]; decide +kernel

/-- SCAN of each kind at its bounds. -/
theorem witness_ScanOrder :
    let s := (quiet .service).brings 0
    let img := image [2, 24, 0]
    let bad := fun ps => exec (.scan (image ps)) s = .next (s.answered 0 0x15 (image ps) .badParam [] [])
    let cell := [24, 0, 240, 4, 0, 0, 0, 0, 0, 0, 0, 0, 0, 0, 0, 0]
    s.accepts .scan img 0 ∧ s.scanCells 24 = [(24, cell)] ∧
      exec (.scan img) s = .next (s.answered 0 0x15 img .ok [1, 0, 25, 0, 0] cell) ∧
      exec (.scan (image [1, 31, 0])) s = .next (s.answered 0 0x15 (image [1, 31, 0]) .ok [0, 0, 31, 0, 0] []) ∧
      exec (.scan (image [3, 23, 0])) s =
        .next (s.answered 0 0x15 (image [3, 23, 0]) .ok [0, 0, 23, 0, 0, 4, 0, 0, 0] []) ∧
      bad [4, 0, 0] ∧ bad [0, 0, 2] ∧ bad [1, 32, 0] ∧ bad [2, 0, 0] ∧ bad [2, 25, 0] ∧ bad [3, 24, 0] := by
  simp only [exec_next_iff, State.accepts, State.reading]; decide +kernel

/-- SCAN of the pockets out of order from a start index, with room for none of them. -/
theorem witness_ScanOrder_pockets :
    let s := ((quiet .service).brings 0).modPocket 511 fun k => { k with fault := .forced, lock := .jammed }
    let img := { image [0, 0xFF, 1] with bufLength := 15 }
    (s.scanPockets 511).map (·.1) = [511] ∧
      exec (.scan img) s = .next (s.answered 0 0x15 img .ok [0, 0, 0xFF, 1, 1] []) := by
  simp only [exec_next_iff]; decide +kernel

/-- SCAN of an issue and of requests: the queued one first, then the others by pocket. -/
theorem witness_ScanOrder_entries :
    let s := (((quiet .service).brings 0).requests (request 9 .fetch 7 none (.slot 3) .opened (some 2)) .opened).requests
      (request 10 .store 4 (some 5) (.issue 0) .queued none) .locked
    let issue := ((quiet .service).brings 0).issues5 (sampleIssue (.cell 1) .pickup)
    let t := after (.scan (image [3, 0, 0])) s
    let u := after (.scan (image [1, 0, 0])) issue
    let output := fun (s : State) => (s.slot 0).context.bind fun c => c.output.map fun o => (o.result, o.buffer)
    output t = some ([2, 0, 2, 0, 0, 4, 1, 0, 1],
        [3, 10, 0, 1, 4, 0, 5, 0, 0, 0, 0, 1, 0, 0, 0, 0, 0, 0, 0, 0] ++
        [4, 9, 0, 3, 7, 0, 0, 0, 1, 3, 2, 0, 0, 7, 0, 0, 0, 0, 0, 0]) ∧
      output u = some ([1, 0, 1, 0, 0],
        fit 48 [4, 0, 5, 0, 3, 9, 1, 1, 0, 0, 2, 0, 0, 0, 0, 4, 0, 0, 0, 0, 0, 0, 0, 0, 1, 0, 0, 0]) := by
  decide +kernel

/-- CLEAR_FAULT: each refusal and each way to clear. -/
theorem witness_ClearFaultOrder :
    let s := (quiet .service).brings 0
    let img := image [0xFF, 1]
    let at511 := fun fault lock sensor => s.modPocket 511 fun k => { k with fault := fault, lock := lock, sensor := sensor }
    let refuses := fun img (s : State) st => exec (.clearFault img) s = .next (s.answered 0 0x16 img st [] [])
    let item := at511 .unknownItem .locked .present
    s.accepts .clearFault img 0 ∧ refuses (image [0, 2]) s .badParam ∧ refuses img s .wrongState ∧
      refuses img (item.modPocket 511 fun k => { k with claim := some 3 }) .busy ∧
      exec (.clearFault img) (at511 .lockJam .jammed .absent) = .next (State.started 0 0x16 img (.clearRelock 511)
        (s.modPocket 511 fun k => { k with fault := .lockJam, lock := .closing, confirm := some 250, stamp := 5 })) ∧
      refuses img (at511 .lockJam .closing .absent) .busy ∧
      exec (.clearFault img) (at511 .forced .locked .absent) = .next (State.answered 0 0x16 img .ok [0] []
        (s.modPocket 511 fun k => { k with stamp := 5 })) ∧
      refuses img (at511 .forced .locked .present) .wrongState ∧
      (item.requestRemoval .clearOut 511 (.slot 0)).2 = .made 1 511 ∧
      exec (.clearFault img) item = .next (State.started 0 0x16 img (.clearOut 511 1)
        (item.requestRemoval .clearOut 511 (.slot 0)).1) ∧
      refuses img item.crowded .cribBusy := by
  simp only [exec_next_iff, State.accepts, State.reading]; decide +kernel

/-! ## The drawer chain and the requests -/

/-- A REMOVE of tool 5 from pocket 4 in slot 3, its request 9 in a state, the pocket's lock to match. -/
def removing (st : RequestState) (lock : Lock) (window : Option Nat) : State :=
  ((((quiet .service).stocks 5 4).claimTool 5 (.slot 3)).requests (request 9 .removeOut 4 none (.slot 3) st window) lock).runs
    3 (.remove 5 9)

/-- An issue of tool 5 from pocket 4, its request 9 in a state, the pocket's lock to match. -/
def picking (phase : IssuePhase) (st : RequestState) (lock : Lock) (window : Option Nat) : State :=
  (((quiet .service).enables 2 .good 0 0).issues5 { sampleIssue (.cell 1) phase with request := some 9 }).requests
    (request 9 .issuePick 4 none (.issue 0) st window) lock

/-- A STOW of tool 5 toward pocket 4 in slot 3, by RETURN_PUT, its request 9 in a state. -/
def stowing (st : RequestState) (lock : Lock) (window : Option Nat) : State :=
  ((((quiet .service).has (tool 5 .worn .loose)).claimTool 5 (.slot 3)).requests
    (request 9 .returnPut 4 (some 5) (.slot 3) st window) lock).runs 3
      (.stow { tool := 5, movement := .returnPut, request := 9, pocket := 4 })

/-- A MEASURE of tool 5 in slot 3 with a request 9 for pocket 4. -/
def moving (phase : MeasurePhase) (mv : Movement) (st : RequestState) (lock : Lock) : State :=
  ((if mv.inserts then (quiet .service).has (tool 5 .passed .presetter) else (quiet .service).stocks 5 4).claimTool 5
    (.slot 3) |>.requests (request 9 mv 4 (if mv.inserts then some 5 else none) (.slot 3) st none) lock).runs 3 (.measure
      { newMeasure 5 .presetter phase with
        fetch := if mv.inserts then none else some 9, store := if mv.inserts then some 9 else none
        storeMovement := if mv.inserts then some mv else none, storeMade := if mv.inserts then some (9, 4) else none
        evaluation := if mv.inserts then some
            { length := 1001, radius := 50, inTol := true, lifeUsed := 2, lifeLimit := 100, verdict := .passed
              generation := 1, refStamp := 1, uses := 2 }
          else none })

/-- A RETURN of tool 5 in slot 3 with its request 9 for pocket 4. -/
def comingBack (withdraw : WithdrawStatus) (st : RequestState) (lock : Lock) : State :=
  ((((quiet .service).has (tool 5 .out (.cell 2 9))).claimTool 5 (.slot 3)).requests
    (request 9 .returnPut 4 (some 5) (.slot 3) st none) lock).runs 3 (.returning
      { tool := 5, stateBefore := .out, request := 9, pocket := 4, opened := false, outcome := none
        withdrawTo := some (2, 9), withdraw := withdraw, tries := 0, acknowledged := false, released := none })

/-- Queued requests shut out, of each owner: a STOW, a MEASURE, a RETURN and an issue. -/
theorem witness_SetDrawer_owners :
    let shut := fun (s : State) => after (.setDrawer (image [0, 3])) (s.brings 0)
    let stow := shut (stowing .queued .locked none)
    let pick := shut (picking .unlockWait .queued .locked none)
    (stow.formedStatus 3, stow.formedStatus 0, stow.order.writeOrder) = (some .drawerClosed, some .ok, [0, 3]) ∧
      (stow.slot 0).context.bind (·.output) =
        some { status := .ok, stamp := 5, result := [0, 0, 3, 1], buffer := [] } ∧
      (stow.pocket 4).claim = none ∧ stow.crib.requests = [] ∧
      (shut (moving .fetching .fetch .queued .locked)).formedStatus 3 = some .drawerClosed ∧
      (shut (moving .storing .store .queued .locked)).formedStatus 3 = some .ok ∧
      (shut (comingBack .confirmed .queued .locked)).formedStatus 3 = some .drawerClosed ∧
      ((pick.issueRec 0).issue.map fun x => (x.phase, x.failure)) = some (.withdrawing, some .drawerClosed) ∧
      (pick.cell 2).queue.length = 1 := by decide +kernel

/-- The confirmations and the window on a pocket in OPENING, in CLOSING and LOCKED, claim and requests in agreement. -/
theorem witness_LockTable :
    let s := removing .opening .opening none
    let c := removing .closing .closing none
    let agree := fun (s : State) => ∀ q ∈ s.crib.requests, q.pocket = 4 ↔ (s.pocket 4).claim = some q.number
    let opened := after (.releasedConfirmation 4) s
    let engaged := after (.engagedConfirmation 4) c
    let jammed := after (.lockConfirmWindowExpires 4) s
    agree s ∧ agree c ∧ (s.pocket 4).confirm = some 250 ∧
      exec (.engagedConfirmation 4) s = .next s ∧ exec (.releasedConfirmation 4) c = .next c ∧
      exec (.lockConfirmWindowExpires 0) s = .next s ∧
      opened.crib.requests = [request 9 .removeOut 4 none (.slot 3) .opened (some 30000)] ∧
      opened.pocket 4 = { s.pocket 4 with lock := .opened, confirm := none, stamp := 5 } ∧
      (engaged.pocket 4).lock = .locked ∧ (engaged.pocket 4).claim = none ∧ engaged.crib.requests = [] ∧
      (engaged.pocket 4).content = some 5 ∧ (jammed.pocket 4).lock = .jammed ∧ (jammed.pocket 4).fault = .lockJam ∧
      (jammed.pocket 4).claim = none ∧ jammed.crib.requests = [] := by
  simp only [exec_next_iff]; decide +kernel

/-- What a lock's events do to an issue, to a REMOVE, to a request already ended, to no request and to CLEAR_FAULT. -/
theorem witness_LockEventsReachTheOwner :
    let pick := picking .unlockWait .opening .opening none
    let closing := removing .closing .closing none
    let alone := (quiet .service).modPocket 4 fun k => { k with lock := .closing, confirm := some 1, fault := .lockJam }
    let clear := alone.runs 3 (.clearRelock 4)
    let t := after (.lockConfirmWindowExpires 4) (removing .opening .opening none)
    pick.openIndex 0 = some 0 ∧ ((after (.releasedConfirmation 4) pick).issueRec 0).issue =
        some { sampleIssue (.cell 1) .pickup with request := some 9, unlocked := some 5 } ∧
      (removing .opening .opening none).working 3 (.remove 5 9) ∧ t.formedStatus 3 = some .lockJam ∧
      t.findTool 5 = some (tool 5 .ready (.pocket 4)) ∧ t.reports.hold.map (·.kind) = [.pocketFault] ∧
      (after (.lockConfirmWindowExpires 4) closing).reports.hold.length = 1 ∧
      (after (.lockConfirmWindowExpires 4) closing).order = closing.order ∧
      alone.requestAt 4 = none ∧ alone.relockOf 4 = none ∧
      (after (.lockConfirmWindowExpires 4) alone).reports.hold.map (·.code) = [3] ∧
      clear.relockOf 4 = some 3 ∧ (after (.lockConfirmWindowExpires 4) clear).formedStatus 3 = some .lockJam ∧
      (after (.lockConfirmWindowExpires 4) clear).reports.hold = [] ∧
      (after (.engagedConfirmation 4) clear).formedStatus 3 = some .ok := by
  simp only [working_iff]; decide +kernel

/-- A request window that ends a STOW, one that withdraws an issue, and one that does not run. -/
theorem witness_LockEventsReachTheOwner_window :
    let s := stowing .opened .opened (some 3)
    let t := after (.requestWindowExpires 4) s
    let pick := picking .pickup .opened .opened (some 3)
    let u := after (.requestWindowExpires 4) pick
    s.requestAt 4 = some (request 9 .returnPut 4 (some 5) (.slot 3) .opened (some 3)) ∧
      t.formedStatus 3 = some .insertTimeout ∧ t.findTool 5 = some (tool 5 .worn .loose) ∧
      (t.pocket 4).lock = .closing ∧ t.crib.requests.map (·.outcome) = [some .windowExpired] ∧
      ((u.issueRec 0).issue.map fun x => (x.phase, x.failure)) = some (.withdrawing, some .pickupTimeout) ∧
      (u.cell 2).queue.length = 1 ∧
      exec (.requestWindowExpires 4) (stowing .closing .closing none) = .next (stowing .closing .closing none) ∧
      exec (.requestWindowExpires 0) (quiet .service) = .next (quiet .service) := by
  simp only [exec_next_iff]; decide +kernel

/-- A jam while opening, for each owner, with its POCKET_FAULT. -/
theorem witness_LockEventsReachTheOwner_jam :
    let jams := fun (s : State) => after (.lockConfirmWindowExpires 4) s
    let status := fun (s : State) => ((jams s).formedStatus 3, (jams s).reports.hold.map (·.code))
    let clearOut := ((quiet .service).requests (request 9 .clearOut 4 none (.slot 3) .opening none) .opening).runs 3
      (.clearOut 4 9)
    let pick := jams (picking .unlockWait .opening .opening none)
    status (stowing .opening .opening none) = (some .lockJam, [3]) ∧ status clearOut = (some .lockJam, [3]) ∧
      status (moving .fetching .fetch .opening .opening) = (some .lockJam, [3]) ∧
      status (moving .storing .store .opening .opening) = (some .ok, [3]) ∧
      status (comingBack .unconfirmed .opening .opening) = (some .lockJam, [3]) ∧
      ((pick.issueRec 0).issue.map fun x => (x.phase, x.failure, x.request)) =
        some (.withdrawing, some .lockJam, none) ∧
      pick.reports.hold.map (·.issue) = [0] ∧ (pick.cell 2).queue.length = 1 := by decide +kernel

/-- A request window that ends a REMOVE, a CLEAR_OUT, a MEASURE in FETCHING with its cycle and in STORING, and a RETURN. -/
theorem witness_LockEventsReachTheOwner_expiry :
    let open_ := fun (s : State) => s.modRequest 9 fun r => { r with window := some 0 }
    let expires := fun (s : State) => after (.requestWindowExpires 4) (open_ s)
    let ends := fun (s : State) => ((expires s).formedStatus 3, ((expires s).pocket 4).lock,
      (expires s).crib.requests.map (·.outcome))
    let clearOut := ((quiet .service).requests (request 9 .clearOut 4 none (.slot 3) .opened none) .opened).runs 3
      (.clearOut 4 9)
    let fetching := (moving .fetching .fetch .opened .opened).modPresetter (Presetter.withCycle 3)
    let stored := expires (moving .storing .store .opened .opened)
    let closes := fun st => (some st, Lock.closing, [some MoveOutcome.windowExpired])
    ends (removing .opened .opened none) = closes .pickupTimeout ∧ ends clearOut = closes .pickupTimeout ∧
      ends fetching = closes .pickupTimeout ∧ (expires fetching).presetter.cycle = none ∧
      (expires fetching).findTool 5 = some (tool 5 .ready (.pocket 4)) ∧
      ends (moving .fetching .fetch .opened .opened) = closes .pickupTimeout ∧
      ends (moving .storing .store .opened .opened) = closes .ok ∧
      stored.findTool 5 = some (tool 5 .passed .presetter) ∧
      ends (comingBack .unconfirmed .opened .opened) = closes .insertTimeout ∧
      (expires (comingBack .unconfirmed .opened .opened)).findTool 5 = some (tool 5 .out (.cell 2 9)) := by
  dsimp only
  and_intros <;> decide +kernel

/-- A RETURN with its withdraw PENDING, QUEUED and in flight, when its request jams and when its window expires. -/
theorem witness_LockEventsReachTheOwner_return :
    let wd := (quiet .service).newExchange (.withdraw 0xFF 5 9) (.slot 3)
    let with_ := fun st lock e => (((comingBack .pending st lock).modLink fun l => { l with state := .off }).queues 2
      e).modRequest 9 fun r => { r with window := some 0 }
    let jams := fun e => after (.lockConfirmWindowExpires 4) (with_ .opening .opening e)
    let expires := fun e => after (.requestWindowExpires 4) (with_ .opened .opened e)
    let flight := { wd with step := .inFlight, buffer := some 2 }
    let shows := fun (t : State) => (t.formedStatus 3, (t.cell 2).queue.length, t.reports.hold.map (·.code),
      (t.findTool 5).map (·.state))
    shows (jams wd) = (some .lockJam, 0, [3], some .out) ∧ shows (jams flight) = (none, 1, [3], some .out) ∧
      shows (expires wd) = (some .insertTimeout, 0, [], some .out) ∧
      shows (expires flight) = (none, 1, [], some .out) ∧
      (match (expires flight).work 3 with
        | .returning r => r.outcome = some .windowExpired ∧ r.withdraw = .pending
        | _ => False) := by
  dsimp only
  and_intros <;> decide +kernel

/-- Bit 2 of the POCKET_FAULT of an unlock jam shows the claim that its REMOVE then releases (log 54). -/
theorem test_jam_reports_the_claim :
    let t := after (.lockConfirmWindowExpires 4) (removing .opening .opening none)
    t.reports.hold.map (·.bit2) = [true] ∧ (t.findTool 5).map (·.claim) = some none := by decide +kernel

/-- An insertion of tool 5 asked for by slot 3. -/
def asksFor (mv : Movement) (s : State) : State × RequestAnswer := s.requestInsertion mv 5 (.slot 3)

/-- Insertions asked for: made, queued, and refused; and a CLEAR_OUT of a pocket without an unknown item. -/
theorem witness_RequestsMade_insertion :
    let s := (quiet .service).has { tool 5 .passed .loose with home := some 511 }
    let ask := fun (s : State) mv => (asksFor mv s).2
    let shut := s.modCrib fun c => { c with drawers := Vector.replicate 16 .closed }
    ask s .store = .made 1 511 ∧ ask s .returnPut = .made 1 0 ∧ ask shut .store = .denied .noRoom ∧
      ask shut .returnPut = .denied .noRoom ∧ ask s.crowded .store = .denied .cribBusy ∧
      (s.requestRemoval .clearOut 4 (.slot 3)).2 = .denied .wrongState := by decide +kernel

/-- The request of an insertion below the budget and at it. -/
theorem witness_RequestsMade_insertion_requests :
    let s := (quiet .service).has { tool 5 .passed .loose with home := some 511 }
    let full := s.modCrib fun c => { c with lockBudget := 0 }
    (asksFor .store s).1.crib.requests = [request 1 .store 511 (some 5) (.slot 3) .opening none] ∧
      (asksFor .returnPut full).1.crib.requests = [request 1 .returnPut 0 (some 5) (.slot 3) .queued none] := by
  decide +kernel

/-- Destinations, the checks of a removal, and requests made below the budget, at it, and past 16 queued. -/
theorem witness_RequestsMade :
    let s := (quiet .service).stocks 5 511
    let returns := s.modCrib fun c => { c with drawers := (c.drawers.set 0 .closed).set 1 .returnOnly }
    let ask := fun (s : State) mv p => (s.requestRemoval mv p (.slot 3)).2
    let u := (s.requestRemoval .fetch 511 (.slot 3)).1
    let q := s.modCrib fun c => { c with lockBudget := 0 }
    let v := (q.requestRemoval .fetch 511 (.slot 3)).1
    (s.pocket 511).stocked = true ∧ (s.pocket 511).vacant = false ∧ (s.pocket 0).vacant = true ∧
      s.storePocket (some 7) = some 7 ∧ s.storePocket (some 511) = some 0 ∧ s.storePocket none = some 0 ∧
      returns.storePocket none = some 64 ∧ returns.returnPocket = some 32 ∧
      ask (s.modCrib fun c => { c with drawers := c.drawers.set 15 .closed }) .fetch 511 = .denied .drawerDenies ∧
      ask (s.modPocket 511 fun k => { k with claim := some 2 }) .fetch 511 = .denied .busy ∧
      ask s .fetch 0 = .denied .notStocked ∧ ask s.crowded .fetch 511 = .denied .cribBusy ∧
      ask s .fetch 511 = .made 1 511 ∧
      u.crib.requests = [request 1 .fetch 511 none (.slot 3) .opening none] ∧
      u.pocket 511 = { s.pocket 511 with claim := some 1, lock := .opening, confirm := some 250, stamp := 5 } ∧
      v.crib.requests = [request 1 .fetch 511 none (.slot 3) .queued none] ∧
      v.pocket 511 = { s.pocket 511 with claim := some 1 } := by decide +kernel

/-- A queued request started when the budget allows. -/
theorem test_queued_request_started :
    let s := removing .queued .locked none
    s.startQueued.crib.requests.map (·.state) = [.opening] ∧ (s.startQueued.pocket 4).lock = .opening := by
  decide +kernel

/-- Two queued requests that may start and, before them, one that its drawer shuts out: the older of the two starts at a budget of
one, both at two, none at none. -/
theorem witness_RequestsMade_start :
    let q := fun num p => request num .fetch p none (.slot 3) .queued none
    let queued := ((((quiet .service).requests (q 7 511) .locked).requests (q 8 2) .locked).requests (q 9 1)
      .locked).modCrib fun c => { c with drawers := c.drawers.set 15 .closed }
    let budget := fun n => (queued.modCrib fun c => { c with lockBudget := n }).startQueued
    let states := fun (s : State) => s.crib.requests.map (·.state)
    states (budget 0) = [.queued, .queued, .queued] ∧ states (budget 1) = [.queued, .opening, .queued] ∧
      states (budget 2) = [.queued, .opening, .opening] ∧ states (budget 8) = [.queued, .opening, .opening] ∧
      (budget 1).pocket 2 =
        { restPocket with claim := some 8, lock := .opening, confirm := some 250, stamp := 5 } ∧
      (budget 1).pocket 1 = { restPocket with claim := some 9 } := by
  dsimp only
  and_intros <;> decide +kernel

/-- The expected removal of a REMOVE, of an issue, of a FETCH and of a CLEAR_OUT. -/
theorem witness_ExpectedChange_removal :
    let s := removing .opened .opened (some 3)
    let t := after (.sensorRemoval 4) s
    let u := after (.sensorRemoval 4) (picking .pickup .opened .opened (some 3))
    let m := { newMeasure 5 (.pocket 4) .fetching with fetch := some 9, fetchMade := some 9 }
    let fetching := ((((quiet .service).stocks 5 4).claimTool 5 (.slot 3)).requests
      (request 9 .fetch 4 none (.slot 3) .opening none) .opening).runs 3 (.measure m)
    let item := (((quiet .service).modPocket 4 fun k => { k with sensor := .present, fault := .unknownItem }).requests
      (request 9 .clearOut 4 none (.slot 3) .opened (some 3)) .opened).runs 3 (.clearOut 4 9)
    let v := after (.sensorRemoval 4) fetching
    let w := after (.sensorRemoval 4) item
    s.order.formedNow = [] ∧ s.crib.scanDone = true ∧ (s.pocket 4).sensor = .present ∧
      t.formedStatus 3 = some .ok ∧ t.tools = [] ∧
      t.pocket 4 = { s.pocket 4 with
        sensor := .absent, content := none, lock := .closing, confirm := some 250, stamp := 5 } ∧
      t.crib.requests.map (fun r => (r.state, r.outcome)) = [(.closing, some .sensed)] ∧
      ((u.issueRec 0).issue.map fun x => (x.phase, x.transit, x.removed)) =
        some (.transit, some 600000, some 5) ∧
      ((u.findTool 5).map fun x => (x.location, x.last)) = some (.loose, some (2, 9)) ∧
      v.work 3 = .measure { m with fetch := none, fetchOutcome := some .sensed, phase := .seating } ∧
      (v.findTool 5).map (·.location) = some .loose ∧ w.formedStatus 3 = some .ok ∧
      (w.pocket 4).fault = .clear := by decide +kernel

/-- The expected insertion of a STOW by RETURN_PUT, the pocket still OPENING. -/
theorem witness_ExpectedChange_insertion :
    let s := stowing .opening .opening none
    let t := after (.sensorInsertion 4) s
    (s.pocket 4).sensor = .absent ∧ s.working 3 (.stow { tool := 5, movement := .returnPut, request := 9, pocket := 4 }) ∧
      t.formedStatus 3 = some .ok ∧ t.findTool 5 = some (tool 5 .worn (.pocket 4)) ∧
      (t.pocket 4).content = some 5 ∧ (t.pocket 4).lock = .closing := by
  simp only [working_iff]; decide +kernel

/-- The expected insertion of a STOW by STORE, of a MEASURE in STORING, and of a RETURN with its withdraw ended and PENDING. -/
theorem witness_ExpectedChange_insertion_owners :
    let put := fun (s : State) => after (.sensorInsertion 4) s
    let store := ((((quiet .service).has (tool 5 .passed .loose)).claimTool 5 (.slot 3)).requests
      (request 9 .store 4 (some 5) (.slot 3) .opened (some 3)) .opened).runs 3
        (.stow { tool := 5, movement := .store, request := 9, pocket := 4 })
    let home := { tool 5 .ready (.pocket 4) with home := some 4 }
    let back := put (comingBack .unconfirmed .opened .opened)
    let waits := put (comingBack .pending .opened .opened)
    (tool 5 .passed .loose).inTolerance = true ∧ (put store).findTool 5 = some home ∧
      ((put store).slot 3).context.bind (fun c => c.output.map (·.result)) =
        some ([1, 5, 0, 1, 9, 0, 4, 0] ++ (put store).toolAfter 5) ∧
      (put (moving .storing .store .opened .opened)).findTool 5 = some home ∧
      (put (moving .storing .returnPut .opened .opened)).findTool 5 = some (tool 5 .quarantine (.pocket 4)) ∧
      (put (moving .storing .store .opened .opened)).formedStatus 3 = some .ok ∧
      (back.slot 3).context.bind (fun c => c.output.map (·.result)) =
        some [3, 5, 0, 4, 9, 0, 0, 4, 0, 3, 9, 2, 0, 0, 2, 0, 0, 0, 7, 0, 4, 0] ∧
      back.findTool 5 = some (tool 5 .quarantine (.pocket 4)) ∧ waits.formedStatus 3 = none ∧
      waits.findTool 5 = back.findTool 5 := by decide +kernel

/-- A MEASURE in STORING whose tool was taken by force while its FETCH was queued: the insertion ends it STORED, the tool ASTRAY at
LOOSE, and the pocket names no tool (R6, R9). -/
theorem witness_ExpectedChange_insertion_astray :
    let put := fun (s : State) => after (.sensorInsertion 4)
      (s.modTool 5 fun y => { y with stateBefore := some .astray })
    let s := moving .storing .store .opened .opened
    let astray := tool 5 .astray .loose
    (put s).findTool 5 = some { astray with home := some 4 } ∧ (put s).formedStatus 3 = some .ok ∧
      (put s).pocket 4 = { (after (.sensorInsertion 4) s).pocket 4 with content := none } ∧
      ((after (.sensorInsertion 4) s).pocket 4).content = some 5 ∧
      (put (moving .storing .returnPut .opened .opened)).findTool 5 = some astray ∧
      ((put (moving .storing .returnPut .opened .opened)).pocket 4).content = none := by decide +kernel

/-- Sensor reports before the first scan, in SETUP, and in SERVICE with no request that expects them. -/
theorem witness_SensorsWithoutRequest :
    let blank := (quiet .setup).modCrib fun c => { c with scanDone := false }
    let early := blank.modCrib fun c => { c with early := [(511, .present)] }
    let setup := (quiet .setup).stocks 5 511
    let s := (quiet .service).stocks 5 511
    let empty := (quiet .service).modPocket 511 fun k => { k with sensor := .present }
    let t := after (.sensorRemoval 511) s
    let u := after (.sensorInsertion 511) (quiet .service)
    exec (.sensorInsertion 511) blank = .next early ∧ exec (.sensorRemoval 511) early =
        .next (blank.modCrib fun c => { c with early := [(511, .absent)] }) ∧
      exec (.sensorRemoval 0) s = .next s ∧ exec (.sensorInsertion 511) s = .next s ∧
      exec (.sensorRemoval 511) setup =
        .next (setup.modPocket 511 fun k => { k with sensor := .absent, stamp := 5 }) ∧
      exec (.sensorRemoval 511) empty = .next ((quiet .service).modPocket 511 fun k => { k with stamp := 5 }) ∧
      (t.pocket 511).fault = .forced ∧ (t.pocket 511).content = none ∧
      t.findTool 5 = some (tool 5 .astray .loose) ∧ t.reports.hold.map (·.code) = [1] ∧
      (u.pocket 511).fault = .unknownItem ∧ u.reports.hold.map (·.code) = [2] ∧
      exec (.sensorInsertion 511) (s.modPocket 511 fun k => { k with sensor := .absent }) =
        .next (s.modPocket 511 fun k => { k with stamp := 5 }) ∧
      exec (.firstScan (Vector.replicate 16 none)) s = .next s := by
  simp only [exec_next_iff]; decide +kernel

/-- The first scan: a module's word, a silent module, and a report that came earlier. -/
theorem witness_SensorsWithoutRequest_firstScan :
    let s := (quiet .setup).modCrib fun c => { c with scanDone := false, early := [(3, .absent)] }
    let t := after (.firstScan ((Vector.replicate 16 none).set 0 (some 0x8000000F))) s
    t.crib.scanDone = true ∧ t.crib.early = [] ∧
      (t.crib.pockets.toList.zipIdx.filter fun k => k.1.sensor == .present).map (·.2) = [0, 1, 2, 31] := by
  decide +kernel

/-! ## The presetter station -/

/-- A cycle for slot 3 in a state, one touch required. -/
def cycle (st : CycleState) : Cycle :=
  { state := st, owner := 3, seatTimer := none, touchTimer := none, seatLength := 120, touchLength := 60, touches := 1
    spreadLimit := 3 }

/-- That cycle under way, both axes HOMED, with these captures. -/
def State.cycling (st : CycleState) (z x : List Nat) (s : State) : State :=
  (s.homed.modPresetter fun p => { p with seated := st == .touch }).modPresetter fun p =>
    { p with
      z := { p.z with captures := z }, x := { p.x with captures := x }
      cycle := some (cycle st) }

/-- A CALIBRATE in slot 3 with its cycle. -/
def calibrating (st : CycleState) (z x : List Nat) : State := ((quiet .setup).cycling st z x).runs 3 (.calibrate 500 25)

/-- A MEASURE of tool 5 in slot 3, from PRESETTER or LOOSE, with its cycle. -/
def measuring (st : CycleState) (phase : MeasurePhase) (location : Location) : State :=
  (((((quiet .service).referenced 255).cycling st [2001] []).has (tool 5 .passed location)).claimTool 5 (.slot 3)).runs 3
    (.measure (newMeasure 5 location phase))

/-- A HOME of axis Z in slot 3. -/
def homingZ : State :=
  ((quiet .setup).modPresetter fun p => { p with z := { p.z with state := .homing, counter := 77 } }).runs 3
    (.home ⟨true, false⟩ .unhomed .unhomed 9)

/-- Steps within the range, over a soft limit in TOUCH, and out of the range with a reference; changes of both channels; the
index mark and the home window. -/
theorem witness_ScaleAndIndexMark :
    let s := (quiet .setup).homed.referenced 4
    let top := s.modPresetter fun p => { p with z := { p.z with counter := 1048575 } }
    let wrapped := after (.scaleStep .z .up) top
    let limit := (calibrating .touch [] []).modPresetter fun p => { p with z := { p.z with softLimit := 2001 } }
    let step := limit.modPresetter fun p => { p with z := { p.z with counter := 2001 } }
    let t := after (.indexMark .z) homingZ
    exec (.scaleStep .x .down) s = .next (s.modPresetter fun p => { p with x := { p.x with counter := 699 } }) ∧
      exec (.scaleStep .z .up) limit = .next (step.calibrateFailed (cycle .touch) .overtravel) ∧
      top.homesOf .z = [] ∧ wrapped.presetter.z = { top.presetter.z with counter := 0, state := .lost } ∧
      wrapped.presetter.reference = none ∧ wrapped.reports.hold.map (·.code) = [2] ∧
      exec (.scaleStep .z .both) (quiet .setup) = .next (quiet .setup) ∧
      ((after (.scaleStep .x .both) s).axis .x).state = .lost ∧ homingZ.homesOf .z = [3] ∧
      homingZ.working 3 (.home ⟨true, false⟩ .unhomed .unhomed 9) ∧
      (after (.scaleStep .z .both) homingZ).formedStatus 3 = some .axisLost ∧
      exec (.indexMark .z) s = .next s ∧ t.formedStatus 3 = some .ok ∧
      t.presetter.z = { AxisRec.reset with state := .homed } ∧
      (after (.homeWindowExpires 3) homingZ).formedStatus 3 = some .homeTimeout ∧
      ((after (.homeWindowExpires 3) homingZ).axis .z).state = .unhomed ∧ exec (.homeWindowExpires 3) s = .next s := by
  simp only [exec_next_iff, working_iff]; decide +kernel

/-- A cycle ended by its axis: a MEASURE over a soft limit, and a CALIBRATE by both channels, by a step over the top, and by a step
below 0 in TOUCH. -/
theorem witness_ScaleAndIndexMark_cycle :
    let at_ := fun z (s : State) => s.modPresetter fun p => { p with z := { p.z with counter := z } }
    let m := (measuring .touch .touching .presetter).modPresetter fun p => { p with z := { p.z with softLimit := 2001 } }
    let t := after (.scaleStep .z .up) m
    let ends := fun move (s : State) =>
      let u := after (.scaleStep .z move) s
      (u.formedStatus 3, u.presetter.cycle, u.presetter.z.state, u.presetter.z.counter)
    let c := calibrating .touch [7] []
    t.formedStatus 3 = some .overtravel ∧ t.findTool 5 = some (tool 5 .passed .presetter) ∧
      t.presetter.cycle = none ∧ (t.axis .z).state = .homed ∧ c.homesOf .z = [] ∧
      ends .both c = (some .axisLost, none, .lost, 2000) ∧ ends .both (calibrating .seat [] []) = (some .axisLost, none, .lost, 2000) ∧
      ends .up (at_ 1048575 c) = (some .axisLost, none, .lost, 0) ∧
      ends .down (at_ 0 c) = (some .axisLost, none, .lost, 1048575) := by decide +kernel

/-- The cycle of a MEASURE ended by its axis in each phase: by both channels, over the top and below 0; a FETCH request QUEUED and
OPEN. -/
theorem witness_ScaleAndIndexMark_measure :
    let at_ := fun z (s : State) => s.modPresetter fun p => { p with z := { p.z with counter := z } }
    let loses := fun move (s : State) =>
      let t := after (.scaleStep .z move) s
      (t.formedStatus 3, t.presetter.cycle, t.presetter.reference, (t.axis .z).state, t.reports.hold.map (·.kind))
    let lost := (some Status.axisLost, (none : Option Cycle), (none : Option Reference), AxisState.lost,
      [ReportKind.referenceLost])
    let touch := measuring .touch .touching .presetter
    let seat := measuring .seat .seating .loose
    let fetch := fun st lock => ((measuring .seat .fetching (.pocket 4)).requests
      (request 9 .fetch 4 none (.slot 3) st none) lock).setWork 3
        (.measure { newMeasure 5 (.pocket 4) .fetching with fetch := some 9 })
    let ends := fun st lock =>
      let t := after (.scaleStep .x .both) (fetch st lock)
      (t.formedStatus 3, t.crib.requests.map fun r => (r.state, r.outcome), (t.pocket 4).claim, (t.pocket 4).lock)
    touch.working 3 (.measure (newMeasure 5 .presetter .touching)) ∧ touch.homesOf .z = [] ∧
      loses .both touch = lost ∧ loses .both seat = lost ∧ loses .up (at_ 1048575 touch) = lost ∧
      loses .down (at_ 0 seat) = lost ∧
      (after (.scaleStep .z .both) touch).findTool 5 = some (tool 5 .passed .presetter) ∧
      (after (.scaleStep .z .both) (fetch .queued .locked)).findTool 5 = some (tool 5 .passed (.pocket 4)) ∧
      ends .queued .locked = (some .axisLost, [], none, .locked) ∧
      ends .opened .opened = (some .axisLost, [(.closing, some .cancelled)], some 9, .closing) := by
  simp only [working_iff]
  and_intros <;> decide +kernel

/-- A HOME of both waits on when another HOME has left its homed axis UNHOMED (log 53). -/
theorem test_home_waits_for_an_axis_unhomed_by_another :
    let s := ((homingZ.modPresetter fun p => { p with x := { p.x with state := .homing } }).runs 3
      (.home ⟨true, true⟩ .unhomed .unhomed 9)).runs 4 (.home ⟨true, false⟩ .homed .unhomed 9)
    let t := after (.indexMark .x) (after (.homeWindowExpires 4) s)
    let again := after (.indexMark .z) (t.modPresetter fun p => { p with z := { p.z with state := .homing } })
    (t.axis .z).state = .unhomed ∧ (t.axis .x).state = .homed ∧ t.formedStatus 3 = none ∧
      (after (.homeWindowExpires 3) t).formedStatus 3 = some .homeTimeout ∧ again.formedStatus 3 = some .ok := by
  decide +kernel

/-- The end of a HOME makes an axis UNHOMED that a second HOME made HOMING, and the second waits on (log 55). -/
theorem test_home_ends_with_an_axis_homing_for_another :
    let s := ((homingZ.modPresetter fun p => { p with x := { p.x with state := .homing } }).runs 3
      (.home ⟨true, true⟩ .unhomed .unhomed 9)).runs 4 (.home ⟨true, false⟩ .homed .unhomed 9)
    let t := after (.homeWindowExpires 3) s
    t.formedStatus 3 = some .homeTimeout ∧ (t.axis .z).state = .unhomed ∧ t.formedStatus 4 = none := by decide +kernel

/-- SEATED edges and windows with no cycle, with one of a CALIBRATE, and with one of a MEASURE in each phase. -/
theorem witness_SeatedEdgesAndWindows :
    let s := (quiet .service).has (tool 5 .passed .presetter)
    let seat := calibrating .seat [] []
    let touch := calibrating .touch [7] []
    let t := after .seatedRisingEdge seat
    let m := after .seatedRisingEdge (measuring .seat .seating .loose)
    let early := (measuring .seat .fetching (.pocket 4)).requests (request 9 .fetch 4 none (.slot 3) .queued none) .locked
    let early := early.setWork 3 (.measure { newMeasure 5 (.pocket 4) .fetching with fetch := some 9 })
    let e := after .seatedRisingEdge early
    let down := after .seatedFallingEdge (measuring .touch .touching .presetter)
    exec .seatedRisingEdge s = .next (s.modPresetter fun p => { p with seated := true }) ∧
      exec .seatWindowExpires s = .next s ∧ exec .touchWindowExpires s = .next s ∧
      exec .seatedFallingEdge s = .next ((quiet .service).has (tool 5 .passed .loose)) ∧
      seat.working 3 (.calibrate 500 25) ∧ t.cycleIn .touch = true ∧
      t.presetter.cycle.map (·.touchTimer) = some (some 60000) ∧ t.presetter.seated = true ∧
      (after .seatWindowExpires seat).formedStatus 3 = some .seatTimeout ∧
      (after .touchWindowExpires touch).formedStatus 3 = some .touchTimeout ∧
      (after .seatedFallingEdge touch).formedStatus 3 = some .seatLost ∧
      m.work 3 = .measure (newMeasure 5 .loose .touching) ∧ (m.findTool 5).map (·.location) = some .presetter ∧
      (after .seatWindowExpires (measuring .seat .seating .loose)).findTool 5 = some (tool 5 .passed .loose) ∧
      e.formedStatus 3 = some .stationOccupied ∧ e.presetter.cycle = none ∧ e.crib.requests = [] ∧
      down.formedStatus 3 = some .seatLost ∧ down.findTool 5 = some (tool 5 .passed .loose) := by
  simp only [exec_next_iff, working_iff]; decide +kernel

/-- A rising edge in SEAT with a counter at its soft limit, and the seat window of a MEASURE in FETCHING, its request QUEUED and
OPEN. -/
theorem witness_SeatedEdgesAndWindows_limits :
    let limit := fun (s : State) => s.modPresetter fun p => { p with z := { p.z with softLimit := 2000 } }
    let calibrate := after .seatedRisingEdge (limit (calibrating .seat [] []))
    let measure := after .seatedRisingEdge (limit (measuring .seat .seating .loose))
    let fetching := fun st lock => ((measuring .seat .fetching (.pocket 4)).requests
      (request 9 .fetch 4 none (.slot 3) st none) lock).setWork 3
        (.measure { newMeasure 5 (.pocket 4) .fetching with fetch := some 9 })
    let ends := fun st lock =>
      let t := after .seatWindowExpires (fetching st lock)
      (t.formedStatus 3, t.presetter.cycle, t.crib.requests.map (·.state), (t.pocket 4).lock, t.findTool 5)
    calibrate.formedStatus 3 = some .overtravel ∧ calibrate.presetter.cycle = none ∧ calibrate.presetter.seated = true ∧
      (calibrate.slot 3).context.bind (fun c => c.output.map (·.buffer)) =
        some (List.replicate 29 0 ++ calibrate.presetter.axes.bytes) ∧
      measure.formedStatus 3 = some .overtravel ∧ measure.presetter.cycle = none ∧
      measure.findTool 5 = some (tool 5 .passed .presetter) ∧
      ends .queued .locked = (some .seatTimeout, none, [], .locked, some (tool 5 .passed (.pocket 4))) ∧
      ends .opened .opened = (some .seatTimeout, none, [.closing], .closing, some (tool 5 .passed (.pocket 4))) := by
  dsimp only
  and_intros <;> decide +kernel

/-- A falling edge while SEATED is inactive makes a tool at PRESETTER LOOSE (log 56). -/
theorem test_falling_edge_repeated :
    exec .seatedFallingEdge ((quiet .service).has (tool 5 .passed .presetter)) =
      .next ((quiet .service).has (tool 5 .passed .loose)) := by
  simp only [exec_next_iff]; decide +kernel

/-- Touch edges that are ignored, that capture, and that complete a CALIBRATE with and without spread and a MEASURE. -/
theorem witness_TouchEdge :
    let s := calibrating .touch [] []
    let bounced := s.modPresetter fun p => { p with x := { p.x with bounce := some 1 } }
    let done := after (.touchEdge .x) (calibrating .touch [2001] [])
    let spread := (calibrating .touch [2000, 2004] [700]).modPresetter fun p =>
      { p with cycle := p.cycle.map fun c => { c with touches := 2 } }
    let t := after (.touchEdge .x) (measuring .touch .touching .presetter)
    meanOf [1, 2] 2 = 2 ∧ spreadOf [2000, 2004] = 4 ∧
      exec (.touchEdge .z) (quiet .setup) = .next (quiet .setup) ∧ exec (.touchEdge .x) bounced = .next bounced ∧
      exec (.touchEdge .z) s = .next (s.modPresetter fun p =>
        { p with z := { p.z with bounce := some 50, captures := [2000] } }) ∧
      done.formedStatus 3 = some .ok ∧ done.presetter.cycle = none ∧
      done.presetter.reference = some { refZ := 1501, refX := 675, generation := 1, uses := 0, stamp := 5 } ∧
      (after (.touchEdge .x) spread).formedStatus 3 = some .spread ∧
      (t.findTool 5).map (·.geometry) = some (some { length := 1001, radius := 50, stamp := 5, generation := 1 }) ∧
      (t.presetter.reference.map (·.uses)) = some 256 ∧ t.crib.requests.map (·.movement) = [.store] := by
  simp only [exec_next_iff]; decide +kernel

/-- CANCEL of the long orders: their ends, their requests removed or relocked, and what a CLOSING request leaves. -/
theorem witness_CancelOrder_work :
    let cancels := fun (s : State) => after (.cancel (image [0, 3])) (s.brings 0)
    let ends := fun (s : State) => ((cancels s).formedStatus 3, (cancels s).crib.requests.map (·.state))
    let plain := [0, 3, 0x10, 9, 0, 0, 0]
    let none_ := fun (s : State) => exec (.cancel (image [0, 3])) (s.brings 0) =
      .next ((s.brings 0).answered 0 0x14 (image [0, 3]) .ok plain [])
    let calibrate := fun st => ((quiet .service).cycling st [] []).runs 3 (.calibrate 500 25)
    let fetching := ((moving .fetching .fetch .queued .locked).cycling .seat [] [])
    let clearOut := fun st lock => ((quiet .service).requests (request 9 .clearOut 4 none (.slot 3) st none) lock).runs 3
      (.clearOut 4 9)
    (cancels (calibrate .touch)).formedStatus 3 = some .aborted ∧
      (cancels (calibrate .seat)).presetter.cycle = none ∧
      ((cancels (calibrate .seat)).slot 0).context.bind (fun c => c.output.map (·.result)) = some plain ∧
      (cancels (measuring .touch .touching .presetter)).formedStatus 3 = some .aborted ∧
      ends fetching = (some .aborted, []) ∧ (cancels fetching).presetter.cycle = none ∧
      none_ (moving .fetching .fetch .queued .locked) ∧
      ends (moving .storing .store .opened .opened) = (some .ok, [.closing]) ∧
      ends (stowing .queued .locked none) = (some .cancelled, []) ∧
      ends (stowing .opened .opened (some 3)) = (some .cancelled, [.closing]) ∧
      ends (removing .opening .opening none) = (some .cancelled, [.closing]) ∧
      ends (clearOut .queued .locked) = (some .cancelled, []) ∧
      ends (comingBack .unconfirmed .opening .opening) = (some .cancelled, [.closing]) ∧
      none_ (stowing .closing .closing none) := by
  simp only [exec_next_iff]; decide +kernel

/-- CANCEL of a RETURN with its withdraw queued and in flight, and of an issue before, in and after its pickup. -/
theorem witness_CancelOrder_link :
    let wd := (quiet .service).newExchange (.withdraw 0xFF 5 9) (.slot 3)
    let base := (comingBack .pending .opened .opened).modLink fun l => { l with state := .off }
    let back := fun e => after (.cancel (image [0, 3])) ((base.queues 2 e).brings 0)
    let flight := back { wd with step := .inFlight, buffer := some 2 }
    let off := (quiet .service).modLink fun l => { l with state := .off }
    let offer := off.newExchange (.dataOffer 0 5 9 1001 50 98 .minutes) (.issue 0)
    let cancels := fun (s : State) => after (.cancel (image [1, 0])) (s.brings 0)
    let issue := fun e => cancels (((off.enables 2 .good 0 0).issues5 (sampleIssue (.order 31) .offerWait)).runs 31 (.issue 0)
      |>.queues 2 e)
    let fails := fun (t : State) => (t.issueRec 0).issue.map fun x => (x.phase, x.offer, x.failure)
    (back wd).formedStatus 3 = some .cancelled ∧ (back wd).cell 2 = Cell.reset ∧
      flight.formedStatus 3 = none ∧ (flight.cell 2).queue.length = 1 ∧
      (issue offer).formedStatus 31 = some .cancelled ∧ fails (issue offer) = none ∧ ((issue offer).cell 2).queue = [] ∧
      fails (issue { offer with step := .deferred, acknowledged := true }) =
        some (.withdrawing, .unknown, some .cancelled) ∧
      ((issue { offer with step := .deferred, acknowledged := true }).cell 2).queue.map (·.payload) = [.withdraw 0 5 9] ∧
      fails (cancels (picking .unlockWait .queued .locked none)) = some (.withdrawing, .notTaken, some .cancelled) ∧
      (cancels (picking .unlockWait .queued .locked none)).crib.requests = [] ∧
      ((cancels (picking .pickup .opened .opened (some 3))).pocket 4).lock = .closing := by decide +kernel

/-! ## Frames from the cells -/

/-- A frame from the cell at an address to the part. -/
def cellFrame (source kind : Nat) (payload : List Byte) : LinkFrame :=
  { cls := 1, source := source, dest := 0, kind := kind, payload := payload }

/-- The check of the nine bytes 31h to 39h, and a frame read back from its line. -/
theorem test_check_and_round_trip :
    crc (payloadBits [0x31, 0x32, 0x33, 0x34, 0x35, 0x36, 0x37, 0x38, 0x39]) = 0x29B1#16 ∧
      parseLine (cellFrame 24 0x15 [0, 0, 0xFF, 0xFF]).line = some (cellFrame 24 0x15 [0, 0, 0xFF, 0xFF]) ∧
      parseLine (cellFrame 1 0x17 []).line = some (cellFrame 1 0x17 []) ∧
      parseLine (List.replicate 6 false) = none := by decide +kernel

/-- A frame that joins the queue, and one turned away for each reason. -/
theorem witness_FrameReceived :
    let s := (quiet .service).enables 23 .good 0 0
    let f := cellFrame 24 0x17 []
    let slot := fun driven (s : State) => s.modLink fun l => { l with slotDriven := driven }
    let drops := fun (f : LinkFrame) (s : State) => exec (.frameReceived f.line) (slot true s) = .next s
    let t := after (.frameReceived f.line) s
    let got : RxFrame := { source := 23, kind := 0x17, payload := [], stamp := 5 }
    parseLine f.line = some f ∧ exec (.frameReceived f.line) s = .next (slot true (s.modLink fun l => { l with rx := [got] })) ∧
      s.drivesLine = false ∧ t.drivesLine = true ∧ t.drivenLevels = [false] ∧
      exec (.frameReceived []) s = .next s ∧ drops (cellFrame 0 0x17 []) s ∧ drops (cellFrame 25 0x17 []) s ∧
      drops (cellFrame 1 0x17 []) s ∧ drops { f with dest := 31 } s ∧ drops { f with payload := [1] } s ∧
      drops { f with kind := 0x19 } s ∧ drops f (s.modLink fun l => { l with state := .off }) ∧
      drops (cellFrame 24 0x11 [1]) (s.enables 23 .cutOff 256 0) ∧
      drops f (s.modLink fun l => { l with rx := List.replicate 8 got }) ∧
      drops f ((quiet .setup).enables 23 .good 0 0) ∧
      drops (cellFrame 24 0x15 [0, 5, 0, 1]) (s.modReports fun r => { r with stalled := true }) := by
  simp only [exec_next_iff]; decide +kernel

/-- A right to everything for the cell at address 3. -/
def State.grants (s : State) : State :=
  let right : Right := { enabled := true, cells := 4, value := 0, mask := 0, perms := ⟨true, true, true⟩ }
  s.modLink fun l => { l with rights := l.rights.set 15 right }

/-- Each check of a request, a right, the choice by class, and a TOOL_REQUEST repeated, denied and accepted. -/
theorem witness_ToolRequest :
    let cellOn := (((quiet .service).enables 2 .good 0 0).grants.stocks 5 4).stocks 6 5
    let a : Ask := ⟨2, 240, .cell 7, none, 6⟩
    let byClass : Ask := ⟨2, 1, .cell 7, some 3, 0⟩
    let more := (cellOn.modTools fun l => l.map fun x => if x.number = 6 then { x with lifeUsed := 1 } else x)
    let s := cellOn.receives 2 0x10 [7, 0, 0, 6, 240]
    let t := after .toolRequest s
    let repeated := (cellOn.issues5 (sampleIssue (.cell 7) .pickup)).receives 2 0x10 [7, 0, 0, 6, 240]
    let denied := after .toolRequest (cellOn.receives 2 0x10 [7, 0, 0, 6, 241])
    let check := fun (s : State) (a : Ask) => s.acceptCheck a
    let one := cellOn.issues5 (sampleIssue (.cell 7) .pickup)
    check cellOn a = none ∧ check ((quiet .setup).enables 2 .good 0 0) a = some .notInService ∧
      check (quiet .service) a = some .cellDisabled ∧ check (cellOn.enables 2 .weak 96 0) a = some .cellWeak ∧
      check (cellOn.enables 2 .cutOff 256 0) a = some .cellCutOff ∧
      check ((quiet .service).enables 2 .good 0 0) a = some .noRight ∧ check cellOn { a with slot := 0 } = some .badSlot ∧
      check cellOn { a with slot := 241 } = some .badSlot ∧
      check (one.modCell 2 fun x => { x with issueLimit := 1 }) a = some .cellLimit ∧
      check one { a with slot := 9 } = some .slotPending ∧
      check (cellOn.has (tool 8 .out (.cell 2 240))) a = some .slotOccupied ∧
      check (cellOn.modIssues fun m =>
        { m with records := Vector.replicate 32 { generation := 0, issue := some (sampleIssue (.cell 7) .transit) } }) a =
          some .issueListFull ∧
      (cellOn.selectTool byClass).toOption = some 5 ∧ (more.selectTool byClass).toOption = some 6 ∧
      exec .toolRequest repeated = .next (repeated.modLink fun l => { l with rx := [] }) ∧
      denied.reports.hold.map (fun r => (r.kind, r.code, r.bit1)) = [(.requestDenied, 6, true)] ∧
      (t.issueRec 0).issue = some (newIssue a 6 5 5) ∧ (t.cell 2).queue.length = 1 ∧
      (t.findTool 6).map (·.claim) = some (some (.issue 0)) ∧ exec .mounted s = .next s := by
  simp only [exec_next_iff]; decide +kernel

/-- The tool by number and by class: unknown, claimed, not READY, not stocked, in a narrowed drawer, and none. -/
theorem witness_ToolRequest_select :
    let s := ((quiet .service).stocks 5 4).has (tool 6 .ready (.pocket 9))
    let number := fun (s : State) t => match s.selectByNumber t with | .ok t => (some t, none) | .error r => (none, some r)
    let byClass := fun (s : State) k => match s.selectByClass k with | .ok t => (some t, none) | .error r => (none, some r)
    let narrowed := s.modCrib fun c => { c with drawers := c.drawers.set 0 .returnOnly }
    s.issuable 4 = true ∧ s.issuable 9 = false ∧ number s 5 = (some 5, none) ∧ number s 7 = (none, some .unknownTool) ∧
      number (s.claimTool 5 (.slot 3)) 5 = (none, some .busy) ∧
      number (s.has (tool 7 .passed .loose)) 7 = (none, some .notReady) ∧ number s 6 = (none, some .notStocked) ∧
      number narrowed 5 = (none, some .notStocked) ∧ byClass s 3 = (some 5, none) ∧
      byClass s 0 = (none, some .noneReady) ∧ byClass s 4 = (none, some .noneReady) ∧
      byClass narrowed 3 = (none, some .noneReady) := by decide +kernel

/-- MOUNTED of an issue in TRANSIT, of an ASTRAY tool, repeated, and of nothing expected; a CANCEL frame of each outcome. -/
theorem witness_MountedAndCancelFrame :
    let s := (quiet .service).enables 2 .good 0 0
    let mounts := fun (s : State) => s.receives 2 0x14 [0, 5, 9]
    let cancels := fun (s : State) => s.receives 2 0x18 [0]
    let away := (s.issues5 (sampleIssue (.cell 1) .transit)).modTool 5 fun x => { x with location := .loose }
    let t := after .mounted (mounts away)
    let late := mounts (s.has { tool 5 .astray .loose with last := some (2, 9) })
    let again := mounts (s.has (tool 5 .out (.cell 2 9)))
    let offered := cancels ((s.issues5 (sampleIssue (.cell 1) .offerWait)).queues 2
      (flying s (.dataOffer 0 5 9 1001 50 98 .minutes) (.issue 0) none))
    let denied := fun (s : State) => (after .cancelFrame (cancels s)).reports.hold.map (·.code)
    (mounts away).handsOn 0x14 { source := 2, kind := 0x14, payload := [0, 5, 9], stamp := 4 } [] ∧
      t.issueRec 0 = { generation := 1, issue := none } ∧
      t.findTool 5 = some { tool 5 .out (.cell 2 9) with issueCount := 1 } ∧
      t.reports.hold.map (·.kind) = [.issueClosed] ∧ (after .mounted late).reports.hold.map (·.kind) = [.lateMount] ∧
      ((after .mounted late).findTool 5).map (·.state) = some .out ∧
      exec .mounted again = .next (again.modLink fun l => { l with rx := [] }) ∧
      (after .mounted (mounts s)).reports.hold.map (·.kind) = [.mountRejected] ∧ denied s = [0x11] ∧
      denied (s.issues5 (sampleIssue (.cell 1) .transit)) = [0x12] ∧
      denied (s.issues5 (sampleIssue (.cell 1) .withdrawing)) = [0x13] ∧
      exec .cancelFrame offered = .next ((offered.modLink fun l => { l with rx := [] }).modIssue 0 fun x =>
        { x with failure := some .cancelled, cancelPending := true }) := by
  simp only [exec_next_iff, State.handsOn]; decide +kernel

/-- A CANCEL frame for an offer that is not in flight, never acknowledged and acknowledged, and with a cancel pending. -/
theorem witness_MountedAndCancelFrame_offer :
    let off := ((quiet .service).enables 2 .good 0 0).modLink fun l => { l with state := .off }
    let offer := off.newExchange (.dataOffer 0 5 9 1001 50 98 .minutes) (.issue 0)
    let asks := fun origin e => ((off.issues5 (sampleIssue origin .offerWait)).queues 2 e).receives 2 0x18 [0]
    let t := after .cancelFrame (asks (.cell 1) offer)
    let ordered := (asks (.order 31) offer).runs 31 (.issue 0)
    let heard := after .cancelFrame (asks (.cell 1) { offer with acknowledged := true, deferrals := 3, step := .deferred })
    let pending := (off.issues5 { sampleIssue (.cell 1) .offerWait with cancelPending := true }).receives 2 0x18 [0]
    t.issueRec 0 = { generation := 1, issue := none } ∧ (t.cell 2).queue = [] ∧
      t.findTool 5 = some (tool 5 .ready (.pocket 4)) ∧
      t.reports.hold.map (fun r => (r.kind, r.code)) = [(.issueClosed, Status.cancelled.code)] ∧
      ordered.working 31 (.issue 0) ∧ (after .cancelFrame ordered).formedStatus 31 = some .cancelled ∧
      (after .cancelFrame ordered).reports.hold = [] ∧
      (heard.issueRec 0).issue = some
        { sampleIssue (.cell 1) .withdrawing with deferrals := 3, offer := .unknown, failure := some .cancelled } ∧
      (heard.cell 2).queue.map (fun e => (e.payload, e.owner)) = [(.withdraw 0 5 9, .issue 0)] ∧ heard.reports.hold = [] ∧
      exec .cancelFrame pending = .next (pending.modLink fun l => { l with rx := [] }) := by
  simp only [exec_next_iff, working_iff]; decide +kernel

/-- A CANCEL frame for an issue in UNLOCK_WAIT and PICKUP: its request QUEUED, OPENING and OPEN, and the WITHDRAW refused. -/
theorem witness_MountedAndCancelFrame_pickup :
    let cancel := fun phase st lock => after .cancelFrame ((picking phase st lock none).receives 2 0x18 [0])
    let shows := fun (t : State) => ((t.issueRec 0).issue.map fun x => (x.phase, x.request, x.failure),
      (t.cell 2).queue.map (·.payload), t.reports.hold.length)
    let withdrawing := (some (IssuePhase.withdrawing, (none : Option Nat), some Status.cancelled), [Payload.withdraw 0 5 9], 0)
    let request := fun (t : State) =>
      (t.crib.requests.map (fun r => (r.state, r.outcome)), (t.pocket 4).claim, (t.pocket 4).lock)
    let full := (picking .pickup .opened .opened none).modCell 2 fun x =>
      { x with queue := List.replicate 16 ((quiet .service).newExchange (.lifeEnd 8) .lifeHandler) }
    let closed := after .cancelFrame (full.receives 2 0x18 [0])
    shows (cancel .unlockWait .queued .locked) = withdrawing ∧ request (cancel .unlockWait .queued .locked) = ([], none, .locked) ∧
      shows (cancel .unlockWait .opening .opening) = withdrawing ∧
      request (cancel .unlockWait .opening .opening) = ([(.closing, some .cancelled)], some 9, .closing) ∧
      shows (cancel .pickup .opened .opened) = withdrawing ∧
      request (cancel .pickup .opened .opened) = ([(.closing, some .cancelled)], some 9, .closing) ∧
      closed.issueRec 0 = { generation := 1, issue := none } ∧ (closed.cell 2).queue = (full.cell 2).queue ∧
      request closed = ([(.closing, some .cancelled)], some 9, .closing) ∧
      closed.reports.hold.map (·.code) = [Status.cancelled.code] := by
  dsimp only
  and_intros <;> decide +kernel

/-- USAGE of 0, one that warns and ends, and one of a tool that is not there. -/
theorem witness_Usage :
    let s := ((quiet .service).enables 2 .good 0 0).has (tool 5 .out (.cell 2 9))
    let zero := s.receives 2 0x15 [0, 5, 0, 0]
    let ends := after .usage (s.receives 2 0x15 [0, 5, 0, 98])
    let most := after .usage (s.receives 2 0x15 [0, 5, 0xFF, 0xFF])
    let rejected := after .usage (s.receives 2 0x15 [0, 6, 0, 1])
    zero.handsOn 0x15 { source := 2, kind := 0x15, payload := [0, 5, 0, 0], stamp := 4 } [] ∧
      exec .usage zero = .next s ∧
      ends.findTool 5 = some { tool 5 .out (.cell 2 9) with lifeUsed := 100, warningSent := true, lifeEnded := true } ∧
      ends.reports.hold.map (·.kind) = [.lifeWarning, .lifeEnd] ∧
      (ends.cell 2).queue.map (·.payload) = [.lifeEnd 5] ∧ (most.findTool 5).map (·.lifeUsed) = some 65535 ∧
      rejected.tools = s.tools ∧ rejected.reports.hold.map (fun r => (r.kind, r.code)) = [(.usageRejected, 0x10)] := by
  simp only [exec_next_iff, State.handsOn]; decide +kernel

/-- RETURN_NOTICE repeated, denied for each reason, and accepted from OUT and from ASTRAY. -/
theorem witness_ReturnNotice :
    let s := ((quiet .service).enables 2 .good 0 0).grants
    let notice := fun (s : State) => s.receives 2 0x16 [0, 5, 0, 98]
    let back := notice (s.has { tool 5 .returning .loose with last := some (2, 9) })
    let out := after .returnNotice (notice (s.has (tool 5 .out (.cell 2 9))))
    let astray := after .returnNotice (notice (s.has { tool 5 .astray .loose with last := some (2, 9) }))
    let denied := fun (s : State) => (after .returnNotice (notice s)).reports.hold.map fun r => (r.kind, r.code)
    back.handsOn 0x16 { source := 2, kind := 0x16, payload := [0, 5, 0, 98], stamp := 4 } [] ∧
      exec .returnNotice back = .next (back.modLink fun l => { l with rx := [] }) ∧
      denied ((quiet .service).enables 2 .good 0 0) = [(.requestDenied, 5)] ∧ denied s = [(.requestDenied, 0x0B)] ∧
      denied (s.has (tool 5 .out (.cell 3 9))) = [(.requestDenied, 0x10)] ∧
      out.findTool 5 = some { tool 5 .returning .loose with
        last := some (2, 9), lifeUsed := 100, warningSent := true, lifeEnded := true } ∧
      out.reports.hold.map (·.kind) = [.lifeWarning, .lifeEnd, .returnNoted] ∧
      (astray.findTool 5).map (fun x => (x.state, x.issueCount)) = some (.returning, 1) := by
  simp only [exec_next_iff, State.handsOn]; decide +kernel

/-- Answers that match nothing. -/
theorem witness_AnswersMatched_unmatched :
    let s := (quiet .service).enables 2 .good 0 0
    let ignored := fun c (s : State) => exec c s = .next (s.modLink fun l => { l with rx := [] })
    ignored .dataTaken (s.receives 2 0x11 [0]) ∧ ignored .dataRefused (s.receives 2 0x12 [0, 3]) ∧
      ignored .withdrawn (s.receives 2 0x13 [0, 0, 5]) ∧ ignored .present (s.receives 2 0x17 []) ∧
      exec .present s = .next s := by
  simp only [exec_next_iff]; decide +kernel

/-- Each answer to an offer, to the WITHDRAW of an issue and of a RETURN, and to a POLL. -/
theorem witness_AnswersMatched :
    let s := (quiet .service).enables 2 .good 8 0
    let offer := fun n => ((s.issues5 (sampleIssue (.cell 1) .offerWait)).queues 2
      { flying s (.dataOffer 0 5 9 1001 50 98 .minutes) (.issue 0) (some 3) with deferrals := n })
    let taken := after .dataTaken ((offer 0).receives 2 0x11 [0])
    let deferred := after .dataRefused ((offer 7).receives 2 0x12 [0, 3])
    let refused := after .dataRefused ((offer 8).receives 2 0x12 [0, 3])
    let jammed := { sampleIssue (.cell 1) .withdrawing with failure := some .lockJam }
    let gone := after .withdrawn (((s.issues5 jammed).queues 2
      (flying s (.withdraw 0 5 9) (.issue 0) (some 3))).receives 2 0x13 [0, 0, 0])
    let r : ReturnCtx := { movedReturn with outcome := none, withdrawTo := some (2, 9) }
    let back := after .withdrawn (((s.runs 3 (.returning r)).queues 2
      (flying s (.withdraw 0xFF 5 9) (.slot 3) (some 3))).receives 2 0x13 [0xFF, 0, 5])
    let polled := fun st faults answers => after .present (((quiet .service).enables 2 st faults answers |>.queues 2
      (flying s .poll .link (some 3))).receives 2 0x17 [])
    let counts := fun (s : State) => ((s.cell 2).standing, (s.cell 2).faultCount, (s.cell 2).answers)
    ((taken.issueRec 0).issue.map fun x => (x.phase, x.offer, x.request)) = some (.unlockWait, .taken, some 1) ∧
      (taken.pocket 4).lock = .opening ∧ (taken.cell 2).faultCount = 7 ∧
      (deferred.cell 2).queue.map (fun e => (e.step, e.deferrals, e.deferralTimer)) = [(.deferred, 8, some 2000)] ∧
      (refused.issueRec 0).issue = none ∧ refused.crib.same (offer 8).crib = true ∧ (gone.issueRec 0).issue = none ∧
      back.work 3 = .returning { r with tries := 1, acknowledged := true, withdraw := .confirmed } ∧
      counts (polled .cutOff 256 15) = (.good, 0, 0) ∧ counts (polled .cutOff 256 14) = (.cutOff, 256, 15) ∧
      counts (polled .weak 64 16) = (.good, 63, 16) := by decide +kernel

/-- The fault count after each answer, offers that cannot be picked up or are cancelled, and the standing of a WEAK cell. -/
theorem witness_AnswersMatched_counts :
    let s := (quiet .service).enables 2 .good 8 0
    let offer := fun n pending => ((s.issues5 { sampleIssue (.cell 1) .offerWait with cancelPending := pending }).queues 2
      { flying s (.dataOffer 0 5 9 1001 50 98 .minutes) (.issue 0) (some 3) with deferrals := n })
    let count := fun (t : State) => (t.cell 2).faultCount
    let fails := fun (t : State) => ((t.issueRec 0).issue.map fun x => (x.phase, x.offer, x.failure), count t)
    let takes := fun (s : State) => fails (after .dataTaken (s.receives 2 0x11 [0]))
    let wd := fun (x : State) => count (after .withdrawn x)
    let polled := fun st faults answers => after .present (((quiet .service).enables 2 st faults answers |>.queues 2
      (flying s .poll .link (some 3))).receives 2 0x17 [])
    let view := fun (t : State) => ((t.cell 2).standing, count t, t.reports.hold.map fun r => (r.cell, r.code))
    takes (offer 0 true) = (some (.withdrawing, .taken, some .cancelled), 7) ∧
      takes ((offer 0 false).modCrib fun c => { c with drawers := c.drawers.set 0 .closed }) =
        (some (.withdrawing, .taken, some .drawerClosed), 7) ∧
      takes ((offer 0 false).modPocket 4 fun k => { k with sensor := .absent }) =
        (some (.withdrawing, .taken, some .notStocked), 7) ∧
      takes ((offer 0 false).modPocket 4 fun k => { k with claim := some 3 }) =
        (some (.withdrawing, .taken, some .notStocked), 7) ∧
      takes (offer 0 false).crowded = (some (.withdrawing, .taken, some .cribBusy), 7) ∧
      fails (after .dataRefused ((offer 7 true).receives 2 0x12 [0, 3])) =
        (some (.withdrawing, .unknown, some .cancelled), 7) ∧
      count (after .dataRefused ((offer 7 false).receives 2 0x12 [0, 3])) = 7 ∧
      count (after .dataRefused ((offer 8 false).receives 2 0x12 [0, 3])) = 7 ∧
      count (after .dataRefused ((offer 0 false).receives 2 0x12 [0, 1])) = 7 ∧
      wd (((s.issues5 (sampleIssue (.cell 1) .withdrawing)).queues 2
        (flying s (.withdraw 0 5 9) (.issue 0) (some 3))).receives 2 0x13 [0, 0, 0]) = 7 ∧
      (after .withdrawn (((s.runs 3 (.returning { movedReturn with withdrawTo := some (2, 9) })).queues 2
        (flying s (.withdraw 0xFF 5 9) (.slot 3) (some 3))).receives 2 0x13 [0xFF, 0, 5])).formedStatus 3 = some .ok ∧
      view (polled .weak 65 0) = (.weak, 64, []) ∧ view (polled .weak 64 0) = (.good, 63, [(3, 2)]) ∧
      view (polled .cutOff 256 15) = (.good, 0, [(3, 3)]) ∧ view (polled .good 96 0) = (.good, 95, []) := by
  dsimp only
  and_intros <;> decide +kernel

/-! ## The part's own frames and its timers -/

/-- An issue's offer in flight for the cell at address 3 with this answer window, its try this one of four. -/
def offering (faults : Nat) (used : Nat) (acked : Bool) (window : Option Nat) : State :=
  (((quiet .service).enables 2 .good faults 0).issues5 (sampleIssue (.cell 1) .offerWait)).queues 2
    { flying (quiet .service) (.dataOffer 0 5 9 1001 50 98 .minutes) (.issue 0) window with
      triesUsed := used, acknowledged := acked }

/-- An attempt begun and not begun, arbitration lost with and without an issue, faults below and above the limit, recovery. -/
theorem witness_TransmitAttempts :
    let s := offering 0 1 false none
    let off := (quiet .service).modLink fun l => { l with state := .off, errors := 256, idle := 127 }
    let early := off.modLink fun l => { l with idle := 126 }
    let deny := { offerAttempt with exchange := some (2, .issueManager) }
    let fatal := after .transmitFault ((s.attempts offerAttempt).modLink fun l => { l with errors := 248 })
    let back := after .idleRecovery off
    let idle := fun (s : State) => exec .transmitAttempt s = .next s
    s.readyFrames = [offerAttempt] ∧ exec .transmitAttempt s = .next (s.attempts offerAttempt) ∧
      idle (quiet .service) ∧ idle off ∧ idle (s.attempts offerAttempt) ∧
      exec .lostArbitration s = .next s ∧ exec .transmitFault s = .next s ∧ s.openIndex 0 = some 0 ∧
      exec .lostArbitration (s.attempts offerAttempt) = .next (s.modIssue 0 fun x => { x with losses := 1 }) ∧
      exec .lostArbitration (s.attempts deny) = .next s ∧
      exec .transmitFault (s.attempts offerAttempt) = .next (s.modLink fun l => { l with errors := 8 }) ∧
      fatal.link.state = .off ∧ fatal.link.errors = 256 ∧ fatal.link.attempt = none ∧
      (fatal.cell 2).queue.map (fun e => (e.step, e.buffer, e.resumes)) = [(.queued, none, true)] ∧
      exec .idleRecovery early = .next off ∧
      (let again := after .idleRecovery (fatal.modLink fun l => { l with idle := 127 });
        (again.cell 2).queue.map (fun e => (e.step, e.triesUsed, e.resumes)) = [(.inFlight, 1, false)]) ∧
      fatal.reports.hold.map (·.code) = [1] ∧ exec .idleRecovery s = .next s ∧ back.link.state = .active ∧
      back.link.errors = 0 ∧ back.reports.hold.map (·.code) = [2] := by
  simp only [exec_next_iff]; decide +kernel

/-- A QUEUED exchange of a class with this stamp. -/
def waiting (p : Payload) (stamp : Stamp) : Exchange := { (quiet .service).newExchange p .issueManager with stamp := stamp }

/-- Queue places and refusals; grants by class, by oldest last grant, by address, of a POLL, with every buffer busy, and OFF. -/
theorem witness_TransmitAttempts_grants :
    let deny : Payload := .deny .tool 5 .noIssue
    let life : Payload := .lifeEnd 5
    let q := fun c p (s : State) => s.queues c (waiting p 1)
    let base := (quiet .service).modLink fun l => { l with state := .off }
    let two := q 3 deny (q 2 deny base)
    let older := (two.modCell 2 fun x => { x with lastGrant := 4 }).modCell 3 fun x => { x with lastGrant := 3 }
    let flight := fun (s : State) => (List.finRange 24).filterMap fun c => ((s.cell c).inFlight.map fun e => (c.val, e.buffer))
    let busy := (List.range 8).foldl (fun s b => s.queues (Fin.ofNat 24 b) { waiting life 1 with step := .inFlight, buffer := some b })
      (quiet .service)
    let full := base.modCell 2 fun x => { x with queue := List.replicate 16 (waiting life 1) }
    let cut := base.enables 2 .cutOff 256 0
    let placed := (base.queues 2 (waiting life 1) |>.queues 2 (waiting .poll 1)).queueExchange 2 deny .issueManager
    let polls := (base.queues 5 (waiting .poll 2)).queues 4 (waiting .poll 3)
    flight two.grantOne = [(2, some 2)] ∧ flight older.grantOne = [(3, some 2)] ∧ (older.grantOne.cell 3).lastGrant = 5 ∧
      flight (q 9 life two).grantOne = [(9, some 2)] ∧ flight (two.attempts { offerAttempt with buffer := 2 }).grantOne = [(2, some 3)] ∧
      flight two.grantOne.grantOne = [(2, some 2), (3, some 3)] ∧ flight (q 2 deny (q 2 deny base)).grantOne.grantOne = [(2, some 2)] ∧
      flight polls.grantPoll = [(5, some 1)] ∧ flight polls.grantOne = [] ∧ flight two.grantPoll = [] ∧
      flight (q 20 deny busy).grantBuffers = flight busy ∧ flight two.grantBuffers = [] ∧
      (full.queueExchange 2 .poll .link).2 = some .queueFull ∧ (cut.queueExchange 2 deny .issueManager).2 = some .cutOff ∧
      (cut.queueExchange 2 .poll .link).2 = none ∧ placed.2 = none ∧
      (placed.1.cell 2).queue.map (·.payload) = [life, deny, .poll] := by decide +kernel

/-- The end of an attempt of buffer 0 and of one whose exchange has left, lost, faulted and sent. -/
theorem witness_TransmitAttempts_detached :
    let s := (quiet .service).queues 2 (waiting (.lifeEnd 5) 1)
    let cast : Attempt := { buffer := 0, frame := (CribState.frame ⟨.service, 0⟩), exchange := none, attached := true }
    let gone := s.attempts { offerAttempt with attached := false, exchange := some (2, .lifeHandler) }
    let zero := ((quiet .service).attempts cast).modLink fun l =>
      { l with buffer0 := some ⟨.service, 0⟩, next0 := some ⟨.setup, 0⟩ }
    let held := fun (t : State) errors =>
      (t.cell 2).queue.map (·.buffer) = [some 2] ∧ t.link.attempt = none ∧ t.link.errors = errors
    held (after .lostArbitration gone) 0 ∧ held (after .transmitFault gone) 8 ∧ held (after (.frameSent false) gone) 0 ∧
      exec .lostArbitration zero =
        .next (zero.modLink fun l => { l with attempt := none, buffer0 := some ⟨.setup, 0⟩, next0 := none }) ∧
      exec .transmitFault zero = .next (zero.modLink fun l =>
        { l with attempt := none, buffer0 := some ⟨.setup, 0⟩, next0 := none, errors := 8 }) := by
  simp only [exec_next_iff]; decide +kernel

/-- A failed try at each border of the standing, with CELL_STANDING where it changes. -/
theorem witness_FrameSentAndAnswerWindow_standing :
    let fails := fun st faults =>
      let t := after (.answerWindowExpires 2) ((offering faults 1 true (some 1)).enables 2 st faults 7)
      ((t.cell 2).standing, (t.cell 2).faultCount, (t.cell 2).answers, t.reports.hold.map fun r => (r.cell, r.code, r.detail))
    fails .good 87 = (.good, 95, 7, []) ∧ fails .good 88 = (.weak, 96, 7, [(3, 1, .plain [0, 1, 96, 0, 7])]) ∧
      fails .weak 56 = (.weak, 64, 7, []) ∧ fails .weak 247 = (.weak, 255, 7, []) ∧ fails .cutOff 256 = (.cutOff, 256, 7, []) := by
  dsimp only
  and_intros <;> decide +kernel

/-- A broadcast sent, an offer and a LIFE_END acknowledged, and answer windows with none to expire. -/
theorem witness_FrameSentAndAnswerWindow_sent :
    let s := offering 0 1 false none
    let cast : Attempt :=
      { buffer := 0, frame := (CribState.frame ⟨.service, 0⟩), exchange := none, attached := true }
    let sent := ((quiet .service).attempts cast).modLink fun l =>
      { l with errors := 3, buffer0 := some ⟨.service, 0⟩, next0 := some ⟨.setup, 0⟩ }
    let t := after (.frameSent true) (s.attempts offerAttempt)
    let life := (((quiet .service).enables 2 .good 8 0).queues 2
      (flying (quiet .service) (.lifeEnd 5) .lifeHandler none)).attempts
        { offerAttempt with exchange := some (2, .lifeHandler) }
    let u := after (.frameSent true) life
    exec (.frameSent true) s = .next s ∧ exec (.answerWindowExpires 2) s = .next s ∧
      exec (.frameSent false) sent = .next (sent.modLink fun l =>
        { l with errors := 2, attempt := none, buffer0 := some ⟨.setup, 0⟩, next0 := none }) ∧
      (t.cell 2).queue.map (fun e => (e.acknowledged, e.window)) = [(true, some 100)] ∧ t.link.attempt = none ∧
      (u.cell 2).queue = [] ∧ (u.cell 2).faultCount = 7 := by
  simp only [exec_next_iff]; decide +kernel

/-- Failed tries: the next try, the last one unacknowledged and acknowledged, and the one that cuts the cell off. -/
theorem witness_FrameSentAndAnswerWindow :
    let retry := after (.answerWindowExpires 2) (offering 0 3 true (some 1))
    let noAck := after (.frameSent false) ((offering 0 4 false none).attempts offerAttempt)
    let noAnswer := after (.answerWindowExpires 2) (offering 0 4 true (some 1))
    let cut := after (.answerWindowExpires 2) (offering 248 1 true (some 1))
    let pick := (picking .pickup .opened .opened (some 3)).enables 2 .good 255 0
    let poll := after (.answerWindowExpires 2) (pick.queues 2 (flying pick .poll .link (some 1)))
    (retry.cell 2).queue.map (fun e => (e.triesUsed, e.window)) = [(4, none)] ∧ (retry.cell 2).faultCount = 8 ∧
      (noAck.issueRec 0).issue = none ∧ (noAck.cell 2).queue = [] ∧
      ((noAnswer.issueRec 0).issue.map fun x => (x.phase, x.offer, x.failure)) =
        some (.withdrawing, .unknown, some .noAnswer) ∧
      (cut.cell 2).standing = .cutOff ∧ (cut.cell 2).faultCount = 256 ∧ (cut.cell 2).queue = [] ∧
      (cut.issueRec 0).issue = none ∧ (poll.cell 2).standing = .cutOff ∧ (poll.issueRec 0).issue = none ∧
      (poll.cell 2).queue.map (·.payload) = [.poll] ∧ (poll.pocket 4).lock = .closing := by decide +kernel

/-- The last try of a WITHDRAW, of an issue and of a RETURN before and after its movement, and of an offer with a cancel pending. -/
theorem witness_FrameSentAndAnswerWindow_lastTry :
    let last := fun p owner acked (s : State) => after (.answerWindowExpires 2) ((s.enables 2 .good 87 7).queues 2
      { flying (quiet .service) p owner (some 1) with triesUsed := 4, acknowledged := acked })
    let x := fun origin => { sampleIssue origin .withdrawing with offer := .taken, failure := some .pickupTimeout }
    let closes := fun (s : State) => last (.withdraw 0 5 9) (.issue 0) true s
    let t := closes ((quiet .service).issues5 (x (.cell 1)))
    let u := closes (((quiet .service).issues5 (x (.order 31))).runs 31 (.issue 0))
    let back := last (.withdraw 255 5 9) (.slot 3) true
    let pending := last (.dataOffer 0 5 9 1001 50 98 .minutes) (.issue 0) false
      (((quiet .service).issues5 { sampleIssue (.order 31) .offerWait with
        cancelPending := true, failure := some .cancelled }).runs 31 (.issue 0))
    t.issueRec 0 = { generation := 1, issue := none } ∧ (t.cell 2).queue = [] ∧ (t.cell 2).faultCount = 95 ∧
      t.reports.hold.map (fun r => (r.kind, r.code)) = [(.issueClosed, Status.pickupTimeout.code)] ∧
      (u.slot 31).context.bind (·.output) = some
        { status := .pickupTimeout, stamp := 5, buffer := []
          result := u.issueResult 0 { x (.order 31) with withdraw := .unconfirmed, closed := some 5 } } ∧
      ((back (comingBack .pending .opened .opened)).work 3 = .returning
        { tool := 5, stateBefore := .out, request := 9, pocket := 4, opened := false, outcome := none
          withdrawTo := some (2, 9), withdraw := .unconfirmed, tries := 4, acknowledged := true, released := none }) ∧
      (back ((quiet .service).runs 3 (.returning movedReturn))).formedStatus 3 = some .ok ∧
      pending.formedStatus 31 = some .cancelled ∧ (pending.issueRec 0).issue = none := by
  dsimp only
  and_intros <;> decide +kernel

/-- What a cut-off drops, for each owner: an offer, acknowledged and not, the WITHDRAW of an issue with its failure result, and of a
RETURN before and after its movement, a LIFE_END and a DENY. -/
theorem witness_FrameSentAndAnswerWindow_dropped :
    let drop := fun (s : State) p owner acked => s.exchangeEnded 2
      { flying (quiet .service) p owner (some 1) with acknowledged := acked, triesUsed := 3, deferrals := 1 }
      (.dropped .cutOff)
    let issue := fun origin phase failure => ((quiet .service).issues5
      { sampleIssue origin phase with failure := failure }).runs 31 (.issue 0)
    let offer := drop (issue (.cell 7) .offerWait none) (.dataOffer 0 5 9 1001 50 98 .minutes) (.issue 0)
    let wd := drop (issue (.order 31) .withdrawing (some .lockJam)) (.withdraw 0 5 9) (.issue 0) true
    let report := fun acked => (State.issueClosedReport (offer acked) 0
      { sampleIssue (.cell 7) .offerWait with
        tries := 3, deferrals := 1, offer := if acked then .unknown else .notTaken
        withdraw := if acked then .unconfirmed else .notSent, failure := some .cellCutOff, closed := some 5 }
      7 .cellCutOff)
    (offer true).reports.hold = [{ report true with stamp := 5 }] ∧
      (offer false).reports.hold = [{ report false with stamp := 5 }] ∧
      (offer false).issueRec 0 = { generation := 1, issue := none } ∧
      (offer false).findTool 5 = some (tool 5 .ready (.pocket 4)) ∧
      (wd.slot 31).context.bind (·.output) = some
        { status := .lockJam, stamp := 5, buffer := []
          result := wd.issueResult 0 { sampleIssue (.order 31) .withdrawing with
            withdraw := .unconfirmed, failure := some .lockJam, closed := some 5 } } ∧
      (drop ((quiet .service).runs 3 (.returning movedReturn)) (.withdraw 255 5 9) (.slot 3) true).formedStatus 3 =
        some .ok ∧
      (drop (comingBack .pending .opened .opened) (.withdraw 255 5 9) (.slot 3) true).formedStatus 3 = none ∧
      (drop (quiet .service) (.lifeEnd 5) .lifeHandler true).reports.hold = [{ Report.blank .lifeEndUndelivered with
        cell := 3, tool := 5, code := 2, stamp := 5, detail := .plain [3] }] ∧
      (drop (quiet .service) (.deny .tool 5 .noIssue) .issueManager true).reports.hold = [] := by
  dsimp only
  and_intros <;> decide +kernel

/-- The fall of a cell with an issue in UNLOCK_WAIT and one in TRANSIT: CELL_STANDING, then the close. -/
theorem witness_FrameSentAndAnswerWindow_cutOff :
    let base := ((picking .unlockWait .queued .locked none).enables 2 .weak 248 7).modIssues fun m =>
      { m with records := m.records.set 31 { generation := 6, issue := some (sampleIssue (.cell 1) .transit) } }
    let t := after (.answerWindowExpires 2) (base.queues 2 (flying base (.lifeEnd 8) .lifeHandler (some 1)))
    t.reports.hold.map (fun r => [r.kind.code, r.cell, r.code]) =
        [[0x0B, 3, 1], [0x09, 3, 2], [0x02, 3, Status.cellCutOff.code]] ∧
      t.reports.hold.head?.map (·.detail) = some (.plain [1, 2, 0, 1, 0]) ∧
      t.issueRec 0 = { generation := 1, issue := none } ∧
      (t.issueRec 31).issue = some (sampleIssue (.cell 1) .transit) ∧ t.crib.requests = [] ∧
      (t.cell 2).queue = [] ∧ (t.cell 2).standing = .cutOff := by
  dsimp only
  and_intros <;> decide +kernel

/-- The last try of an exchange without an owner that waits for it, at this fault count. -/
def lastTry (p : Payload) (faults : Nat) : State :=
  after (.frameSent false) ((((quiet .service).enables 2 .good faults 7).queues 2
    { flying (quiet .service) p .lifeHandler none with triesUsed := 4 }).attempts
      { offerAttempt with exchange := some (2, .lifeHandler) })

/-- The last try of a LIFE_END, below and at the border of WEAK, of a DENY and of a POLL. -/
theorem witness_FrameSentAndAnswerWindow_lastTry_handler :
    let cell := fun (t : State) => [(t.cell 2).queue.length, (t.cell 2).faultCount, (t.cell 2).answers]
    let codes := fun (t : State) => t.reports.hold.map fun r => [r.kind.code, r.cell, r.tool, r.code]
    cell (lastTry (.lifeEnd 5) 87) = [0, 95, 7] ∧
      (lastTry (.lifeEnd 5) 87).reports.hold = [{ Report.blank .lifeEndUndelivered with
        cell := 3, tool := 5, code := 3, stamp := 5, detail := .plain [4] }] ∧
      cell (lastTry (.lifeEnd 5) 88) = [0, 96, 7] ∧
      codes (lastTry (.lifeEnd 5) 88) =
        [[ReportKind.cellStanding.code, 3, 0, 1], [ReportKind.lifeEndUndelivered.code, 3, 5, 3]] ∧
      cell (lastTry (.deny .tool 5 .noIssue) 0) = [0, 8, 7] ∧ codes (lastTry (.deny .tool 5 .noIssue) 0) = [] ∧
      cell (lastTry .poll 0) = [0, 8, 0] ∧ codes (lastTry .poll 0) = [] := by decide +kernel

/-- Every timer running and not running; a poll for the cell after the pointer; a deferred offer; a tool lost on its way. -/
theorem witness_TimersExpire :
    let s := (quiet .service).enables 23 .good 0 0
    let stalled := s.modReports fun r => { r with stalled := true }
    let holding := stalled.modLink fun l => { l with holdTimer := some 1, broadcastTimer := none }
    let polling := s.modLink fun l => { l with pollTimer := some 1, pollPointer := 23 }
    let t := after .pollTimerExpires polling
    let offer := { s.newExchange (.dataOffer 0 5 9 1001 50 98 .minutes) (.issue 0) with
      step := .deferred, deferralTimer := some 1, stamp := 1 }
    let off := (s.queues 2 offer).modLink fun l => { l with state := .off }
    let astray := after (.transitWindowExpires 0) ((s.issues5 (sampleIssue (.order 31) .transit)).runs 31 (.issue 0))
    exec .broadcastTimerExpires s = .next (s.modLink fun l => { l with buffer0 := some ⟨.service, 0⟩ }) ∧
      exec .broadcastTimerExpires stalled = .next stalled ∧ exec .holdTimerExpires s = .next s ∧
      exec .broadcastTimerExpires (s.modLink fun l => { l with broadcastTimer := none }) =
        .next (s.modLink fun l => { l with broadcastTimer := none }) ∧
      exec .holdTimerExpires holding = .next (holding.modLink fun l =>
        { l with buffer0 := some ⟨.service, 500⟩, holdTimer := some 500 }) ∧
      exec .pollTimerExpires s = .next s ∧ t.link.pollTimer = some 250 ∧ t.link.pollPointer = 23 ∧
      (t.cell 23).queue.map (fun e => (e.payload, e.buffer)) = [(.poll, some 1)] ∧
      exec (.deferralTimerExpires 0) s = .next s ∧
      exec (.deferralTimerExpires 0) off = .next (off.modCell 2 fun x =>
        { x with queue := [{ offer with step := .queued, stamp := 5, deferralTimer := none }] }) ∧
      exec (.transitWindowExpires 254) s = .next s ∧ (astray.issueRec 0).issue = none ∧
      astray.findTool 5 = some (tool 5 .astray .loose) ∧ astray.formedStatus 31 = some .astray := by
  simp only [exec_next_iff]; decide +kernel

/-- A deferral that expires: behind its class and before the POLL while OFF, behind an exchange in flight, and granted at once the
lowest empty buffer. -/
theorem witness_TimersExpire_deferral :
    let p : Payload := .dataOffer 0 5 9 1001 50 98 .minutes
    let other : Payload := .dataOffer 8 6 9 1001 50 98 .minutes
    let d := { waiting p 1 with owner := .issue 0, step := .deferred, deferralTimer := some 0, triesUsed := 3, deferrals := 8 }
    let base := (quiet .service).queues 2 d
    let off := ((base.queues 2 (waiting other 1)).queues 2 (waiting .poll 1)).modLink fun l => { l with state := .off }
    let flight := base.queues 2 (flying base (.lifeEnd 7) .lifeHandler none)
    let expires := fun (s : State) => after (.deferralTimerExpires 0) s
    let granted := fun b => { d with
      step := .inFlight, stamp := 5, deferralTimer := none, buffer := some b, triesUsed := 4 }
    (expires off).cell 2 = { off.cell 2 with queue := [waiting other 1,
        { d with step := .queued, stamp := 5, deferralTimer := none }, waiting .poll 1] } ∧
      ((expires flight).cell 2).queue.map (·.step) = [.inFlight, .queued] ∧
      exec (.deferralTimerExpires 0) base =
        .next ((quiet .service).modCell 2 fun x => { x with queue := [granted 2], lastGrant := 5 }) ∧
      exec (.deferralTimerExpires 0) (base.attempts offerAttempt) =
        .next (((quiet .service).attempts offerAttempt).modCell 2 fun x =>
          { x with queue := [granted 3], lastGrant := 5 }) := by
  simp only [exec_next_iff]; decide +kernel

/-! ## Reports, and the laws of every step -/

/-- A report at 10, at 11, at 15 and at 16 entries, with a plain and with a MERGED last entry. -/
theorem witness_ReportHandedOver :
    let s := quiet .service
    let holds := fun n (last : List Report) => s.modReports fun w => { w with hold := List.replicate n entry ++ last }
    let merged : Report :=
      { Report.blank .merged with count := 65535, held := true, detail := .merged 0x1000 1 }
    let handed := fun n => (holds n []).handReport entry
    let full := ((holds 16 []).handReport entry).reports.hold
    let more := ((holds 15 [merged]).handReport entry).reports.hold
    ((handed 0).reports.hold = [{ entry with held := false, stamp := 5 }]) ∧ (handed 10).reports.stalled = false ∧
      (handed 10).reports.hold.length = 11 ∧ (handed 11).reports.stalled = true ∧ (handed 11).order.cauStall = true ∧
      (handed 11).link.buffer0 = some ⟨.service, 500⟩ ∧ (handed 11).link.holdTimer = some 500 ∧
      (handed 11).link.broadcastTimer = none ∧ (handed 15).reports.hold.length = 16 ∧
      full.length = 16 ∧ full.getLast? = some
        { Report.blank .merged with stamp := 5, held := true, count := 2, detail := .merged 0x1000 5 } ∧
      more.getLast? = some { merged with detail := .merged 0x1000 5 } := by decide +kernel

/-- A frame that fits its fields, at their upper bounds. -/
theorem witness_FrameRoundTrip :
    let f : LinkFrame := { cls := 3, source := 31, dest := 31, kind := 31, payload := List.replicate 24 0xFF }
    let offer := (Payload.dataOffer 0 5 9 1001 50 98 .minutes).frame 2
    f.wf = true ∧ parseLine f.line = some f ∧ offer.wf = true ∧
      offer.bits.length + (ackField true).length + endField.length = 168 ∧
      offer.onLine true = offer.line ++ [false, true, true, true, true, true, true, true, true] := by decide +kernel

/-- A state away from reset with the invariant of the port, with a step that it takes. -/
theorem witness_StepKeepsInv :
    let s := { writingReport false [] with pending := [.reportWriteDone] }
    s.inv ∧ step s = .next (after .reportWriteDone (writingReport false [])) := by
  refine ⟨?_, rfl⟩
  unfold State.inv
  decide +kernel

/-- A state with a request under way in which requests, claims and locks agree, with a step that it takes. -/
theorem witness_StepKeepsBudget :
    let s := { removing .opening .opening none with pending := [.releasedConfirmation 4] }
    s.cribInv ∧ step s = .next (after (.releasedConfirmation 4) (removing .opening .opening none)) := by
  intro s
  have pocketOf (p : PocketNo) : s.pocket p =
      if p = 4 then
        { restPocket with
          content := some 5, sensor := .present, claim := some 9, lock := .opening, confirm := some 250 }
      else restPocket := by
    have quietAt := quiet_pocket .service p
    have twice : s.pocket p =
        (((quiet .service).modPocket 4 fun k => { k with content := some 5, sensor := .present }).modPocket 4 fun k =>
          { k with claim := some 9, lock := .opening, confirm := some 250 }).pocket p := rfl
    rw [twice]
    simp only [State.pocket_modPocket, if_true, quietAt, eq_comm (a := (4 : PocketNo))]
    by_cases h : p = 4
    · subst h; simp only [if_true]; rw [quietAt]
    · simp only [if_neg h]
  refine ⟨⟨?_, ?_, ?_, ?_, ?_, ?_, ?_⟩, rfl⟩
  · decide +kernel
  · decide +kernel
  · decide +kernel
  · intro r h
    obtain rfl : r = request 9 .removeOut 4 none (.slot 3) .opening none := List.mem_singleton.mp h
    exact ⟨by decide, by decide, by rw [request, pocketOf]; rfl, by rw [request, pocketOf]; rfl⟩
  · intro p num h
    rw [pocketOf] at h
    split at h
    · rename_i hp
      exact ⟨request 9 .removeOut 4 none (.slot 3) .opening none, List.mem_singleton.mpr rfl, Option.some.inj h, hp.symm⟩
    · exact absurd h (by simp [restPocket, Pocket.reset])
  · intro p h
    rw [pocketOf] at h ⊢
    split at h
    · simp at h
    · rename_i hp
      simp [hp, restPocket]
  · decide +kernel

end Sys2Proof.Machine
end

section
/-! What SET_LIFE and REGRIND do (R19, R20): the orders that finish in the step that takes them, the change of one record, the
work of each order by its cases, and from these the two statements. -/

namespace Sys2Proof.Machine

/-! ## Orders that finish in the step that takes them (R179, R180) -/

/-- The checks of R179 leave nothing to refuse of an order with flags 0 that either service state takes and that names no buffer. -/
theorem State.accepts_of_flags {s : State} {k : OrderKind} {img : SlotImage} {n : SlotNo} (reading : s.reading n)
    (flags : img.flags = 0) (service : k.takenIn s.order.service = true) (noBuffer : k.usesBuffer = false) :
    s.accepts k img n :=
  ⟨reading, by simp [takingCheck, flags, service, noBuffer]⟩

/-- The order of a slot that is finished in the step that took it, `u` being the state that its work leaves beside the slot. -/
theorem State.takeOrder_completes {s u : State} {k : OrderKind} {img : SlotImage} {n : SlotNo} {st : Status}
    {result : List Byte} {work : SlotNo → State → State} (ok : s.accepts k img n) (alone : u.order.formedNow = [])
    (done : work n (s.taken n k.code img) = (u.taken n k.code img).complete n st result) :
    s.takeOrder k img work = u.answered n k.code img st result [] := by
  have context : ((u.taken n k.code img).slot n).context = some (newContext k.code img) := by rw [State.slot_taken]
  rw [State.takeOrder_accepted work ok, done, State.complete, State.settle_completeWith st result [] context rfl alone,
    State.ended_taken]

/-- An order that its work refuses in the step that took it. -/
theorem State.takeOrder_refuses {s : State} {k : OrderKind} {img : SlotImage} {n : SlotNo} {st : Status}
    {work : SlotNo → State → State} (ok : s.accepts k img n)
    (refused : work n (s.taken n k.code img) = (s.taken n k.code img).refuse n st) :
    s.takeOrder k img work = s.answered n k.code img st [] [] :=
  State.takeOrder_completes ok ok.1.2 refused

@[simp] theorem State.findTool_taken (n : SlotNo) (kind : Nat) (img : SlotImage) (t : Nat) (s : State) :
    (s.taken n kind img).findTool t = s.findTool t := rfl

/-- The slot taken and a record changed, in either order. -/
theorem State.modTool_taken (n : SlotNo) (kind : Nat) (img : SlotImage) (t : Nat) (f : Tool → Tool) (s : State) :
    (s.taken n kind img).modTool t f = (s.modTool t f).taken n kind img := rfl

/-! ## The change of one record (R1) -/

/-- With tool numbers unique, a change of a record is told by what it makes of the record found. -/
theorem State.modTool_congr {s : State} {t : Nat} {x : Tool} {f g : Tool → Tool}
    (unique : (s.tools.map (·.number)).Nodup) (found : s.findTool t = some x) (same : f x = g x) :
    s.modTool t f = s.modTool t g := by
  have isIn : x ∈ s.tools := List.mem_of_find?_eq_some found
  have number : x.number = t := by simpa using List.find?_some found
  have records : ∀ y ∈ s.tools, (if y.number = t then f y else y) = if y.number = t then g y else y := by
    intro y hy
    split
    case isTrue h =>
      have : y = x := List.inj_on_of_nodup_map unique hy isIn (h.trans number.symm)
      rw [this, same]
    case isFalse => rfl
  simp only [State.modTool, State.modTools, List.map_congr_left records]

/-- A change of the record found that keeps its number: nothing beside the table changes, and no record of another number. -/
theorem State.modTool_of_found {s : State} {t : Nat} {x y : Tool} {f : Tool → Tool} (number : ∀ x, (f x).number = x.number)
    (found : s.findTool t = some x) (changed : f x = y) :
    s.modTool t f = { s with tools := (s.modTool t f).tools } ∧ (s.modTool t f).findTool t = some y ∧
      ∀ m, m ≠ t → (s.modTool t f).findTool m = s.findTool m := by
  refine ⟨rfl, ?_, fun m other => ?_⟩
  · rw [State.findTool_modTool _ _ _ _ number, if_pos rfl, found, Option.map_some, changed]
  · rw [State.findTool_modTool _ _ _ _ number, if_neg other]

/-! ## The fields of SET_LIFE (R10, R19) -/

theorem asUnit_code (unit : LifeUnit) : asUnit unit.code = some unit := by
  cases unit <;> rfl

theorem asUnit_eq_none {v : Nat} (high : 1 < v) : asUnit v = none := by
  match v, high with
  | _ + 2, _ => rfl

theorem asPercent_eq_some {v percent : Nat} (value : percent = if v = 0 then 90 else v) (low : 50 ≤ percent)
    (high : percent ≤ 99) : asPercent v = some percent := by
  unfold asPercent
  split_ifs at value ⊢ <;> simp_all

theorem asPercent_eq_none {v : Nat} (bad : v ≠ 0 ∧ (v < 50 ∨ 99 < v)) : asPercent v = none := by
  have outside : ¬ (50 ≤ v ∧ v ≤ 99) := by omega
  rw [asPercent, if_neg bad.1, if_neg outside]

/-! ## The record after SET_LIFE (R19) -/

/-- A WORN record keeps its flags and its state. -/
theorem Tool.withLife_of_worn {x : Tool} (limit : Nat) (unit : LifeUnit) (percent : Nat) (worn : x.state = .worn) :
    x.withLife limit unit percent = { x with lifeLimit := limit, lifeUnit := unit, warnPercent := percent } :=
  if_pos worn

/-- Any other record has its flags set anew, and goes from READY or PASSED to WORN when its life has ended. -/
theorem Tool.withLife_of_not_worn {x : Tool} (limit : Nat) (unit : LifeUnit) (percent : Nat) (live : x.state ≠ .worn) :
    x.withLife limit unit percent =
      { x with
        lifeLimit := limit, lifeUnit := unit, warnPercent := percent
        warningSent := decide (max 1 (limit * percent / 100) ≤ x.lifeUsed), lifeEnded := decide (limit ≤ x.lifeUsed)
        state := if limit ≤ x.lifeUsed ∧ (x.state = .ready ∨ x.state = .passed) then .worn else x.state } := by
  simp only [Tool.withLife, Tool.setFlags, Tool.threshold, lifeThreshold, if_neg live, decide_eq_true_eq]
  split_ifs <;> rfl

theorem Tool.withLife_number (limit : Nat) (unit : LifeUnit) (percent : Nat) (x : Tool) :
    (x.withLife limit unit percent).number = x.number := by
  by_cases worn : x.state = .worn
  · rw [Tool.withLife_of_worn limit unit percent worn]
  · rw [Tool.withLife_of_not_worn limit unit percent worn]

/-- The result shows the new threshold and the life used that was kept. -/
theorem Tool.lifeResult_withLife (limit : Nat) (unit : LifeUnit) (percent : Nat) (x : Tool) :
    (x.withLife limit unit percent).lifeResult =
      le 2 (max 1 (limit * percent / 100)) ++ le 2 x.lifeUsed ++ le 1 (x.withLife limit unit percent).state.code := by
  by_cases worn : x.state = .worn
  · rw [Tool.withLife_of_worn limit unit percent worn]; rfl
  · rw [Tool.withLife_of_not_worn limit unit percent worn]; rfl

/-! ## The work of SET_LIFE (R19) -/

section
variable {img : SlotImage} {n : SlotNo} {s : State} {unit : LifeUnit} {percent : Nat} {x : Tool}

theorem exec_setLife (img : SlotImage) (s : State) :
    exec (.setLife img) s = .next (s.takeOrder .setLife img (doSetLife img)) := rfl

theorem doSetLife_of_badParam
    (bad : par2 img 0 = 0 ∨ par2 img 2 = 0 ∨ 1 < par1 img 4 ∨ (par1 img 5 ≠ 0 ∧ (par1 img 5 < 50 ∨ 99 < par1 img 5))) :
    doSetLife img n s = s.refuse n .badParam := by
  simp only [doSetLife, goodTool]
  rcases bad with number | limit | code | percent
  · split <;> simp [number]
  · split <;> simp [limit]
  · simp [asUnit_eq_none code]
  · simp [asPercent_eq_none percent]

/-- The fields of a SET_LIFE are in their ranges, and hold this unit and this percent. -/
structure SetLifeFields (img : SlotImage) (unit : LifeUnit) (percent : Nat) : Prop where
  number : par2 img 0 ≠ 0
  limit : par2 img 2 ≠ 0
  unitField : asUnit (par1 img 4) = some unit
  percentField : asPercent (par1 img 5) = some percent

variable (fields : SetLifeFields img unit percent)
include fields

theorem doSetLife_of_unknown (unknown : s.findTool (par2 img 0) = none) :
    doSetLife img n s = s.refuse n .unknownTool := by
  simp [doSetLife, goodTool, fields.number, fields.limit, fields.unitField, fields.percentField, unknown]

theorem doSetLife_of_claimed (found : s.findTool (par2 img 0) = some x) (claimed : x.state = .claimed) :
    doSetLife img n s = s.refuse n .busy := by
  simp [doSetLife, goodTool, fields.number, fields.limit, fields.unitField, fields.percentField, found, claimed]

theorem doSetLife_of_away (found : s.findTool (par2 img 0) = some x)
    (away : x.state = .out ∨ x.state = .returning ∨ x.state = .astray) : doSetLife img n s = s.refuse n .wrongState := by
  have unclaimed : x.state ≠ .claimed := by rintro claimed; simp [claimed] at away
  simp [doSetLife, goodTool, fields.number, fields.limit, fields.unitField, fields.percentField, found, unclaimed, away]

theorem doSetLife_of_stored (found : s.findTool (par2 img 0) = some x) (unclaimed : x.state ≠ .claimed)
    (present : ¬ (x.state = .out ∨ x.state = .returning ∨ x.state = .astray)) :
    doSetLife img n s =
      (s.modTool (par2 img 0) (Tool.withLife (par2 img 2) unit percent)).complete n .ok
        (x.withLife (par2 img 2) unit percent).lifeResult := by
  simp [doSetLife, goodTool, fields.number, fields.limit, fields.unitField, fields.percentField, found, unclaimed, present]

/-- SET_LIFE of a record that it takes: the settings stored, and the order finished in the same step. -/
theorem exec_setLife_of_stored (ok : s.accepts .setLife img n) (found : s.findTool (par2 img 0) = some x)
    (unclaimed : x.state ≠ .claimed) (present : ¬ (x.state = .out ∨ x.state = .returning ∨ x.state = .astray)) :
    exec (.setLife img) s =
      .next ((s.modTool (par2 img 0) (Tool.withLife (par2 img 2) unit percent)).answered n 0x0C img .ok
        (le 2 (max 1 (par2 img 2 * percent / 100)) ++ le 2 x.lifeUsed ++
          le 1 (x.withLife (par2 img 2) unit percent).state.code) []) := by
  rw [exec_setLife, ← Tool.lifeResult_withLife]
  exact congrArg _ (State.takeOrder_completes ok ok.1.2
    ((doSetLife_of_stored fields ((State.findTool_taken ..).trans found) unclaimed present).trans
      (by rw [State.modTool_taken])))

end

/-- Settles O27, by the cases of the work of SET_LIFE. -/
theorem setLife : Obligations.SetLife := by
  unfold Obligations.SetLife
  intro img n s reading flags unique
  have ok : s.accepts .setLife img n := State.accepts_of_flags reading flags rfl rfl
  have refuses {st : Status}
      (work : doSetLife img n (s.taken n 0x0C img) = (s.taken n 0x0C img).refuse n st) :
      exec (.setLife img) s = .next (s.answered n 0x0C img st [] []) :=
    congrArg _ (State.takeOrder_refuses ok work)
  refine ⟨fun bad => refuses (doSetLife_of_badParam bad), ?_⟩
  intro unit percent number limit unitCode percentValue low high
  have fields : SetLifeFields img unit percent :=
    ⟨number, limit, unitCode ▸ asUnit_code unit, asPercent_eq_some percentValue low high⟩
  refine ⟨fun unknown => refuses (doSetLife_of_unknown fields unknown), fun x found => ⟨?_, ?_, ?_, ?_⟩⟩
  · exact fun claimed => refuses (doSetLife_of_claimed fields found claimed)
  · exact fun away => refuses (doSetLife_of_away fields found away)
  · intro worn
    have stored := exec_setLife_of_stored fields ok found (by simp [worn]) (by simp [worn])
    have record := Tool.withLife_of_worn (par2 img 2) unit percent worn
    have table : s.modTool (par2 img 0) (Tool.withLife (par2 img 2) unit percent) =
        s.modTool (par2 img 0) fun y =>
          { y with lifeLimit := par2 img 2, lifeUnit := unit, warnPercent := percent } :=
      State.modTool_congr unique found record
    rw [table, record, worn] at stored
    exact stored
  · intro live
    have notWorn : x.state ≠ .worn := by rintro worn; simp [worn] at live
    have record := Tool.withLife_of_not_worn (par2 img 2) unit percent notWorn
    have stored := exec_setLife_of_stored fields ok found
      (by rintro claimed; simp [claimed] at live) (by rintro (h | h | h) <;> simp [h] at live)
    rw [record] at stored
    exact ⟨_, _, stored, rfl, State.modTool_of_found (Tool.withLife_number _ _ _) found record⟩

/-! ## The work of REGRIND (R20) -/

theorem exec_regrind (img : SlotImage) (s : State) :
    exec (.regrind img) s = .next (s.takeOrder .regrind img (doRegrind img)) := rfl

/-- An optional size is too large when its bit of the mask is set and its field lies above the range. -/
theorem lt_optPar_getD {mask bit v bound : Nat} :
    bound < (optPar mask bit v).getD 0 ↔ mask.testBit bit = true ∧ bound < v := by
  unfold optPar
  split_ifs with given <;> simp [given]

/-- A record reground with the sizes whose bits of the mask are set. -/
theorem Tool.reground_optPar (mask length radius : Nat) (x : Tool) :
    x.reground (optPar mask 0 length) (optPar mask 1 radius) =
      { x with
        lifeUsed := 0, regrinds := x.regrinds + 1, warningSent := false, lifeEnded := false
        outOfTol := false, geometry := none, state := .unmeasured
        nominalLength := if mask.testBit 0 then length else x.nominalLength
        nominalRadius := if mask.testBit 1 then radius else x.nominalRadius } := by
  unfold Tool.reground optPar
  split_ifs <;> rfl

section
variable {img : SlotImage} {n : SlotNo} {s : State} {x : Tool}

theorem doRegrind_of_badParam
    (bad : par2 img 1 = 0 ∨ ((par1 img 0).testBit 0 = true ∧ 999999 < par4 img 3) ∨
      ((par1 img 0).testBit 1 = true ∧ 999999 < par4 img 7)) :
    doRegrind img n s = s.refuse n .badParam := by
  have refused : goodTool (par2 img 1) = false ∨ 999999 < (optPar (par1 img 0) 0 (par4 img 3)).getD 0 ∨
      999999 < (optPar (par1 img 0) 1 (par4 img 7)).getD 0 := by
    simpa [goodTool, lt_optPar_getD] using bad
  simp only [doRegrind, if_pos refused]

/-- The fields of a REGRIND are in their ranges. -/
structure RegrindFields (img : SlotImage) : Prop where
  number : par2 img 1 ≠ 0
  length : (par1 img 0).testBit 0 = true → par4 img 3 ≤ 999999
  radius : (par1 img 0).testBit 1 = true → par4 img 7 ≤ 999999

theorem RegrindFields.accepted (fields : RegrindFields img) :
    ¬ (goodTool (par2 img 1) = false ∨ 999999 < (optPar (par1 img 0) 0 (par4 img 3)).getD 0 ∨
      999999 < (optPar (par1 img 0) 1 (par4 img 7)).getD 0) := by
  rw [lt_optPar_getD, lt_optPar_getD]
  rintro (number | ⟨given, large⟩ | ⟨given, large⟩)
  · exact fields.number (by simpa [goodTool] using number)
  · exact absurd (fields.length given) (Nat.not_le.mpr large)
  · exact absurd (fields.radius given) (Nat.not_le.mpr large)

variable (fields : RegrindFields img)
include fields

theorem doRegrind_of_unknown (unknown : s.findTool (par2 img 1) = none) :
    doRegrind img n s = s.refuse n .unknownTool := by
  simp only [doRegrind, if_neg fields.accepted, unknown]

theorem doRegrind_of_claimed (found : s.findTool (par2 img 1) = some x) (claimed : x.state = .claimed) :
    doRegrind img n s = s.refuse n .busy := by
  simp only [doRegrind, if_neg fields.accepted, found, if_pos claimed]

theorem doRegrind_of_not_worn (found : s.findTool (par2 img 1) = some x) (unclaimed : x.state ≠ .claimed)
    (live : x.state ≠ .worn) : doRegrind img n s = s.refuse n .wrongState := by
  simp only [doRegrind, if_neg fields.accepted, found, if_neg unclaimed, if_pos live]

theorem doRegrind_of_spent (found : s.findTool (par2 img 1) = some x) (worn : x.state = .worn)
    (spent : x.regrinds = x.regrindMax) : doRegrind img n s = s.refuse n .spent := by
  simp [doRegrind, if_neg fields.accepted, found, worn, spent]

theorem doRegrind_of_reground (found : s.findTool (par2 img 1) = some x) (worn : x.state = .worn)
    (left : x.regrinds ≠ x.regrindMax) :
    doRegrind img n s =
      (s.modTool (par2 img 1)
        (Tool.reground (optPar (par1 img 0) 0 (par4 img 3)) (optPar (par1 img 0) 1 (par4 img 7)))).complete
          n .ok (le 1 (x.regrinds + 1) ++ le 1 x.regrindMax) := by
  simp [doRegrind, if_neg fields.accepted, found, worn, left]

/-- REGRIND of a record that it takes: the record reground, and the order finished in the same step. -/
theorem exec_regrind_of_reground (ok : s.accepts .regrind img n) (found : s.findTool (par2 img 1) = some x)
    (worn : x.state = .worn) (left : x.regrinds ≠ x.regrindMax) :
    exec (.regrind img) s =
      .next ((s.modTool (par2 img 1)
        (Tool.reground (optPar (par1 img 0) 0 (par4 img 3)) (optPar (par1 img 0) 1 (par4 img 7)))).answered
          n 0x0D img .ok (le 1 (x.regrinds + 1) ++ le 1 x.regrindMax) []) := by
  rw [exec_regrind]
  exact congrArg _ (State.takeOrder_completes ok ok.1.2
    ((doRegrind_of_reground fields ((State.findTool_taken ..).trans found) worn left).trans
      (by rw [State.modTool_taken])))

end

/-- Settles O28, by the cases of the work of REGRIND. -/
theorem regrind : Obligations.Regrind := by
  unfold Obligations.Regrind
  intro img n s reading flags
  have ok : s.accepts .regrind img n := State.accepts_of_flags reading flags rfl rfl
  have refuses {st : Status}
      (work : doRegrind img n (s.taken n 0x0D img) = (s.taken n 0x0D img).refuse n st) :
      exec (.regrind img) s = .next (s.answered n 0x0D img st [] []) :=
    congrArg _ (State.takeOrder_refuses ok work)
  refine ⟨fun bad => refuses (doRegrind_of_badParam bad), ?_⟩
  intro number length radius
  have fields : RegrindFields img := ⟨number, length, radius⟩
  refine ⟨fun unknown => refuses (doRegrind_of_unknown fields unknown), fun x found => ⟨?_, ?_, ?_, ?_⟩⟩
  · exact fun claimed => refuses (doRegrind_of_claimed fields found claimed)
  · exact fun unclaimed live => refuses (doRegrind_of_not_worn fields found unclaimed live)
  · exact fun worn spent => refuses (doRegrind_of_spent fields found worn spent)
  · intro worn left
    exact ⟨_, exec_regrind_of_reground fields ok found worn left,
      State.modTool_of_found (fun _ => rfl) found (Tool.reground_optPar ..)⟩

end Sys2Proof.Machine
end

section
/-! What a write to PST does (R177, R178): one slot posted, a list of different slots posted in turn, and the slots whose bits
are set. -/

namespace Sys2Proof.Machine

/-- A 1 in the PST bit of this slot is a post conflict (R178). -/
def State.postConflicts (s : State) (n : SlotNo) : Bool := decide ((s.slot n).state ≠ .free)

/-- The slots of a list posted one after the other. -/
def State.postAll (slots : List SlotNo) (s : State) : State := slots.foldl (fun t n => t.post n) s

@[simp] theorem State.postAll_nil (s : State) : s.postAll [] = s := rfl

@[simp] theorem State.postAll_cons (n : SlotNo) (slots : List SlotNo) (s : State) :
    s.postAll (n :: slots) = (s.post n).postAll slots := rfl

/-- A state with what a write to PST may change, the slots, CONFLICT and CAU.FAULT, as another state has it. -/
def State.withPosts (s t : State) : State :=
  { s with order :=
    { s.order with slots := t.order.slots, conflict := t.order.conflict, cauFault := t.order.cauFault } }

@[simp] theorem State.withPosts_withPosts (s t u : State) : (s.withPosts t).withPosts u = s.withPosts u := rfl

/-! ## One slot posted -/

theorem State.post_of_free {n : SlotNo} {s : State} (free : (s.slot n).state = .free) :
    s.post n = s.setSlot n { s.slot n with state := .posted } := if_pos free

theorem State.post_of_not_free {n : SlotNo} {s : State} (occupied : (s.slot n).state ≠ .free) :
    s.post n = s.modOrder fun o => { o with conflict := o.conflict.orElse fun _ => some n, cauFault := true } :=
  if_neg occupied

theorem State.slot_post (n m : SlotNo) (s : State) :
    (s.post n).slot m =
      if n = m ∧ (s.slot m).state = .free then { s.slot m with state := .posted } else s.slot m := by
  by_cases free : (s.slot n).state = .free
  · rw [State.post_of_free free, State.slot_setSlot]
    by_cases same : n = m
    · subst same; simp [free]
    · simp [same]
  · have kept : ¬ (n = m ∧ (s.slot m).state = .free) := fun ⟨same, isFree⟩ => free (same ▸ isFree)
    rw [State.post_of_not_free free, if_neg kept]; rfl

theorem State.slot_post_of_ne {n m : SlotNo} (other : n ≠ m) (s : State) : (s.post n).slot m = s.slot m := by
  simp [State.slot_post, other]

theorem State.conflict_post (n : SlotNo) (s : State) :
    (s.post n).order.conflict = s.order.conflict.orElse fun _ => if s.postConflicts n then some n else none := by
  by_cases free : (s.slot n).state = .free
  · simp [State.post_of_free free, State.postConflicts, free, State.setSlot]
  · simp [State.post_of_not_free free, State.postConflicts, free]

theorem State.cauFault_post (n : SlotNo) (s : State) :
    (s.post n).order.cauFault = (s.order.cauFault || s.postConflicts n) := by
  by_cases free : (s.slot n).state = .free
  · simp [State.post_of_free free, State.postConflicts, free, State.setSlot]
  · simp [State.post_of_not_free free, State.postConflicts, free]

theorem State.post_eq (n : SlotNo) (s : State) : s.post n = s.withPosts (s.post n) := by
  by_cases free : (s.slot n).state = .free
  · rw [State.post_of_free free]; rfl
  · rw [State.post_of_not_free free]; rfl

/-! ## Different slots posted in turn -/

/-- A slot posted makes or ends no conflict at the slots beside it. -/
theorem State.find?_postConflicts_post {n : SlotNo} {slots : List SlotNo} (new : n ∉ slots) (s : State) :
    slots.find? (s.post n).postConflicts = slots.find? s.postConflicts := by
  refine List.find?_congr fun m isIn => ?_
  have other : n ≠ m := fun same => new (same ▸ isIn)
  simp only [State.postConflicts, State.slot_post_of_ne other]

theorem State.slot_postAll {slots : List SlotNo} (distinct : slots.Nodup) (m : SlotNo) (s : State) :
    (s.postAll slots).slot m =
      if m ∈ slots ∧ (s.slot m).state = .free then { s.slot m with state := .posted } else s.slot m := by
  induction slots generalizing s with
  | nil => simp
  | cons n rest ih =>
    obtain ⟨new, distinct⟩ := List.nodup_cons.mp distinct
    rw [State.postAll_cons, ih distinct]
    by_cases same : n = m
    · subst same; simp [new, State.slot_post]
    · simp [State.slot_post_of_ne same, Ne.symm same]

/-- The first slot in conflict is latched, unless CONFLICT is set already. -/
theorem State.conflict_postAll {slots : List SlotNo} (distinct : slots.Nodup) (s : State) :
    (s.postAll slots).order.conflict = s.order.conflict.orElse fun _ => slots.find? s.postConflicts := by
  induction slots generalizing s with
  | nil => simp
  | cons n rest ih =>
    obtain ⟨new, distinct⟩ := List.nodup_cons.mp distinct
    rw [State.postAll_cons, ih distinct, State.find?_postConflicts_post new, State.conflict_post, List.find?_cons]
    cases s.order.conflict <;> cases s.postConflicts n <;> rfl

/-- Any conflict sets CAU.FAULT. -/
theorem State.cauFault_postAll {slots : List SlotNo} (distinct : slots.Nodup) (s : State) :
    (s.postAll slots).order.cauFault = (s.order.cauFault || slots.any s.postConflicts) := by
  induction slots generalizing s with
  | nil => simp
  | cons n rest ih =>
    obtain ⟨new, distinct⟩ := List.nodup_cons.mp distinct
    have later : rest.any (s.post n).postConflicts = rest.any s.postConflicts := by
      rw [← List.isSome_find?, State.find?_postConflicts_post new, List.isSome_find?]
    rw [State.postAll_cons, ih distinct, later, State.cauFault_post, List.any_cons, Bool.or_assoc]

theorem State.postAll_eq (slots : List SlotNo) (s : State) : s.postAll slots = s.withPosts (s.postAll slots) := by
  induction slots generalizing s with
  | nil => rfl
  | cons n rest ih =>
    rw [State.postAll_cons]
    calc (s.post n).postAll rest
      _ = (s.post n).withPosts ((s.post n).postAll rest) := ih _
      _ = (s.withPosts (s.post n)).withPosts ((s.post n).postAll rest) := by rw [← State.post_eq]
      _ = s.withPosts ((s.post n).postAll rest) := State.withPosts_withPosts ..

/-! ## The write -/

/-- A write acts on the slots whose bits are set, the lowest first. -/
theorem exec_pstWrite (value : Word) (s : State) :
    exec (.pstWrite value) s = .next (s.postAll (indices fun n => value.getLsbD n.val)) :=
  congrArg Host.Outcome.next List.foldl_filter.symm

theorem find?_indices {n : Nat} (test p : Fin n → Bool) :
    (indices test).find? p = (List.finRange n).find? fun i => test i && p i := by
  simp [indices, List.find?_filter, Bool.decide_and]

/-- Settles O8: the slots whose bits are set are different slots, posted with the lowest first. -/
theorem postWrite : Obligations.PostWrite := by
  unfold Obligations.PostWrite
  intro value s
  have distinct : (indices fun n : SlotNo => value.getLsbD n.val).Nodup := (List.nodup_finRange 32).filter _
  refine ⟨_, exec_pstWrite value s, fun n => ?_, ?_, ?_, State.postAll_eq ..⟩
  · rw [State.slot_postAll distinct]
    simp [indices]
  · rw [State.conflict_postAll distinct, find?_indices]
    rfl
  · rw [State.cauFault_postAll distinct, indices, List.any_filter]
    rfl

end Sys2Proof.Machine
end

section
/-! What a write to RPC does (R196, R203): the number of entries outstanding and the credit after a release, and the release
taken or refused. -/

namespace Sys2Proof.Machine

/-! ## The counts after a release (R196) -/

/-- A release of no more than is outstanding takes its count off the outstanding number, across the wrap of both counts. -/
theorem ReportWriter.outstanding_release {r : ReportWriter} {n : BitVec 16} (within : n.toNat ≤ r.outstanding) :
    { r with released := r.released + n }.outstanding = r.outstanding - n.toNat := by
  have within' : n ≤ r.written - r.released := within
  simp only [ReportWriter.outstanding, sub_add_eq_sub_sub]
  exact BitVec.toNat_sub_of_le within'

/-- The credit grows by the release. -/
theorem ReportWriter.credit_release {r : ReportWriter} {n : BitVec 16} (within : n.toNat ≤ r.outstanding)
    (bounded : r.outstanding ≤ Config.reportEntries) :
    { r with released := r.released + n }.credit = r.credit + n.toNat := by
  simp only [ReportWriter.credit, ReportWriter.outstanding_release within]
  omega

/-! ## The write (R203) -/

theorem State.releaseEntries_of_le {n : BitVec 16} {s : State} (within : n.toNat ≤ s.reports.outstanding) :
    s.releaseEntries n = s.modReports fun r => { r with released := r.released + n } := if_pos within

theorem State.releaseEntries_of_lt {n : BitVec 16} {s : State} (excess : s.reports.outstanding < n.toNat) :
    s.releaseEntries n = s.modOrder fun o => { o with releaseError := true, cauFault := true } :=
  if_neg (Nat.not_le.mpr excess)

theorem State.releaseEntries_zero (s : State) : s.releaseEntries 0#16 = s := by
  rw [State.releaseEntries_of_le (Nat.zero_le _)]
  simp [State.modReports]

/-- With credit, the head of the hold queue waits for the port alone. -/
theorem State.reportWaits_of_credit {s : State} (credit : s.reports.credit ≠ 0) :
    s.reportWaits = !s.reports.hold.isEmpty := by
  simp [State.reportWaits, credit]

theorem exec_rpcWrite (value : Word) (s : State) :
    exec (.rpcWrite value) s = .next (s.releaseEntries (value.setWidth 16)) := rfl

/-- Settles O9, by the release count against the outstanding number. -/
theorem releaseWrite : Obligations.ReleaseWrite := by
  unfold Obligations.ReleaseWrite
  intro value s
  simp only [exec_rpcWrite]
  refine ⟨fun positive within => ?_, fun zero => ?_, fun excess => ?_⟩
  · refine ⟨_, congrArg _ (State.releaseEntries_of_le within), rfl, fun bounded => ?_⟩
    have credit := ReportWriter.credit_release within bounded
    exact ⟨credit, State.reportWaits_of_credit (by rw [State.modReports_reports, credit]; omega)⟩
  · rw [zero, State.releaseEntries_zero]
  · exact congrArg _ (State.releaseEntries_of_lt excess)

end Sys2Proof.Machine
end

section
/-! CEN and INT (R205, R206): the bits of a presence mask, the causes that CAU shows, and INT as what CAU and CEN have in
common. -/

namespace Sys2Proof.Machine

/-! ## Presence masks (R176) -/

theorem presence_ne_zero (members : List Bool) : (presence members != 0) = members.any id := by
  induction members with
  | nil => rfl
  | cons b bs ih =>
    rw [List.any_cons, ← ih, Bool.eq_iff_iff]
    cases b <;> simp [presence]

theorem testBit_presence (members : List Bool) (i : Nat) : (presence members).testBit i = members.getD i false := by
  induction members generalizing i with
  | nil => simp [presence]
  | cons b bs ih =>
    have mask : presence (b :: bs) = Nat.bit b (presence bs) := by cases b <;> simp [presence, Nat.bit, Nat.add_comm]
    cases i with
    | zero => rw [mask, Nat.testBit_bit_zero]; rfl
    | succ i => rw [mask, Nat.testBit_bit_succ, ih]; rfl

/-! ## CAU and INT (R205, R206) -/

/-- A mask of slots is not 0 when some slot is in the state. -/
theorem State.slotMask_ne_zero (s : State) (st : SlotState) :
    (s.slotMask st != 0) = (List.finRange 32).any fun n : SlotNo => decide ((s.slot n).state = st) := by
  rw [State.slotMask, presence_ne_zero, List.any_map]
  rfl

/-- The causes in the order of their bits: DONE, REPORT, STALL and FAULT. -/
def State.causes (s : State) : List Bool :=
  [(List.finRange 32).any fun n : SlotNo => decide ((s.slot n).state = .done),
    s.order.cauReport, s.order.cauStall, s.order.cauFault]

theorem State.readCau_eq (s : State) : s.readCau = presence s.causes := by
  rw [State.readCau, State.slotMask_ne_zero]; rfl

theorem bitVec4_ne_zero (x : BitVec 4) :
    (x != 0) = (x.getLsbD 0 || x.getLsbD 1 || x.getLsbD 2 || x.getLsbD 3) := by
  decide +revert

/-- INT, cause by cause. -/
theorem State.intAsserted_eq (s : State) :
    s.intAsserted =
      ((s.order.cen.getLsbD 0 && (List.finRange 32).any fun n : SlotNo => decide ((s.slot n).state = .done)) ||
        (s.order.cen.getLsbD 1 && s.order.cauReport) || (s.order.cen.getLsbD 2 && s.order.cauStall) ||
        (s.order.cen.getLsbD 3 && s.order.cauFault)) := by
  have cause (i : Nat) (inCau : i < 4) :
      (BitVec.ofNat 4 s.readCau &&& s.order.cen).getLsbD i = (s.order.cen.getLsbD i && s.causes.getD i false) := by
    rw [BitVec.getLsbD_and, BitVec.getLsbD_ofNat, State.readCau_eq, testBit_presence, decide_eq_true inCau,
      Bool.true_and, Bool.and_comm]
  rw [State.intAsserted, bitVec4_ne_zero, cause 0 (by decide), cause 1 (by decide), cause 2 (by decide),
    cause 3 (by decide)]
  rfl

/-- With every enable clear, INT is released whatever CAU shows. -/
theorem State.intAsserted_of_cen_eq_zero {s : State} (disabled : s.order.cen = 0) : s.intAsserted = false := by
  simp [State.intAsserted, disabled]

/-! ## A write to CEN (R206) -/

theorem exec_cenWrite (value : Word) (s : State) :
    exec (.cenWrite value) s = .next (s.modOrder fun o => { o with cen := value.setWidth 4 }) := rfl

/-- CEN is read as it is stored, with 0 above its four bits. -/
theorem State.readRegister_cen (s : State) : s.readRegister .cen = s.order.cen.setWidth 32 :=
  BitVec.ofNat_toNat ..

/-- The low four bits of a word, stored and read back. -/
theorem setWidth_setWidth_four (value : Word) : (value.setWidth 4).setWidth 32 = value &&& 0xF#32 := by
  apply BitVec.eq_of_toNat_eq
  calc ((value.setWidth 4).setWidth 32).toNat
    _ = value.toNat % 2 ^ 4 := BitVec.toNat_setWidth_of_le (by decide)
    _ = value.toNat &&& 2 ^ 4 - 1 := (Nat.and_two_pow_sub_one_eq_mod ..).symm
    _ = (value &&& 0xF#32).toNat := (BitVec.toNat_and value 0xF#32).symm

theorem State.reset_cen : State.reset.order.cen = 0 := rfl

/-- Settles O11: the write stores CEN, and INT is the causes that CEN enables. -/
theorem enablesAndInt : Obligations.EnablesAndInt := by
  unfold Obligations.EnablesAndInt
  refine ⟨fun value s => ⟨_, exec_cenWrite value s, rfl, ?_⟩, State.intAsserted_eq, State.reset_cen,
    State.intAsserted_of_cen_eq_zero State.reset_cen⟩
  rw [State.readRegister_cen, State.modOrder_order, setWidth_setWidth_four]

end Sys2Proof.Machine
end

section
/-! What the work of a command is made of: one primitive change of the State (`State.Act`), and a run of them (`State.Acts`).
Every shared operation is such a run, so that what every primitive change keeps, every operation keeps. -/

namespace Sys2Proof.Machine

/-! ## Primitive changes -/

/-- A change of one pocket that keeps its claim and its lock, and its fault too unless the pocket is LOCKED, or names an item to
be sorted out, or takes a fault in SERVICE from none, or has a started request. -/
structure State.PocketChange (s : State) (p : PocketNo) (f : Pocket → Pocket) : Prop where
  claim : (f (s.pocket p)).claim = (s.pocket p).claim
  lock : (f (s.pocket p)).lock = (s.pocket p).lock
  fault : (f (s.pocket p)).fault = (s.pocket p).fault ∨ (s.pocket p).lock = .locked ∨
    (s.pocket p).fault = .unknownItem ∨ (s.pocket p).fault = .forced ∨
    (s.order.service = .service ∧ (s.pocket p).fault = .clear) ∨
    ∃ r ∈ s.crib.requests, r.pocket = p ∧ (r.state = .opening ∨ r.state = .opened)

/-- One primitive change that the work of a command is made of. -/
inductive State.Act : State → State → Prop
  /-- The Tool Table, the Presetter Unit and the Issue Manager. -/
  | beside (s : State) (tools : List Tool) (presetter : Presetter) (issues : IssueManager) :
    Act s { s with tools := tools, presetter := presetter, issues := issues }
  /-- The Cell Link Controller, its receive queue kept. -/
  | link (s : State) (l : Link) (rx : l.rx = s.link.rx) : Act s { s with link := l }
  | report (s : State) (r : Report) : Act s (s.handReport r)
  | work (s : State) (n : SlotNo) (w : Work) : Act s (s.setWork n w)
  | form (s : State) (n : SlotNo) (status : Status) (result buffer : List Byte) :
    Act s (s.completeWith n status result buffer)
  /-- Drawers, layout lock, windows, sensors and the first scan. -/
  | layout (s : State) (c : Crib) (requests : c.requests = s.crib.requests) (next : c.nextNumber = s.crib.nextNumber)
    (budget : c.lockBudget = s.crib.lockBudget)
    (pockets : ∀ p, ∃ x, c.pockets.get p = { s.pocket p with sensor := x }) : Act s { s with crib := c }
  | limits (s : State) (l : Limits) (setup : s.order.service = .setup) : Act s (s.storeLimits l)
  | pocket (s : State) (p : PocketNo) (f : Pocket → Pocket) (change : s.PocketChange p f) : Act s (s.changePocket p f)
  /-- A request made on a pocket that no request names. -/
  | placed (s : State) (mv : Movement) (p : PocketNo) (tool : Option Nat) (owner : Owner)
    (unclaimed : (s.pocket p).claim = none) (sound : (s.pocket p).fault ≠ .lockJam) :
    Act s (s.placeRequest mv p tool owner).1
  | started (s : State) : Act s s.startOne
  | cancelled (s : State) (num : Nat) : Act s (s.cancelRequest num).1
  /-- A started request that ends with a RELOCK sent. -/
  | closed (s : State) (r : Request) (outcome : MoveOutcome) (listed : r ∈ s.crib.requests)
    (live : r.state = .opening ∨ r.state = .opened) :
    Act s ((s.modRequest r.number fun q =>
      { q with state := .closing, window := none, outcome := some outcome }).sendRelock r.pocket)
  | releasedAlone (s : State) (p : PocketNo) (opening : (s.pocket p).lock = .opening) (alone : s.requestAt p = none) :
    Act s (s.setLock p .opened)
  | released (s : State) (p : PocketNo) (r : Request) (w : Nat) (opening : (s.pocket p).lock = .opening)
    (request : s.requestAt p = some r) :
    Act s ((s.setLock p .opened).modRequest r.number fun q => { q with state := .opened, window := some w })
  | engagedAlone (s : State) (p : PocketNo) (alone : s.requestAt p = none) : Act s (s.setLock p .locked)
  | engaged (s : State) (p : PocketNo) (r : Request) (request : s.requestAt p = some r) :
    Act s ((s.setLock p .locked).endRequest r)
  | jammedAlone (s : State) (p : PocketNo) (away : (s.pocket p).lock ≠ .locked) (alone : s.requestAt p = none) :
    Act s (s.jam p)
  | jammed (s : State) (p : PocketNo) (r : Request) (away : (s.pocket p).lock ≠ .locked)
    (request : s.requestAt p = some r) : Act s ((s.jam p).endRequest r)
  /-- RELOCK sent to a jammed pocket (R45). -/
  | relocked (s : State) (p : PocketNo) (away : (s.pocket p).lock ≠ .locked) (unclaimed : (s.pocket p).claim = none)
    (jammed : (s.pocket p).fault = .lockJam) : Act s (s.sendRelock p)

/-- A run of primitive changes. -/
def State.Acts : State → State → Prop := Relation.ReflTransGen State.Act

/-! ## Runs -/

theorem State.Acts.refl (s : State) : s.Acts s := Relation.ReflTransGen.refl

theorem State.Acts.trans {s t u : State} (first : s.Acts t) (second : t.Acts u) : s.Acts u :=
  Relation.ReflTransGen.trans first second

theorem State.Act.acts {s t : State} (act : s.Act t) : s.Acts t := Relation.ReflTransGen.single act

/-- What every primitive change keeps, a run keeps. -/
theorem State.Acts.keeps {P : State → Prop} (keeps : ∀ {s t : State}, s.Act t → P s → P t) {s t : State}
    (acts : s.Acts t) (holds : P s) : P t := by
  induction acts with
  | refl => exact holds
  | tail _ act ih => exact keeps act ih

/-- The state of a pair that an equation names. -/
theorem State.Acts.of_eq {α : Type} {s t : State} {e : State × α} {x : α} (eq : e = (t, x)) (acts : s.Acts e.1) :
    s.Acts t := by
  rw [eq] at acts
  exact acts

/-- Rounds of a fold, one after the other. -/
theorem State.Acts.foldl {α : Type} {f : State → α → State} (round : ∀ (s : State) (a : α), s.Acts (f s a)) (l : List α)
    (s : State) : s.Acts (l.foldl f s) := by
  induction l generalizing s with
  | nil => exact .refl s
  | cons a l ih => exact (round s a).trans (ih (f s a))

/-! ## The pocket of a request (R33, R34, R36) -/

/-- A pocket that passes the checks of a removal has no claim and no jammed lock. -/
theorem State.of_removalCheck {s : State} {mv : Movement} {p : PocketNo} (passes : s.removalCheck mv p = none) :
    (s.pocket p).claim = none ∧ (s.pocket p).fault ≠ .lockJam := by
  simp only [State.removalCheck, Pocket.stocked] at passes
  split_ifs at passes with _ claimed clears check check <;> simp_all

/-- What the destination of a STORE is (R33). -/
theorem State.of_storePocket {s : State} {home : Option PocketNo} {p : PocketNo} (found : s.storePocket home = some p) :
    (s.pocket p).vacant = true ∧ (s.attributeOf p).permits .store = true := by
  simp only [State.storePocket] at found
  split at found
  · rename_i q fits
    obtain rfl : q = p := by simpa using found
    simpa using (Option.filter_eq_some_iff.mp fits).2
  · have member := List.mem_of_mem_head? found
    simpa [indices] using member

/-- What the destination of a RETURN_PUT is (R34). -/
theorem State.of_returnPocket {s : State} {p : PocketNo} (found : s.returnPocket = some p) :
    (s.pocket p).vacant = true ∧ (s.attributeOf p = .returnOnly ∨ s.attributeOf p = .openAll) := by
  have chosen (a : Attribute)
      (first : (indices fun q : PocketNo => (s.pocket q).vacant && s.attributeOf q == a).head? = some p) :
      (s.pocket p).vacant = true ∧ s.attributeOf p = a := by
    simpa only [indices, List.mem_filter, List.mem_finRange, true_and, Bool.and_eq_true, beq_iff_eq] using
      List.mem_of_mem_head? first
  unfold State.returnPocket at found
  rcases Option.or_eq_some_iff.mp ((Option.orElse_eq_or ..).symm.trans found) with first | ⟨-, second⟩
  · exact (chosen .returnOnly first).imp_right .inl
  · exact (chosen .openAll second).imp_right .inr

theorem Pocket.of_vacant {k : Pocket} (vacant : k.vacant = true) :
    k.content = none ∧ k.sensor = .absent ∧ k.claim = none ∧ k.lock = .locked ∧ k.fault = .clear := by
  simpa [Pocket.vacant, and_assoc] using vacant

theorem State.Acts.ite {p : Prop} [Decidable p] {s t u : State} (yes : s.Acts t) (no : s.Acts u) :
    s.Acts (if p then t else u) := by
  split
  · exact yes
  · exact no

section
variable {o s : State} (h : o.Acts s)
include h

/-! ## Tool Table, Presetter Unit, Issue Manager and Cell Link Controller -/

theorem State.Acts.beside {u : State}
    (same : u = { s with tools := u.tools, presetter := u.presetter, issues := u.issues }) : o.Acts u :=
  h.trans (same ▸ (Act.beside s u.tools u.presetter u.issues).acts)

theorem State.Acts.modTools (f : List Tool → List Tool) : o.Acts (s.modTools f) := h.beside rfl
theorem State.Acts.modPresetter (f : Presetter → Presetter) : o.Acts (s.modPresetter f) := h.beside rfl
theorem State.Acts.modIssues (f : IssueManager → IssueManager) : o.Acts (s.modIssues f) := h.beside rfl
theorem State.Acts.modTool (t : Nat) (f : Tool → Tool) : o.Acts (s.modTool t f) := h.beside rfl
theorem State.Acts.dropTool (t : Nat) : o.Acts (s.dropTool t) := h.beside rfl
theorem State.Acts.claimTool (t : Nat) (owner : Owner) : o.Acts (s.claimTool t owner) := h.beside rfl
theorem State.Acts.releaseBack (t : Nat) : o.Acts (s.releaseBack t) := h.beside rfl
theorem State.Acts.modIssue (i : IssueNo) (f : Issue → Issue) : o.Acts (s.modIssue i f) := h.beside rfl
theorem State.Acts.freeRecord (i : IssueNo) : o.Acts (s.freeRecord i) := h.beside rfl

theorem State.Acts.modAxis (a : Axis) (f : AxisRec → AxisRec) : o.Acts (s.modAxis a f) := by
  cases a <;> exact h.beside rfl

theorem State.Acts.modLink {f : Link → Link} (rx : (f s.link).rx = s.link.rx) : o.Acts (s.modLink f) :=
  h.trans (Act.link s (f s.link) rx).acts

theorem State.Acts.modCell (c : CellNo) (f : Cell → Cell) : o.Acts (s.modCell c f) := h.modLink rfl

theorem State.Acts.placeCribState : o.Acts s.placeCribState :=
  h.modLink (f := fun l => { l with
    buffer0 := _, next0 := _, broadcastTimer := _, holdTimer := _ }) rfl

/-! ## Reports, work and results -/

theorem State.Acts.handReport (r : Report) : o.Acts (s.handReport r) := h.trans (Act.report s r).acts
theorem State.Acts.setWork (n : SlotNo) (w : Work) : o.Acts (s.setWork n w) := h.trans (Act.work s n w).acts

theorem State.Acts.completeWith (n : SlotNo) (status : Status) (result buffer : List Byte) :
    o.Acts (s.completeWith n status result buffer) := h.trans (Act.form s n status result buffer).acts

theorem State.Acts.complete (n : SlotNo) (status : Status) (result : List Byte) :
    o.Acts (s.complete n status result) := h.completeWith n status result []

theorem State.Acts.refuse (n : SlotNo) (status : Status) : o.Acts (s.refuse n status) := h.complete n status []

theorem State.Acts.completeRecord (n : SlotNo) (status : Status) (record : List Byte) :
    o.Acts (s.completeRecord n status record) := h.completeWith n status _ record

theorem State.Acts.refuseRecord (n : SlotNo) (status : Status) (empty : List Byte) :
    o.Acts (s.refuseRecord n status empty) := h.completeRecord n status _

/-! ## Unlock requests (R36, R37, R43) -/

theorem State.Acts.cancelRequest (num : Nat) : o.Acts (s.cancelRequest num).1 := h.trans (Act.cancelled s num).acts

theorem State.Acts.requestRemoval (mv : Movement) (p : PocketNo) (owner : Owner) :
    o.Acts (s.requestRemoval mv p owner).1 := by
  unfold State.requestRemoval
  split
  · exact h
  · rename_i passes
    obtain ⟨unclaimed, sound⟩ := State.of_removalCheck passes
    split
    · exact h.trans (Act.placed s mv p none owner unclaimed sound).acts
    · exact h

theorem State.Acts.requestInsertion (mv : Movement) (tool : Nat) (owner : Owner) :
    o.Acts (s.requestInsertion mv tool owner).1 := by
  unfold State.requestInsertion
  dsimp only
  split
  · exact h
  · rename_i p found
    have vacant : (s.pocket p).vacant = true := by
      split at found
      · exact (State.of_storePocket found).1
      · exact (State.of_returnPocket found).1
    obtain ⟨-, -, unclaimed, -, sound⟩ := Pocket.of_vacant vacant
    split
    · exact h.trans (Act.placed s mv p (some tool) owner unclaimed (by simp [sound])).acts
    · exact h

theorem State.Acts.repeat_startOne (n : Nat) : o.Acts (repeatStep State.startOne n s) := by
  induction n generalizing s with
  | zero => exact h
  | succ n ih => exact ih (h.trans (Act.started s).acts)

theorem State.Acts.startQueued : o.Acts s.startQueued := h.repeat_startOne s.queuedCount

/-! ## Buffers, queues and tries (R93 to R99) -/

theorem State.Acts.grantOne : o.Acts s.grantOne := by
  unfold State.grantOne
  split
  · exact h.modCell _ _
  · exact h

theorem State.Acts.grantPoll : o.Acts s.grantPoll := by
  unfold State.grantPoll
  split
  · exact h
  · split
    · exact h.modCell _ _
    · exact h

theorem State.Acts.grantBuffers : o.Acts s.grantBuffers := by
  unfold State.grantBuffers
  split
  · exact h
  · exact ((((((h.grantOne).grantOne).grantOne).grantOne).grantOne).grantOne).grantPoll

theorem State.Acts.queueExchange (c : CellNo) (p : Payload) (owner : ExchangeOwner) :
    o.Acts (s.queueExchange c p owner).1 := by
  unfold State.queueExchange
  split
  · exact h
  · exact (h.modCell c _).grantBuffers

theorem State.Acts.queueDeny (c : CellNo) (ref : RefKind) (value : Nat) (reason : Reason) (owner : ExchangeOwner) :
    o.Acts (s.queueDeny c ref value reason owner).1 := h.queueExchange c _ owner

theorem State.Acts.recall (c : CellNo) (owner : ExchangeOwner) : o.Acts (s.recall c owner).1 := by
  unfold State.recall
  split
  · exact h
  · split
    · exact h
    · exact (h.modCell c _).grantBuffers

theorem State.Acts.detachAttempt (c : CellNo) : o.Acts (s.detachAttempt c) := h.modLink rfl

theorem State.Acts.removeInFlight (c : CellNo) : o.Acts (s.removeInFlight c) :=
  ((h.modCell c _).detachAttempt c).grantBuffers

theorem State.Acts.endInFlight (c : CellNo) (outcome : ExchangeOutcome) : o.Acts (s.endInFlight c outcome).1 := by
  unfold State.endInFlight
  split
  · exact h
  · exact h.removeInFlight c

theorem State.Acts.setCount (c : CellNo) (count : Nat) (cause : StandingCause) : o.Acts (s.setCount c count cause) := by
  unfold State.setCount
  dsimp only
  split
  · exact h.modCell c _
  · exact (h.modCell c _).handReport _

theorem State.Acts.countSuccess (c : CellNo) : o.Acts (s.countSuccess c) := by
  unfold State.countSuccess
  dsimp only
  split
  · exact h
  · exact h.setCount c _ _

theorem State.Acts.countFailure (c : CellNo) (poll : Bool) : o.Acts (s.countFailure c poll) := by
  unfold State.countFailure
  dsimp only
  have answers : o.Acts (if poll then s.modCell c fun x => { x with answers := 0 } else s) := .ite (h.modCell c _) h
  generalize (if poll then s.modCell c fun x => { x with answers := 0 } else s) = t at answers ⊢
  exact .ite answers (answers.setCount c _ _)

theorem State.Acts.makeGood (c : CellNo) (cause : StandingCause) : o.Acts (s.makeGood c cause) := by
  unfold State.makeGood
  dsimp only
  split
  · exact h.modCell c _
  · exact (h.modCell c _).handReport _

theorem State.Acts.takeBack (c : CellNo) : o.Acts (s.takeBack c).1 := by
  unfold State.takeBack
  dsimp only
  split
  · exact ((h.modCell c _).detachAttempt c).grantBuffers
  · exact (h.modCell c _).grantBuffers

theorem State.Acts.afterFailure (c : CellNo) : o.Acts (s.afterFailure c).1 := by
  unfold State.afterFailure
  split
  · exact h
  · split
    · exact h.modCell c _
    · exact h.endInFlight c _

theorem State.Acts.failedTry (c : CellNo) : o.Acts (s.failedTry c).1 := by
  unfold State.failedTry
  split
  · exact h
  · rename_i e _
    have counted := (h.modCell c (Cell.modInFlight fun e => { e with window := none })).countFailure c e.isPoll
    generalize State.countFailure c e.isPoll _ = t at counted ⊢
    dsimp only
    split
    · have back := counted.takeBack c
      generalize t.takeBack c = p at back ⊢
      split
      · exact back.afterFailure c
      · exact back
    · exact counted.afterFailure c

theorem State.Acts.answerEnds (c : CellNo) (outcome : ExchangeOutcome) : o.Acts (s.answerEnds c outcome).1 :=
  ((h.modCell c _).countSuccess c).endInFlight c outcome

theorem State.Acts.deferOffer (c : CellNo) (answer : List Byte) : o.Acts (s.deferOffer c answer).1 := by
  unfold State.deferOffer
  split
  · exact h
  · split
    · exact (h.modCell c _).answerEnds c _
    · exact (((h.countSuccess c).modCell c _).detachAttempt c).grantBuffers

theorem State.Acts.enterOff : o.Acts s.enterOff :=
  (h.modLink rfl).handReport _

/-! ## Issues (R133 to R150) -/

theorem State.Acts.closeIssue (i : IssueNo) (result : Status) : o.Acts (s.closeIssue i result) := by
  unfold State.closeIssue
  split
  · exact h
  · dsimp only
    split
    · exact ((h.modTool _ _).complete _ _ _).freeRecord i
    · exact ((h.modTool _ _).handReport _).freeRecord i

theorem State.Acts.closeFailed (i : IssueNo) (st : Status) (withdraw : WithdrawStatus) :
    o.Acts (s.closeFailed i st withdraw) := (h.modIssue i _).closeIssue i _

theorem State.Acts.enterWithdrawing (i : IssueNo) (st : Status) : o.Acts (s.enterWithdrawing i st) := by
  unfold State.enterWithdrawing
  split
  · exact h
  · dsimp only
    split
    · exact (h.modIssue i _).queueExchange _ _ _
    · exact ((h.modIssue i _).queueExchange _ _ _).closeFailed i _ _

theorem State.Acts.openIssue (a : Ask) (t : Nat) : o.Acts (s.openIssue a t) := by
  unfold State.openIssue
  split
  · dsimp only
    split <;> split
    · exact (((h.claimTool t _).modIssues _).setWork _ _).queueExchange _ _ _
    · exact ((h.claimTool t _).modIssues _).queueExchange _ _ _
    · exact ((((h.claimTool t _).modIssues _).setWork _ _).queueExchange _ _ _).closeFailed _ _ _
    · exact (((h.claimTool t _).modIssues _).queueExchange _ _ _).closeFailed _ _ _
  · exact h

theorem State.Acts.acceptIssue {t : State} {a : Ask} (accepted : s.acceptIssue a = .ok t) : o.Acts t := by
  unfold State.acceptIssue at accepted
  split at accepted
  · cases accepted
  · split at accepted
    · cases accepted
    · cases accepted
      exact h.openIssue a _

theorem State.Acts.makePick (i : IssueNo) : o.Acts (s.makePick i) := by
  unfold State.makePick
  split
  · exact h
  · split
    · rename_i asked
      exact ((h.requestRemoval _ _ _).of_eq asked).modIssue i _
    · rename_i asked
      exact ((h.requestRemoval _ _ _).of_eq asked).enterWithdrawing i _

theorem State.Acts.offerEnded (i : IssueNo) (e : Exchange) (outcome : ExchangeOutcome) :
    o.Acts (s.offerEnded i e outcome) := by
  unfold State.offerEnded
  dsimp only
  have counted := h.modIssue i fun x => { x with tries := e.triesUsed, deferrals := e.deferrals }
  split
  · split
    · exact (counted.modIssue i _).enterWithdrawing i _
    · exact (counted.modIssue i _).makePick i
  · exact counted.closeFailed i _ _
  · exact counted.closeFailed i _ _
  · exact (counted.modIssue i _).enterWithdrawing i _
  · split
    · exact (counted.modIssue i _).closeFailed i _ _
    · exact counted.closeFailed i _ _
  · split
    · exact (counted.modIssue i _).enterWithdrawing i _
    · exact counted.closeFailed i _ _

theorem State.Acts.withdrawEnded (i : IssueNo) (outcome : ExchangeOutcome) : o.Acts (s.withdrawEnded i outcome) := by
  unfold State.withdrawEnded
  split
  all_goals first
    | exact h.closeFailed i _ _
    | exact h.enterWithdrawing i _

theorem State.Acts.offerDeferred (i : IssueNo) (e : Exchange) : o.Acts (s.offerDeferred i e) := by
  unfold State.offerDeferred
  split
  · exact h
  · dsimp only
    split
    · exact (((h.modIssue i _).recall _ _).modIssue i _).enterWithdrawing i _
    · exact h.modIssue i _

theorem State.Acts.pickSensed (i : IssueNo) : o.Acts (s.pickSensed i) := by
  unfold State.pickSensed
  split
  · exact h
  · exact (h.modTool _ _).modIssue i _

theorem State.Acts.pickEnded (i : IssueNo) (outcome : MoveOutcome) : o.Acts (s.pickEnded i outcome) := by
  cases outcome with
  | sensed => exact h.pickSensed i
  | windowExpired => exact h.enterWithdrawing i _
  | lockJam => exact h.enterWithdrawing i _
  | cancelled => exact h.enterWithdrawing i _
  | drawerClosed => exact h.enterWithdrawing i _

theorem State.Acts.cancelPick (x : Issue) : o.Acts (s.cancelPick x) := by
  unfold State.cancelPick
  split
  · exact h.cancelRequest _
  · exact h

theorem State.Acts.cancelIssue (i : IssueNo) : o.Acts (s.cancelIssue i).1 := by
  unfold State.cancelIssue
  split
  · exact h
  · split
    · exact h
    · exact h
    · exact (h.cancelPick _).enterWithdrawing i _
    · exact (h.cancelPick _).enterWithdrawing i _
    · split
      · exact h
      · dsimp only
        split
        · exact ((h.modIssue i _).recall _ _).modIssue i _
        · split
          · exact ((((h.modIssue i _).recall _ _).modIssue i _).modIssue i _).enterWithdrawing i _
          · exact (((h.modIssue i _).recall _ _).modIssue i _).closeFailed i _ _

theorem State.Acts.issueCutOff (i : IssueNo) (c : CellNo) : o.Acts (s.issueCutOff i c) := by
  unfold State.issueCutOff
  split
  · exact h
  · split
    · exact ((h.cancelPick _).modIssue i _).closeFailed i _ _
    · exact h

theorem State.Acts.issuesCutOff (c : CellNo) : o.Acts (s.issuesCutOff c) :=
  h.trans (.foldl (fun t i => (Acts.refl t).issueCutOff i c) _ s)

end
end Sys2Proof.Machine
end

section
/-! The contexts of the long orders, what is handed to owners, and the work of every order, event and frame, as runs of primitive
changes (`State.Acts`). -/

namespace Sys2Proof.Machine

section
variable {o s : State} (h : o.Acts s)
include h

/-! ## Axes, reference and measure cycle (R49 to R63) -/

theorem State.Acts.unhome (set : AxisSet) : o.Acts (s.unhome set) := h.beside rfl

theorem State.Acts.loseReference (cause : Nat) (axes : AxisSet) : o.Acts (s.loseReference cause axes) := by
  unfold State.loseReference
  split
  · exact h
  · exact (h.modPresetter _).handReport _

theorem State.Acts.storeReference (m : Means) (masterLength masterRadius : Nat) :
    o.Acts (s.storeReference m masterLength masterRadius) := h.beside rfl

theorem State.Acts.endCycle (fault : Option Status) (means : Option Means) : o.Acts (s.endCycle fault means).1 :=
  h.beside rfl

theorem State.Acts.startCycle (owner : SlotNo) : o.Acts (s.startCycle owner) := h.modPresetter _

theorem State.Acts.checkLimits : o.Acts s.checkLimits.1 := by
  unfold State.checkLimits
  split
  · exact h.endCycle (some .overtravel) none
  · exact h

theorem State.Acts.evaluateCycle : o.Acts s.evaluateCycle.1 := by
  unfold State.evaluateCycle
  split
  · split
    · exact h.beside rfl
    · exact h
  · exact h

/-! ## HOME, CALIBRATE and MEASURE (R52 to R80) -/

theorem State.Acts.endHome (n : SlotNo) (status : Status) : o.Acts (s.endHome n status) := by
  unfold State.endHome
  split
  · exact (h.unhome _).complete n _ _
  · exact h

theorem State.Acts.checkHomed (n : SlotNo) : o.Acts (s.checkHomed n) := by
  unfold State.checkHomed
  split
  · exact .ite (h.complete n _ _) h
  · exact h

theorem State.Acts.calibrateOutcome (n : SlotNo) (masterLength masterRadius : Nat) (c : CycleOutcome) :
    o.Acts (s.calibrateOutcome n masterLength masterRadius c) := by
  unfold State.calibrateOutcome
  split
  · exact (h.storeReference _ _ _).completeRecord n _ _
  · exact h.completeRecord n _ _

theorem State.Acts.finishMeasure (n : SlotNo) (m : MeasureCtx) (status : Status) :
    o.Acts (s.finishMeasure n m status) := (h.modTool _ _).completeRecord n _ _

theorem State.Acts.withdrawCycle (n : SlotNo) : o.Acts (s.withdrawCycle n) := by
  unfold State.withdrawCycle
  exact .ite (h.endCycle _ _) h

theorem State.Acts.abandonFetch (n : SlotNo) (m : MeasureCtx) (pending : Status) :
    o.Acts (s.abandonFetch n m pending) := by
  unfold State.abandonFetch
  dsimp only
  split
  · exact h.finishMeasure n _ _
  · rename_i num _
    have cancelled := h.cancelRequest num
    split <;> rename_i eq <;> rw [eq] at cancelled
    · exact cancelled.finishMeasure n _ _
    · exact cancelled.setWork n _

theorem State.Acts.earlySeat (n : SlotNo) (m : MeasureCtx) : o.Acts (s.earlySeat n m) :=
  (h.withdrawCycle n).abandonFetch n m _

theorem State.Acts.askStore (n : SlotNo) (m : MeasureCtx) (verdict : ToolState) :
    o.Acts (s.askStore n m verdict) := by
  unfold State.askStore
  dsimp only
  have asked := h.requestInsertion (if verdict = .passed then Movement.store else .returnPut) m.tool (.slot n)
  split <;> rename_i eq <;> rw [eq] at asked
  · exact asked.setWork n _
  · exact asked.finishMeasure n _ _

theorem State.Acts.evaluateMeasure (n : SlotNo) (m : MeasureCtx) (c : CycleOutcome) (means : Means) :
    o.Acts (s.evaluateMeasure n m c means) := by
  unfold State.evaluateMeasure
  dsimp only
  split
  · exact ((h.modTool _ _).modPresetter _).askStore n _ _
  · exact h.finishMeasure n _ _

theorem State.Acts.measureCycleOutcome (n : SlotNo) (m : MeasureCtx) (c : CycleOutcome) :
    o.Acts (s.measureCycleOutcome n m c) := by
  unfold State.measureCycleOutcome
  split
  · exact h
  · exact .ite h (h.abandonFetch n _ _)
  all_goals
    split
    · exact h.evaluateMeasure n m _ _
    · exact h.finishMeasure n _ _

theorem State.Acts.fetchEnded (n : SlotNo) (m : MeasureCtx) (outcome : MoveOutcome) :
    o.Acts (s.fetchEnded n m outcome) := by
  unfold State.fetchEnded
  dsimp only
  split
  · exact h.finishMeasure n _ _
  · split
    · exact h.setWork n _
    · exact (h.withdrawCycle n).finishMeasure n _ _

theorem State.Acts.storeEnded (n : SlotNo) (m : MeasureCtx) (outcome : MoveOutcome) :
    o.Acts (s.storeEnded n m outcome) := h.finishMeasure n _ _

theorem State.Acts.measureMove (n : SlotNo) (m : MeasureCtx) (outcome : MoveOutcome) :
    o.Acts (s.measureMove n m outcome) := by
  unfold State.measureMove
  split
  · exact h.storeEnded n m _
  all_goals exact h.fetchEnded n m _

theorem State.Acts.measureSeated (n : SlotNo) (m : MeasureCtx) : o.Acts (s.measureSeated n m) := by
  unfold State.measureSeated
  split
  · exact h.earlySeat n m
  · exact (h.modTool _ _).setWork n _
  all_goals exact h

/-! ## STOW, RETURN, REMOVE and CLEAR_FAULT (R45, R46, R81, R82, R159 to R163) -/

theorem State.Acts.stowEnded (n : SlotNo) (w : StowCtx) (outcome : MoveOutcome) :
    o.Acts (s.stowEnded n w outcome) := (h.modTool _ _).complete n _ _

theorem State.Acts.returnStep (n : SlotNo) (r : ReturnCtx) : o.Acts (s.returnStep n r) := by
  unfold State.returnStep
  split
  · exact .ite (h.setWork n _) (h.complete n _ _)
  · exact h.setWork n _

theorem State.Acts.queueReturnWithdraw (n : SlotNo) (r : ReturnCtx) : o.Acts (s.queueReturnWithdraw n r).1 := by
  unfold State.queueReturnWithdraw
  split
  · exact h
  · rename_i c m _
    have queued := h.queueExchange c (.withdraw 0xFF r.tool m) (.slot n)
    split <;> rename_i eq <;> rw [eq] at queued <;> exact queued

theorem State.Acts.recallWithdraw (n : SlotNo) (r : ReturnCtx) : o.Acts (s.recallWithdraw n r).1 := by
  unfold State.recallWithdraw
  split
  · exact h
  · rename_i c _ _
    have recalled := h.recall c (.slot n)
    split <;> rename_i eq <;> rw [eq] at recalled <;> exact recalled

theorem State.Acts.returnMove (n : SlotNo) (r : ReturnCtx) (outcome : MoveOutcome) :
    o.Acts (s.returnMove n r outcome) := by
  unfold State.returnMove
  exact .ite (((h.modTool _ _).recallWithdraw n _).returnStep n _) ((h.modTool _ _).returnStep n _)

theorem State.Acts.returnWithdrawEnded (n : SlotNo) (r : ReturnCtx) (e : Exchange) (outcome : ExchangeOutcome) :
    o.Acts (s.returnWithdrawEnded n r e outcome) := by
  unfold State.returnWithdrawEnded
  dsimp only
  split
  case h_6 => exact (h.queueReturnWithdraw n _).returnStep n _
  all_goals exact h.returnStep n _

theorem State.Acts.removeEnded (n : SlotNo) (tool : Nat) (outcome : MoveOutcome) :
    o.Acts (s.removeEnded n tool outcome) := by
  unfold State.removeEnded
  split
  · exact (h.dropTool _).complete n _ _
  · exact (h.releaseBack _).refuse n _

theorem State.Acts.clearOutEnded (n : SlotNo) (p : PocketNo) (outcome : MoveOutcome) :
    o.Acts (s.clearOutEnded n p outcome) := by
  unfold State.clearOutEnded
  split
  · exact h.complete n _ _
  · exact h.refuse n _

/-! ## Outcomes handed to owners (R39, R40, R50, R54, R59 to R61, R93, R116) -/

theorem State.Acts.deliverMove (owner : Owner) (outcome : MoveOutcome) : o.Acts (s.deliverMove owner outcome) := by
  unfold State.deliverMove
  split
  · split
    · exact h.pickEnded _ _
    · exact h
  · split
    · exact h.measureMove _ _ _
    · exact h.stowEnded _ _ _
    · exact h.returnMove _ _ _
    · exact h.removeEnded _ _ _
    · exact h.clearOutEnded _ _ _
    all_goals exact h

theorem State.Acts.deliverOpened (owner : Owner) : o.Acts (s.deliverOpened owner) := by
  unfold State.deliverOpened
  split
  · split
    · exact h.modIssue _ _
    · exact h
  · split
    · exact h.setWork _ _
    · exact h.setWork _ _
    all_goals exact h

theorem State.Acts.deliverCycle (n : SlotNo) (c : CycleOutcome) : o.Acts (s.deliverCycle n c) := by
  unfold State.deliverCycle
  split
  · exact h.calibrateOutcome n _ _ c
  · exact h.measureCycleOutcome n _ c
  all_goals exact h

theorem State.Acts.faultCycle (fault : Status) : o.Acts (s.faultCycle fault) := by
  unfold State.faultCycle
  split
  · exact (h.endCycle (some fault) none).deliverCycle _ _
  · exact h

theorem State.Acts.enforceLimits : o.Acts s.enforceLimits := by
  unfold State.enforceLimits
  split
  · have checked := h.checkLimits
    split <;> rename_i eq <;> rw [eq] at checked
    · exact checked.deliverCycle _ _
    · exact checked
  · exact h

theorem State.Acts.evaluateIfComplete : o.Acts s.evaluateIfComplete := by
  unfold State.evaluateIfComplete
  split
  · have evaluated := h.evaluateCycle
    split <;> rename_i eq <;> rw [eq] at evaluated
    · exact evaluated.deliverCycle _ _
    · exact evaluated
  · exact h

theorem State.Acts.loseAxis (a : Axis) : o.Acts (s.loseAxis a) :=
  (((h.modAxis a _).loseReference 2 _).trans
    (.foldl (fun u n => (Acts.refl u).endHome n .axisLost) _ _)).faultCycle .axisLost

theorem State.Acts.reportUndelivered (c : CellNo) (t : Nat) (cause : UndeliveredCause) (tries : Nat) :
    o.Acts (s.reportUndelivered c t cause tries) := h.handReport _

theorem State.Acts.lifeEndEnded (c : CellNo) (t : Nat) (e : Exchange) (outcome : ExchangeOutcome) :
    o.Acts (s.lifeEndEnded c t e outcome) := by
  unfold State.lifeEndEnded
  split
  · exact h
  all_goals exact h.reportUndelivered c t _ _

theorem State.Acts.exchangeEnded (c : CellNo) (e : Exchange) (outcome : ExchangeOutcome) :
    o.Acts (s.exchangeEnded c e outcome) := by
  unfold State.exchangeEnded
  split
  · split
    · exact h.offerEnded _ e _
    · exact h
  · split
    · exact h.withdrawEnded _ _
    · exact h
  · split
    · exact h.returnWithdrawEnded _ _ e _
    · exact h
  · exact h.lifeEndEnded c _ e _
  · exact h

theorem State.Acts.exchangeDeferred (e : Exchange) : o.Acts (s.exchangeDeferred e) := by
  unfold State.exchangeDeferred
  split
  · split
    · exact h.offerDeferred _ e
    · exact h
  · exact h

theorem State.Acts.deliverLink (e : LinkEvent) : o.Acts (s.deliverLink e) := by
  cases e with
  | ended c e outcome => exact h.exchangeEnded c e outcome
  | deferred c e => exact h.exchangeDeferred e
  | cutOff c => exact h.issuesCutOff c

end

theorem State.Acts.deliverAll {o : State} {p : State × List LinkEvent} (h : o.Acts p.1) : o.Acts (State.deliverAll p) :=
  h.trans (.foldl (fun s e => (Acts.refl s).deliverLink e) p.2 p.1)

section
variable {o s : State} (h : o.Acts s)
include h

/-! ## Link restart (R106) -/

theorem State.Acts.cellsGood : o.Acts s.cellsGood := by
  unfold State.cellsGood
  have good := h.trans (.foldl (fun t c => (Acts.refl t).makeGood c .linkRestart) (List.finRange 24) s)
  generalize List.foldl _ s _ = t at good ⊢
  exact good.modLink rfl

theorem State.Acts.linkActive (cause : LinkCause) : o.Acts (s.linkActive cause) := by
  unfold State.linkActive
  exact .ite ((h.modLink rfl).handReport _) (h.modLink rfl)

theorem State.Acts.restartTimers : o.Acts s.restartTimers := h.modLink rfl

/-! ## Orders that configure the part, and orders on tool records -/

theorem State.Acts.doSetCell (img : SlotImage) (n : SlotNo) : o.Acts (doSetCell img n s) := by
  unfold Machine.doSetCell
  dsimp only
  split
  · exact .ite ((h.modCell _ _).complete n _ _) (h.refuse n _)
  · exact h.refuse n _

theorem State.Acts.doSetRight (img : SlotImage) (n : SlotNo) : o.Acts (doSetRight img n s) := by
  unfold Machine.doSetRight
  split
  · exact .ite (.ite (h.refuse n _) ((h.modLink rfl).complete n _ _)) (h.refuse n _)
  · exact h.refuse n _

theorem State.Acts.doLockLayout (n : SlotNo) : o.Acts (doLockLayout n s) :=
  (h.trans (Act.layout s { s.crib with layoutLock := true } rfl rfl rfl fun _ => ⟨_, rfl⟩).acts).complete n _ _

theorem State.Acts.doRestoreCell (img : SlotImage) (n : SlotNo) : o.Acts (doRestoreCell img n s) := by
  unfold Machine.doRestoreCell
  split
  · exact .ite (h.refuse n _) ((h.makeGood _ _).complete n _ _)
  · exact h.refuse n _

theorem State.Acts.doReadTool (img : SlotImage) (n : SlotNo) : o.Acts (doReadTool img n s) := by
  unfold Machine.doReadTool
  split
  · exact h.refuse n _
  · split
    · exact h.refuse n _
    · exact h.complete n _ _

theorem State.Acts.doFind (img : SlotImage) (n : SlotNo) : o.Acts (doFind img n s) := by
  unfold Machine.doFind
  exact .ite (h.refuse n _) (h.completeWith n _ _ _)

theorem State.Acts.doSetLife (img : SlotImage) (n : SlotNo) : o.Acts (doSetLife img n s) := by
  unfold Machine.doSetLife
  dsimp only
  split
  · split
    · exact h.refuse n _
    · split
      · exact h.refuse n _
      · exact .ite (h.refuse n _) (.ite (h.refuse n _) ((h.modTool _ _).complete n _ _))
  · exact h.refuse n _

theorem State.Acts.doRegrind (img : SlotImage) (n : SlotNo) : o.Acts (doRegrind img n s) := by
  unfold Machine.doRegrind
  dsimp only
  split
  · exact h.refuse n _
  · split
    · exact h.refuse n _
    · exact .ite (h.refuse n _) (.ite (h.refuse n _) (.ite (h.refuse n _) ((h.modTool _ _).complete n _ _)))

theorem State.Acts.doSetLimits (img : SlotImage) (n : SlotNo) (setup : s.order.service = .setup) :
    o.Acts (doSetLimits img n s) := by
  unfold Machine.doSetLimits
  dsimp only
  refine .ite (h.refuse n _) (.ite (h.refuse n _) ?_)
  have stored := h.trans (Act.limits s (limitsOf img s.limits) setup).acts
  have restarted : o.Acts ((s.storeLimits (limitsOf img s.limits)).restartBroadcast ((par4 img 0).testBit 15)) := by
    unfold State.restartBroadcast
    exact .ite (stored.modLink rfl) stored
  exact (State.Acts.ite restarted.startQueued restarted).complete n _ _

/-- A pocket changed in its content or its sensor alone. -/
theorem State.Acts.changePocket {p : PocketNo} {f : Pocket → Pocket} (change : s.PocketChange p f) :
    o.Acts (s.changePocket p f) := h.trans (Act.pocket s p f change).acts

omit h in
theorem State.PocketChange.of_kept {p : PocketNo} {f : Pocket → Pocket} (claim : (f (s.pocket p)).claim = (s.pocket p).claim)
    (lock : (f (s.pocket p)).lock = (s.pocket p).lock) (fault : (f (s.pocket p)).fault = (s.pocket p).fault) :
    s.PocketChange p f := ⟨claim, lock, .inl fault⟩

theorem State.Acts.enrolPocket (x : Tool) : o.Acts (s.enrolPocket x) := by
  unfold State.enrolPocket
  split
  · rename_i p _
    refine h.changePocket ⟨rfl, rfl, ?_⟩
    dsimp only
    split
    · rename_i sorted
      exact .inr (.inr (.inl sorted.1))
    · exact .inl rfl
  · exact h

theorem State.Acts.doEnrol (img : SlotImage) (n : SlotNo) : o.Acts (doEnrol img n s) := by
  unfold Machine.doEnrol
  split
  · exact h.refuse n _
  · split
    · exact h.refuse n _
    · exact ((h.modTools _).enrolPocket _).complete n _ _

theorem State.Acts.removeFromPocket (n : SlotNo) (t : Nat) (p : PocketNo) : o.Acts (s.removeFromPocket n t p) := by
  unfold State.removeFromPocket
  refine .ite (h.refuse n _) (.ite (h.refuse n _) ?_)
  have asked := (h.claimTool t (.slot n)).requestRemoval .removeOut p (.slot n)
  split <;> rename_i eq <;> rw [eq] at asked
  · exact asked.setWork n _
  · exact (asked.releaseBack t).refuse n _

theorem State.Acts.doRemove (img : SlotImage) (n : SlotNo) : o.Acts (doRemove img n s) := by
  unfold Machine.doRemove
  dsimp only
  refine .ite (h.refuse n _) ?_
  split
  · exact h.refuse n _
  · refine .ite (h.refuse n _) ?_
    split
    · exact .ite (h.removeFromPocket n _ _) (((h.dropTool _).changePocket (.of_kept rfl rfl rfl)).complete n _ _)
    · exact (h.dropTool _).complete n _ _

/-! ## Orders that set work going, CANCEL and SCAN -/

theorem State.Acts.startHoming (axes : AxisSet) : o.Acts (s.startHoming axes) := h.beside rfl

theorem State.Acts.doHome (img : SlotImage) (n : SlotNo) : o.Acts (doHome img n s) := by
  unfold Machine.doHome
  split
  · exact h.complete n _ _
  · exact .ite (h.complete n _ _) (.ite (h.complete n _ _) (((h.loseReference _ _).startHoming _).setWork n _))

theorem State.Acts.doCalibrate (n : SlotNo) : o.Acts (doCalibrate n s) := by
  unfold Machine.doCalibrate
  split
  · exact h.refuseRecord n _ _
  · exact ((h.setWork n _).startCycle n).enforceLimits

theorem State.Acts.startMeasure (n : SlotNo) (x : Tool) : o.Acts (s.startMeasure n x) := by
  unfold State.startMeasure
  cases place : x.location with
  | pocket p =>
    dsimp only
    have asked := (h.claimTool x.number (.slot n)).requestRemoval .fetch p (.slot n)
    generalize State.requestRemoval .fetch p (.slot n) _ = q at asked ⊢
    obtain ⟨u, number | st⟩ := q
    · exact (asked.setWork n _).startCycle n
    · exact asked.finishMeasure n _ _
  | presetter => exact (((h.claimTool x.number (.slot n)).setWork n _).startCycle n).enforceLimits
  | loose => exact ((h.claimTool x.number (.slot n)).setWork n _).startCycle n
  | cell c m => exact ((h.claimTool x.number (.slot n)).setWork n _).startCycle n

theorem State.Acts.doMeasure (img : SlotImage) (n : SlotNo) : o.Acts (doMeasure img n s) := by
  unfold Machine.doMeasure
  dsimp only
  refine .ite (h.refuseRecord n _ _) ?_
  split
  · exact h.refuseRecord n _ _
  · split
    · exact h.refuseRecord n _ _
    · exact h.startMeasure n _

theorem State.Acts.startStow (n : SlotNo) (x : Tool) : o.Acts (s.startStow n x) := by
  unfold State.startStow
  dsimp only
  have asked := (h.claimTool x.number (.slot n)).requestInsertion
    (if x.state = .passed then Movement.store else .returnPut) x.number (.slot n)
  split <;> rename_i eq <;> rw [eq] at asked
  · exact asked.setWork n _
  · exact (asked.releaseBack _).refuse n _

theorem State.Acts.doStow (img : SlotImage) (n : SlotNo) : o.Acts (doStow img n s) := by
  unfold Machine.doStow
  dsimp only
  refine .ite (h.refuse n _) ?_
  split
  · exact h.refuse n _
  · split
    · exact h.refuse n _
    · exact h.startStow n _

theorem State.Acts.doIssue (img : SlotImage) (n : SlotNo) : o.Acts (doIssue img n s) := by
  unfold Machine.doIssue
  split
  · exact h.refuse n _
  · split
    · exact h.refuse n _
    · rename_i accepted
      exact h.acceptIssue accepted

theorem State.Acts.startReturn (n : SlotNo) (x : Tool) : o.Acts (s.startReturn n x) := by
  unfold State.startReturn
  have asked := (h.claimTool x.number (.slot n)).requestInsertion .returnPut x.number (.slot n)
  split <;> rename_i eq <;> rw [eq] at asked
  · exact (asked.modTool _ _).refuse n _
  · exact (asked.queueReturnWithdraw n _).setWork n _

theorem State.Acts.doReturnTool (img : SlotImage) (n : SlotNo) : o.Acts (doReturnTool img n s) := by
  unfold Machine.doReturnTool
  dsimp only
  refine .ite (h.refuse n _) ?_
  split
  · exact h.refuse n _
  · split
    · exact h.refuse n _
    · exact h.startReturn n _

theorem State.Acts.cancelMove (num : Nat) {ended : State → State} (end_ : ∀ {t : State}, o.Acts t → o.Acts (ended t)) :
    o.Acts (s.cancelMove num ended) := by
  unfold State.cancelMove
  have cancelled := h.cancelRequest num
  split <;> rename_i eq <;> rw [eq] at cancelled
  · exact end_ cancelled
  · exact cancelled

theorem State.Acts.abortCycle (m : SlotNo) : o.Acts (s.abortCycle m) := by
  unfold State.abortCycle
  exact .ite (h.faultCycle _) h

theorem State.Acts.cancelContext (m : SlotNo) : o.Acts (s.cancelContext m).1 := by
  unfold State.cancelContext
  split
  · exact h.endHome m _
  · exact h.abortCycle m
  · split
    · exact h.cancelMove _ fun ended => ended.storeEnded m _ _
    · exact h.abortCycle m
  · exact h.cancelMove _ fun ended => ended.stowEnded m _ _
  · split
    · exact h.cancelIssue _
    · exact h
  · split
    · exact h
    · exact h.cancelMove _ fun ended => ended.returnMove m _ _
  · exact h.cancelMove _ fun ended => ended.removeEnded m _ _
  · exact h
  · exact h.cancelMove _ fun ended => ended.clearOutEnded m _ _
  · exact h

theorem State.Acts.doCancel (img : SlotImage) (n : SlotNo) : o.Acts (doCancel img n s) := by
  unfold Machine.doCancel
  dsimp only
  split
  · split
    · refine .ite (h.refuse n _) ?_
      unfold State.cancelBySlot
      split
      · exact .ite ((h.cancelContext _).complete n _ _) (h.refuse n _)
      · exact h.refuse n _
    · exact h.refuse n _
  · refine .ite ?_ (h.refuse n _)
    unfold State.cancelById
    split
    · exact (h.cancelIssue _).complete n _ _
    · exact h.refuse n _
  · exact h.refuse n _

theorem State.Acts.clearFaultOf (n : SlotNo) (p : PocketNo) (unclaimed : (s.pocket p).claim = none) :
    o.Acts (s.clearFaultOf n p) := by
  unfold State.clearFaultOf
  have clear (sorted : (s.pocket p).fault = .unknownItem ∨ (s.pocket p).fault = .forced) : o.Acts (s.clearNow n p) :=
    (h.changePocket ⟨rfl, rfl, .inr (.inr (sorted.imp_right .inl))⟩).complete n _ _
  dsimp only
  split
  · exact h.refuse n _
  · rename_i jammed
    split
    · rename_i lock
      exact (h.trans (Act.relocked s p (by simp [lock]) unclaimed jammed).acts).setWork n _
    · exact h.refuse n _
  · exact clear (.inr ‹_›)
  · exact clear (.inl ‹_›)
  · exact h.refuse n _
  · have asked := h.requestRemoval .clearOut p (.slot n)
    split <;> rename_i eq <;> rw [eq] at asked
    · exact asked.setWork n _
    · exact asked.refuse n _

theorem State.Acts.doClearFault (img : SlotImage) (n : SlotNo) : o.Acts (doClearFault img n s) := by
  unfold Machine.doClearFault
  split
  · exact h.refuse n _
  · split
    · exact h.refuse n _
    · split
      · exact h.refuse n _
      · rename_i unclaimed
        exact h.clearFaultOf n _ (by simpa using unclaimed)

theorem State.Acts.doScan (img : SlotImage) (n : SlotNo) : o.Acts (doScan img n s) := by
  unfold Machine.doScan
  dsimp only
  split
  all_goals first
    | exact h.refuse n _
    | exact .ite (h.completeWith n _ _ _) (h.refuse n _)

end
end Sys2Proof.Machine
end

section
/-! The events of the drawer chain, of the station, of the link and of the timers as runs of primitive changes (`State.Acts`), and
the commands whose meaning is such a run (`State.Runs`). -/

namespace Sys2Proof.Machine

/-- An entry of a vector made of the entries of a function. -/
theorem get_ofFinRange {α : Type} {n : Nat} (f : Fin n → α) (size : ((List.finRange n).map f).toArray.size = n) (i : Fin n) :
    (Vector.mk ((List.finRange n).map f).toArray size).get i = f i := by
  simp [Vector.get_eq_getElem]

theorem Crib.pocket_afterScan (c : Crib) (modules : Vector (Option Word) 16) (p : PocketNo) :
    (c.afterScan modules).pockets.get p = { c.pockets.get p with sensor := c.firstSensor modules p } := by
  rw [Crib.afterScan, get_ofFinRange]

section
variable {o s : State} (h : o.Acts s)
include h

/-! ## The drawer chain (R24 to R28, R39 to R42, R48) -/

omit h in
/-- A request found by the claim of a pocket is listed, with the number of the claim. -/
theorem State.of_requestAt {p : PocketNo} {r : Request} (found : s.requestAt p = some r) :
    r ∈ s.crib.requests ∧ (s.pocket p).claim = some r.number := by
  obtain ⟨num, claim, request⟩ := Option.bind_eq_some_iff.mp found
  have number : r.number = num := by simpa using List.find?_some request
  exact ⟨List.mem_of_find?_eq_some request, number ▸ claim⟩

theorem State.Acts.confirmReleased (p : PocketNo) (opening : (s.pocket p).lock = .opening) :
    o.Acts (s.confirmReleased p) := by
  unfold State.confirmReleased
  cases request : s.requestAt p with
  | none => exact h.trans (Act.releasedAlone s p opening request).acts
  | some r => exact (h.trans (Act.released s p r _ opening request).acts).deliverOpened _

omit h in
theorem State.pocket_setLock (p q : PocketNo) (lock : Lock) (s : State) :
    (s.setLock p lock).pocket q =
      if p = q then { s.pocket p with lock := lock, confirm := none, stamp := s.clock } else s.pocket q :=
  State.pocket_changePocket p q _ s

theorem State.Acts.relockConfirmed (n : SlotNo) (p : PocketNo) (locked : (s.pocket p).lock = .locked) :
    o.Acts (s.relockConfirmed n p) := (h.changePocket ⟨rfl, rfl, .inr (.inl locked)⟩).complete n _ _

theorem State.Acts.confirmEngaged (p : PocketNo) : o.Acts (s.confirmEngaged p) := by
  unfold State.confirmEngaged
  cases request : s.requestAt p with
  | some r => exact (h.trans (Act.engaged s p r request).acts).startQueued
  | none =>
    have locked := h.trans (Act.engagedAlone s p request).acts
    cases s.relockOf p with
    | some n => exact (locked.relockConfirmed n p (by rw [State.pocket_setLock, if_pos rfl])).startQueued
    | none => exact locked.startQueued

theorem State.Acts.jamOpening (p : PocketNo) (away : (s.pocket p).lock ≠ .locked) : o.Acts (s.jamOpening p) := by
  unfold State.jamOpening
  cases request : s.requestAt p with
  | none => exact h.trans (Act.jammedAlone s p away request).acts
  | some r => exact ((h.trans (Act.jammed s p r away request).acts).deliverMove _ _).handReport _

theorem State.Acts.jamClosing (p : PocketNo) (away : (s.pocket p).lock ≠ .locked) : o.Acts (s.jamClosing p) := by
  unfold State.jamClosing
  cases request : s.requestAt p with
  | some r => exact (h.trans (Act.jammed s p r away request).acts).handReport _
  | none =>
    have jammed := h.trans (Act.jammedAlone s p away request).acts
    cases s.relockOf p with
    | some n => exact jammed.refuse n _
    | none => exact jammed.handReport _

theorem State.Acts.closeRequest (r : Request) (outcome : MoveOutcome) (listed : r ∈ s.crib.requests)
    (live : r.state = .opening ∨ r.state = .opened) : o.Acts (s.closeRequest r outcome) :=
  (h.trans (Act.closed s r outcome listed live).acts).deliverMove _ _

theorem State.Acts.clearReleased (p : PocketNo) : o.Acts (s.clearReleased p) := by
  unfold State.clearReleased
  split
  · exact .ite h (h.changePocket (.of_kept rfl rfl rfl))
  · exact h

/-- A change that a started request of the pocket expects. -/
theorem State.Acts.applyChange (r : Request) (listed : r ∈ s.crib.requests)
    (live : r.state = .opening ∨ r.state = .opened) : o.Acts (s.applyChange r) := by
  unfold State.applyChange
  dsimp only
  split
  · exact h.changePocket ⟨rfl, rfl, .inr (.inr (.inr (.inr (.inr ⟨r, listed, rfl, live⟩))))⟩
  · exact (h.changePocket (.of_kept rfl rfl rfl)).modTool _ _
  · exact (h.changePocket (.of_kept rfl rfl rfl)).modTool _ _
  · exact h.changePocket (.of_kept rfl rfl rfl)
  · exact h.changePocket (.of_kept rfl rfl rfl)
  all_goals
    split
    · exact (h.changePocket (.of_kept rfl rfl rfl)).modTool _ _
    · exact h.changePocket (.of_kept rfl rfl rfl)

omit h in
theorem State.requests_applyChange (r : Request) (s : State) : (s.applyChange r).crib.requests = s.crib.requests := by
  unfold State.applyChange
  dsimp only
  split
  case h_6 | h_7 | h_8 => split <;> rfl
  all_goals rfl

theorem State.Acts.expectedChange (r : Request) (listed : r ∈ s.crib.requests)
    (live : r.state = .opening ∨ r.state = .opened) : o.Acts (s.expectedChange r) := by
  have still : r ∈ (s.applyChange r).crib.requests := (State.requests_applyChange r s).symm ▸ listed
  have closed := (h.applyChange r listed live).closeRequest r .sensed still live
  exact .ite (closed.clearReleased _) closed

theorem State.Acts.unexpectedRemoval (p : PocketNo) : o.Acts (s.unexpectedRemoval p) := by
  unfold State.unexpectedRemoval
  split
  · rename_i inService content
    refine ((h.changePocket ⟨rfl, rfl, ?_⟩).modTool _ _).handReport _
    have service : s.order.service = .service := by simpa [State.inService] using inService
    dsimp only
    cases fault : (s.pocket p).fault <;> simp [service]
  · exact h.changePocket (.of_kept rfl rfl rfl)

theorem State.Acts.unexpectedInsertion (p : PocketNo) : o.Acts (s.unexpectedInsertion p) := by
  unfold State.unexpectedInsertion
  dsimp only
  split
  · rename_i inService
    refine (h.changePocket ⟨rfl, rfl, ?_⟩).handReport _
    have service : s.order.service = .service := by simpa [State.inService] using inService.1
    dsimp only
    cases fault : (s.pocket p).fault <;> simp [service]
  · exact h.changePocket (.of_kept rfl rfl rfl)

theorem State.Acts.modLayout {f : Crib → Crib} (requests : (f s.crib).requests = s.crib.requests)
    (next : (f s.crib).nextNumber = s.crib.nextNumber) (budget : (f s.crib).lockBudget = s.crib.lockBudget)
    (pockets : ∀ p, ∃ x, (f s.crib).pockets.get p = { s.pocket p with sensor := x }) : o.Acts (s.modCrib f) :=
  h.trans (Act.layout s (f s.crib) requests next budget pockets).acts

theorem State.Acts.earlyReport (p : PocketNo) (x : Sensor) : o.Acts (s.earlyReport p x) := by
  unfold State.earlyReport
  exact h.modLayout rfl rfl rfl fun _ => ⟨_, rfl⟩

theorem State.Acts.afterScan (modules : Vector (Option Word) 16) : o.Acts (s.modCrib fun c => c.afterScan modules) := by
  have pockets (p : PocketNo) : ∃ x, (s.crib.afterScan modules).pockets.get p = { s.pocket p with sensor := x } :=
    ⟨_, Crib.pocket_afterScan s.crib modules p⟩
  refine h.modLayout ?_ ?_ ?_ pockets
  all_goals unfold Crib.afterScan; rfl

/-! ## Frames received (R98, R127 to R158) -/

theorem State.Acts.denyRequest (f : RxFrame) (a : Ask) (reason : Reason) : o.Acts (s.denyRequest f a reason) :=
  (h.queueDeny _ _ _ _ _).handReport _

theorem State.Acts.takeRequest (f : RxFrame) : o.Acts (s.takeRequest f) := by
  unfold State.takeRequest
  split
  · exact h
  · split
    · exact h.acceptIssue ‹_›
    · exact h.denyRequest f _ _

theorem State.Acts.rejectMount (c : CellNo) (t m : Nat) : o.Acts (s.rejectMount c t m) :=
  (h.queueDeny _ _ _ _ _).handReport _

theorem State.Acts.takeMounted (f : RxFrame) : o.Acts (s.takeMounted f) := by
  unfold State.takeMounted
  split
  · exact h.closeIssue _ _
  · unfold State.mountWithoutIssue
    split
    · exact h.rejectMount _ _ _
    · exact .ite ((h.modTool _ _).handReport _) (.ite h (h.rejectMount _ _ _))

theorem State.Acts.denyCancel (c : CellNo) (id : Nat) (reason : Reason) : o.Acts (s.denyCancel c id reason) :=
  (h.queueDeny _ _ _ _ _).handReport _

theorem State.Acts.takeCancel (f : RxFrame) : o.Acts (s.takeCancel f) := by
  unfold State.takeCancel
  dsimp only
  split
  · exact h.denyCancel _ _ _
  · rename_i i _
    have cancelled := h.cancelIssue i
    split <;> rename_i eq <;> rw [eq] at cancelled
    · exact cancelled.denyCancel _ _ _
    · exact cancelled.denyCancel _ _ _
    · exact cancelled

theorem State.Acts.takeDataTaken (f : RxFrame) : o.Acts (s.takeDataTaken f) := by
  unfold State.takeDataTaken
  exact .ite (State.Acts.deliverAll (h.answerEnds _ _)) h

theorem State.Acts.takeDataRefused (f : RxFrame) : o.Acts (s.takeDataRefused f) := by
  unfold State.takeDataRefused
  split
  · split
    · exact State.Acts.deliverAll (h.deferOffer _ _)
    · exact State.Acts.deliverAll (h.answerEnds _ _)
  · exact h

theorem State.Acts.takeWithdrawn (f : RxFrame) : o.Acts (s.takeWithdrawn f) := by
  unfold State.takeWithdrawn
  exact .ite (State.Acts.deliverAll (h.answerEnds _ _)) h

theorem State.Acts.countPresent (c : CellNo) : o.Acts (s.countPresent c) := by
  unfold State.countPresent
  exact .ite ((h.modCell c _).makeGood c _) (h.modCell c _)

theorem State.Acts.takePresent (f : RxFrame) : o.Acts (s.takePresent f) := by
  unfold State.takePresent
  exact .ite (State.Acts.deliverAll ((h.countPresent _).answerEnds _ _)) h

theorem State.Acts.addIncrement (c : CellNo) (t n : Nat) (follows : Bool) : o.Acts (s.addIncrement c t n follows) := by
  unfold State.addIncrement
  refine .ite h ?_
  unfold State.lifeChecks
  split
  · exact h.modTool _ _
  · have flagged (f : Tool → Tool) := (h.modTool t (Tool.addLife n)).modTool t f
    have warned (f : Tool → Tool) (p : Prop) [Decidable p] (w : Report) :=
      State.Acts.ite (p := p) ((flagged f).handReport w) (flagged f)
    exact .ite ((warned _ _ _).handReport _) (warned _ _ _)

theorem State.Acts.queueLifeEnd (c : CellNo) (t : Nat) : o.Acts (s.queueLifeEnd c t) := by
  unfold State.queueLifeEnd
  have queued := h.queueExchange c (.lifeEnd t) .lifeHandler
  split <;> rename_i eq <;> rw [eq] at queued
  · exact queued
  · exact queued.reportUndelivered c t _ _

theorem State.Acts.takeUsage (f : RxFrame) : o.Acts (s.takeUsage f) := by
  unfold State.takeUsage
  have rejected := (h.queueDeny f.source .tool (f.field 0 2) .notMounted .lifeHandler).handReport
    { Report.blank .usageRejected with
      cell := addr f.source, tool := f.field 0 2, code := Reason.notMounted.code
      bit1 := (s.queueDeny f.source .tool (f.field 0 2) .notMounted .lifeHandler).2
      detail := .plain (le 2 (f.field 2 2) ++ rejectedDetail (s.findTool (f.field 0 2))) }
  dsimp only
  split
  · exact rejected
  · refine .ite ?_ rejected
    unfold State.acceptUsage
    exact .ite ((h.addIncrement _ _ _ _).queueLifeEnd _ _) (h.addIncrement _ _ _ _)

theorem State.Acts.takeNotice (f : RxFrame) : o.Acts (s.takeNotice f) := by
  unfold State.takeNotice
  dsimp only
  split
  · exact h
  · split
    · exact (h.queueDeny _ _ _ _ _).handReport _
    · unfold State.acceptNotice
      dsimp only
      split
      · exact ((h.addIncrement _ _ _ _).modTool _ _).handReport _
      · exact (h.addIncrement _ _ _ _).modTool _ _

/-! ## The part's own frames (R88 to R105) -/

theorem State.Acts.attemptOver (a : Attempt) : o.Acts (s.attemptOver a) := by
  unfold State.attemptOver
  exact .ite ((h.modLink rfl).modLink rfl) (.ite (h.modLink rfl) ((h.modLink rfl).grantBuffers))

theorem State.Acts.noticeLoss (a : Attempt) : o.Acts (s.noticeLoss a) := by
  unfold State.noticeLoss
  split
  · split
    · exact h.modIssue _ _
    · exact h
  · exact h

theorem State.Acts.countFault (a : Attempt) : o.Acts (s.countFault a) := by
  unfold State.countFault
  exact .ite ((h.modLink rfl).enterOff) ((h.modLink rfl).attemptOver a)

theorem State.Acts.exchangeSent (c : CellNo) (ack : Bool) : o.Acts (s.exchangeSent c ack) := by
  unfold State.exchangeSent
  split
  · exact h
  · exact .ite (State.Acts.deliverAll (h.failedTry c)) (.ite (h.modCell c _) (State.Acts.deliverAll (h.answerEnds c _)))

theorem State.Acts.frameSent (a : Attempt) (ack : Bool) : o.Acts (s.frameSent a ack) := by
  unfold State.frameSent
  dsimp only
  split
  · exact (h.modLink rfl).modLink rfl
  · exact .ite ((h.modLink rfl).exchangeSent _ ack) ((h.modLink rfl).grantBuffers)

theorem State.Acts.dispatchPoll : o.Acts s.dispatchPoll := by
  unfold State.dispatchPoll
  split
  · exact (h.modLink rfl).queueExchange _ _ _
  · exact h

/-! ## The station (R50 to R61, R74) -/

theorem State.Acts.stepScale (a : Axis) (up : Bool) : o.Acts (s.stepScale a up) := by
  unfold State.stepScale
  exact .ite ((h.modAxis a _).loseAxis a) ((h.modAxis a _).enforceLimits)

theorem State.Acts.quadratureFault (a : Axis) : o.Acts (s.quadratureFault a) := by
  unfold State.quadratureFault
  exact .ite (h.loseAxis a) h

theorem State.Acts.markAxis (a : Axis) : o.Acts (s.markAxis a) :=
  (h.modAxis a _).trans (.foldl (fun t n => (Acts.refl t).checkHomed n) _ _)

theorem State.Acts.seatCycle (n : SlotNo) : o.Acts (s.seatCycle n) := by
  have seated : o.Acts ((s.modPresetter Presetter.enterTouch).deliverSeated n) := by
    unfold State.deliverSeated
    split
    · exact (h.modPresetter _).measureSeated n _
    · exact h.modPresetter _
  exact seated.enforceLimits

theorem State.Acts.acceptTouch (a : Axis) (touches : Nat) : o.Acts (s.acceptTouch a touches) :=
  (h.modAxis a _).evaluateIfComplete

end
end Sys2Proof.Machine
end

section
/-! The commands whose meaning is a run of primitive changes from the state that they find, from a slot just taken, or from a
receive queue that has changed (`State.Runs`): all but the resets, the port's own commands and the change of the service state. -/

namespace Sys2Proof.Machine

/-- Where the work of a command begins: the state as it stands, the receive queue changed within its eight frames, or the slot
taken that the read under way brings. -/
inductive State.Begins : State → State → Prop
  | here (s : State) : Begins s s
  | link (s : State) (l : Link) (rx : s.link.rx.length ≤ 8 → l.rx.length ≤ 8) : Begins s { s with link := l }
  | taken (s : State) (n : SlotNo) (kind : Nat) (img : SlotImage) (reading : s.order.series = some (.slotRead n)) :
    Begins s (s.taken n kind img)

/-- A command that begins and runs through primitive changes; its step ends with the results formed in it joined to the line, or
forms none. -/
def State.Runs (s t : State) : Prop :=
  ∃ u v, s.Begins u ∧ u.Acts v ∧ (t = v.settle ∨ (t = v ∧ v.order.formedNow = u.order.formedNow))

theorem State.Runs.same (s : State) : s.Runs s := ⟨s, s, .here s, .refl s, .inr ⟨rfl, rfl⟩⟩

theorem State.Acts.runs {s t : State} (acts : s.Acts t) : s.Runs t.settle := ⟨s, t, .here s, acts, .inl rfl⟩

theorem State.Acts.runs_quiet {s t : State} (acts : s.Acts t) (quiet : t.order.formedNow = s.order.formedNow) : s.Runs t :=
  ⟨s, t, .here s, acts, .inr ⟨rfl, quiet⟩⟩

/-! ## Orders, frames and events -/

/-- An order whose work is a run, in the service states that take it. -/
theorem State.runs_takeOrder (s : State) (k : OrderKind) (img : SlotImage) {work : SlotNo → State → State}
    (acts : ∀ (n : SlotNo) (t : State), t.order.service = s.order.service → k.takenIn s.order.service = true →
      t.Acts (work n t)) : s.Runs (s.takeOrder k img work) := by
  unfold State.takeOrder
  split
  · rename_i n reading
    refine ⟨_, _, .taken s n k.code img reading, ?_, .inl rfl⟩
    split
    · exact (Acts.refl _).refuse n _
    · rename_i passes
      refine acts n _ rfl ?_
      unfold takingCheck at passes
      split_ifs at passes with _ service
      simpa using service
  · exact .same s

/-- A frame handed on whose taking is a run. -/
theorem State.runs_handOn (s : State) (kind : Nat) {take : RxFrame → State → State}
    (acts : ∀ (f : RxFrame) (t : State), t.Acts (take f t)) : ∃ t, s.handOn kind take = .next t ∧ s.Runs t := by
  unfold State.handOn
  split
  · rename_i f rest rx
    split
    · refine ⟨_, rfl, _, _, .link s { s.link with rx := rest } ?_, acts f _, .inl rfl⟩
      simp only [rx, List.length_cons]
      omega
    · exact ⟨s, rfl, .same s⟩
  · exact ⟨s, rfl, .same s⟩

@[simp] theorem State.formedNow_handReport (r : Report) (s : State) :
    (s.handReport r).order.formedNow = s.order.formedNow := by
  unfold State.handReport State.enterStall
  dsimp only
  split
  · split <;> rfl
  · rfl

theorem State.formedNow_countFault (a : Attempt) (s : State) :
    (s.countFault a).order.formedNow = s.order.formedNow := by
  unfold State.countFault State.enterOff
  dsimp only
  split
  · simp
  · simp

@[simp] theorem State.formedNow_linkActive (cause : LinkCause) (s : State) :
    (s.linkActive cause).order.formedNow = s.order.formedNow := by
  unfold State.linkActive
  dsimp only
  split
  · simp
  · rfl

/-- The steps of a link restart after the line and the queues are cleared (R106). -/
theorem State.acts_restart (t : State) (dropped : List LinkEvent) :
    t.Acts (State.deliverAll (t.cellsGood.linkActive .linkRestart, dropped)).restartTimers := by
  have active : t.Acts (t.cellsGood.linkActive .linkRestart) := ((Acts.refl t).cellsGood).linkActive .linkRestart
  generalize t.cellsGood.linkActive .linkRestart = u at active ⊢
  exact (State.Acts.deliverAll (p := (u, dropped)) active).restartTimers

theorem State.runs_restartLink (s : State) : s.Runs s.restartLink.settle :=
  ⟨s.modLink Link.cleared, s.restartLink, .link s s.link.cleared fun _ => Nat.zero_le 8, State.acts_restart _ _, .inl rfl⟩

theorem State.runs_frameReceived (line : List Bool) (s : State) :
    ∃ t, execFrameReceived line s = .next t ∧ s.Runs t := by
  have dropped : s.Runs (s.driveSlot false) := ((Acts.refl s).modLink rfl).runs_quiet rfl
  unfold execFrameReceived
  split
  · exact ⟨_, rfl, dropped⟩
  · split
    · exact ⟨_, rfl, dropped⟩
    · split
      · rename_i f _ _ c _ acknowledged
        have room : s.link.rx.length < 8 := by
          simp only [State.acknowledges, Bool.and_eq_true, decide_eq_true_eq] at acknowledged
          exact acknowledged.1.2
        refine ⟨_, rfl, _, _, .link s ((s.receive c f).driveSlot true).link fun _ => ?_, .refl _, .inr ⟨rfl, rfl⟩⟩
        simp only [State.receive, State.driveSlot, State.modLink, List.length_append, List.length_singleton]
        omega
      · exact ⟨_, rfl, dropped⟩

/-- A request that expects the change of a pocket is listed and started. -/
theorem State.of_expecting {s : State} {p : PocketNo} {insertion : Bool} {r : Request}
    (expected : s.expecting p insertion = some r) :
    r ∈ s.crib.requests ∧ (r.state = .opening ∨ r.state = .opened) := by
  obtain ⟨request, started⟩ := Option.filter_eq_some_iff.mp expected
  simp only [Bool.and_eq_true, Bool.or_eq_true, beq_iff_eq] at started
  exact ⟨(State.of_requestAt request).1, started.1⟩

/-! ## Every command but those of the port -/

/-- The resets, the port's own commands, SET_DRAWER and the change of the service state. -/
def isPortCommand : Instr → Bool
  | .reset .. | .fullReset .. | .portEnable .. | .resume | .bbaWrite _ | .pstWrite _ | .donWrite _ | .rpcWrite _
  | .cauWrite _ | .cenWrite _ | .ignoredRegisterWrite .. | .slotRead | .resultWrite | .resultWritten | .reportWrite
  | .reportWriteDone | .boardFault _ | .setDrawer _ | .startService _
  | .stopService _ => true
  | _ => false

/-- An event that acts under a condition, and changes nothing without it. -/
theorem State.runs_if {s t : State} {p : Prop} [Decidable p] (runs : p → s.Runs t) :
    ∃ u, (if p then .next t else .next s : Result) = .next u ∧ s.Runs u := by
  split
  · exact ⟨t, rfl, runs ‹p›⟩
  · exact ⟨s, rfl, .same s⟩

theorem exec_runs {c : Instr} (notPort : isPortCommand c = false) (s : State) : ∃ t, exec c s = .next t ∧ s.Runs t := by
  have acts := State.Acts.refl s
  cases c
  case linkRestart => exact ⟨_, rfl, s.runs_restartLink⟩
  case badKind kind img =>
    change ∃ t, execBadKind kind img s = _ ∧ _
    unfold execBadKind
    split
    · rename_i n reading
      exact ⟨_, rfl, _, _, .taken s n kind.toNat img reading, (State.Acts.refl _).refuse n _, .inl rfl⟩
    · exact ⟨s, rfl, .same s⟩
  case setCell img => exact ⟨_, rfl, s.runs_takeOrder _ img fun n t _ _ => (State.Acts.refl t).doSetCell img n⟩
  case setRight img => exact ⟨_, rfl, s.runs_takeOrder _ img fun n t _ _ => (State.Acts.refl t).doSetRight img n⟩
  case setLimits img =>
    exact ⟨_, rfl, s.runs_takeOrder _ img fun n t same setup =>
      (State.Acts.refl t).doSetLimits img n (same.trans (by simpa [OrderKind.takenIn] using setup))⟩
  case lockLayout img => exact ⟨_, rfl, s.runs_takeOrder _ img fun n t _ _ => (State.Acts.refl t).doLockLayout n⟩
  case enrol img => exact ⟨_, rfl, s.runs_takeOrder _ img fun n t _ _ => (State.Acts.refl t).doEnrol img n⟩
  case remove img => exact ⟨_, rfl, s.runs_takeOrder _ img fun n t _ _ => (State.Acts.refl t).doRemove img n⟩
  case readTool img => exact ⟨_, rfl, s.runs_takeOrder _ img fun n t _ _ => (State.Acts.refl t).doReadTool img n⟩
  case find img => exact ⟨_, rfl, s.runs_takeOrder _ img fun n t _ _ => (State.Acts.refl t).doFind img n⟩
  case setLife img => exact ⟨_, rfl, s.runs_takeOrder _ img fun n t _ _ => (State.Acts.refl t).doSetLife img n⟩
  case regrind img => exact ⟨_, rfl, s.runs_takeOrder _ img fun n t _ _ => (State.Acts.refl t).doRegrind img n⟩
  case home img => exact ⟨_, rfl, s.runs_takeOrder _ img fun n t _ _ => (State.Acts.refl t).doHome img n⟩
  case calibrate img => exact ⟨_, rfl, s.runs_takeOrder _ img fun n t _ _ => (State.Acts.refl t).doCalibrate n⟩
  case measure img => exact ⟨_, rfl, s.runs_takeOrder _ img fun n t _ _ => (State.Acts.refl t).doMeasure img n⟩
  case stow img => exact ⟨_, rfl, s.runs_takeOrder _ img fun n t _ _ => (State.Acts.refl t).doStow img n⟩
  case issue img => exact ⟨_, rfl, s.runs_takeOrder _ img fun n t _ _ => (State.Acts.refl t).doIssue img n⟩
  case returnTool img => exact ⟨_, rfl, s.runs_takeOrder _ img fun n t _ _ => (State.Acts.refl t).doReturnTool img n⟩
  case cancel img => exact ⟨_, rfl, s.runs_takeOrder _ img fun n t _ _ => (State.Acts.refl t).doCancel img n⟩
  case scan img => exact ⟨_, rfl, s.runs_takeOrder _ img fun n t _ _ => (State.Acts.refl t).doScan img n⟩
  case clearFault img => exact ⟨_, rfl, s.runs_takeOrder _ img fun n t _ _ => (State.Acts.refl t).doClearFault img n⟩
  case restoreCell img => exact ⟨_, rfl, s.runs_takeOrder _ img fun n t _ _ => (State.Acts.refl t).doRestoreCell img n⟩
  case firstScan modules =>
    change ∃ t, execFirstScan modules s = _ ∧ _
    unfold execFirstScan
    split
    · exact ⟨s, rfl, .same s⟩
    · exact ⟨_, rfl, (acts.afterScan modules).runs_quiet rfl⟩
  case releasedConfirmation p => exact State.runs_if fun opening => (acts.confirmReleased p opening).runs
  case engagedConfirmation p => exact State.runs_if fun _ => (acts.confirmEngaged p).runs
  case lockConfirmWindowExpires p =>
    change ∃ t, execLockConfirmWindowExpires p s = _ ∧ _
    unfold execLockConfirmWindowExpires
    dsimp only
    split
    · exact ⟨_, rfl, (acts.jamOpening p (by simp [*])).runs⟩
    · exact ⟨_, rfl, (acts.jamClosing p (by simp [*])).runs⟩
    · exact ⟨s, rfl, .same s⟩
  case sensorRemoval p =>
    change ∃ t, execSensorRemoval p s = _ ∧ _
    unfold execSensorRemoval
    split
    · exact ⟨_, rfl, (acts.earlyReport p _).runs_quiet rfl⟩
    · split
      · exact ⟨s, rfl, .same s⟩
      · split
        · rename_i expected
          obtain ⟨listed, live⟩ := State.of_expecting expected
          exact ⟨_, rfl, (acts.expectedChange _ listed live).runs⟩
        · exact ⟨_, rfl, (acts.unexpectedRemoval p).runs⟩
  case sensorInsertion p =>
    change ∃ t, execSensorInsertion p s = _ ∧ _
    unfold execSensorInsertion
    split
    · exact ⟨_, rfl, (acts.earlyReport p _).runs_quiet rfl⟩
    · split
      · exact ⟨s, rfl, .same s⟩
      · split
        · rename_i expected
          obtain ⟨listed, live⟩ := State.of_expecting expected
          exact ⟨_, rfl, (acts.expectedChange _ listed live).runs⟩
        · exact ⟨_, rfl, (acts.unexpectedInsertion p).runs⟩
  case requestWindowExpires p =>
    change ∃ t, execRequestWindowExpires p s = _ ∧ _
    unfold execRequestWindowExpires
    split
    · rename_i r found
      obtain ⟨request, isOpen⟩ := Option.filter_eq_some_iff.mp found
      simp only [Bool.and_eq_true, beq_iff_eq] at isOpen
      exact ⟨_, rfl, (acts.closeRequest r _ (State.of_requestAt request).1 (.inr isOpen.1)).runs⟩
    · exact ⟨s, rfl, .same s⟩
  case scaleStep a move => cases move with
    | up => exact ⟨_, rfl, (acts.stepScale a true).runs⟩
    | down => exact ⟨_, rfl, (acts.stepScale a false).runs⟩
    | both => exact ⟨_, rfl, (acts.quadratureFault a).runs⟩
  case indexMark a => exact State.runs_if fun _ => (acts.markAxis a).runs
  case seatedRisingEdge =>
    change ∃ t, execSeatedRisingEdge s = _ ∧ _
    unfold execSeatedRisingEdge
    dsimp only
    split
    · split
      · exact ⟨_, rfl, ((acts.modPresetter _).seatCycle _).runs⟩
      · exact ⟨_, rfl, (acts.modPresetter _).runs_quiet rfl⟩
    · exact ⟨_, rfl, (acts.modPresetter _).runs_quiet rfl⟩
  case seatedFallingEdge =>
    change ∃ t, execSeatedFallingEdge s = _ ∧ _
    unfold execSeatedFallingEdge
    dsimp only
    split
    · exact ⟨_, rfl, (((acts.modPresetter _).modTools _).faultCycle _).runs⟩
    · exact ⟨_, rfl, ((acts.modPresetter _).modTools _).runs_quiet rfl⟩
  case touchEdge a =>
    change ∃ t, execTouchEdge a s = _ ∧ _
    unfold execTouchEdge
    split
    · exact State.runs_if fun _ => (acts.acceptTouch a _).runs
    · exact ⟨s, rfl, .same s⟩
  case seatWindowExpires => exact State.runs_if fun _ => (acts.faultCycle _).runs
  case touchWindowExpires => exact State.runs_if fun _ => (acts.faultCycle _).runs
  case homeWindowExpires n => exact ⟨_, rfl, (acts.endHome n _).runs⟩
  case frameReceived line => exact s.runs_frameReceived line
  case toolRequest => exact s.runs_handOn _ fun f t => (State.Acts.refl t).takeRequest f
  case mounted => exact s.runs_handOn _ fun f t => (State.Acts.refl t).takeMounted f
  case cancelFrame => exact s.runs_handOn _ fun f t => (State.Acts.refl t).takeCancel f
  case usage => exact s.runs_handOn _ fun f t => (State.Acts.refl t).takeUsage f
  case returnNotice => exact s.runs_handOn _ fun f t => (State.Acts.refl t).takeNotice f
  case dataTaken => exact s.runs_handOn _ fun f t => (State.Acts.refl t).takeDataTaken f
  case dataRefused => exact s.runs_handOn _ fun f t => (State.Acts.refl t).takeDataRefused f
  case withdrawn => exact s.runs_handOn _ fun f t => (State.Acts.refl t).takeWithdrawn f
  case present => exact s.runs_handOn _ fun f t => (State.Acts.refl t).takePresent f
  case transmitAttempt =>
    change ∃ t, execTransmitAttempt s = _ ∧ _
    unfold execTransmitAttempt
    split
    · split
      · exact ⟨_, rfl, (acts.modLink rfl).runs_quiet rfl⟩
      · exact ⟨s, rfl, .same s⟩
    · exact ⟨s, rfl, .same s⟩
  case lostArbitration =>
    change ∃ t, execLostArbitration s = _ ∧ _
    unfold execLostArbitration
    split
    · exact ⟨_, rfl, ((acts.attemptOver _).noticeLoss _).runs_quiet (by simp)⟩
    · exact ⟨s, rfl, .same s⟩
  case transmitFault =>
    change ∃ t, execTransmitFault s = _ ∧ _
    unfold execTransmitFault
    split
    · exact ⟨_, rfl, (acts.countFault _).runs_quiet (State.formedNow_countFault _ s)⟩
    · exact ⟨s, rfl, .same s⟩
  case frameSent ack =>
    change ∃ t, execFrameSent ack s = _ ∧ _
    unfold execFrameSent
    split
    · exact ⟨_, rfl, (acts.frameSent _ ack).runs⟩
    · exact ⟨s, rfl, .same s⟩
  case answerWindowExpires c => exact State.runs_if fun _ => (State.Acts.deliverAll (acts.failedTry c)).runs
  case deferralTimerExpires id =>
    exact State.runs_if fun _ => ((acts.modLink rfl).grantBuffers).runs_quiet (by simp)
  case broadcastTimerExpires => exact State.runs_if fun _ => acts.placeCribState.runs_quiet rfl
  case holdTimerExpires => exact State.runs_if fun _ => acts.placeCribState.runs_quiet rfl
  case pollTimerExpires => exact State.runs_if fun _ => ((acts.modLink rfl).dispatchPoll).runs_quiet (by simp)
  case idleRecovery =>
    change ∃ t, execIdleRecovery s = _ ∧ _
    unfold execIdleRecovery
    split
    · split
      · exact ⟨_, rfl, (acts.modLink rfl).runs_quiet rfl⟩
      · exact ⟨_, rfl, ((acts.linkActive _).grantBuffers).runs_quiet (by simp)⟩
    · exact ⟨s, rfl, .same s⟩
  case transitWindowExpires id =>
    change ∃ t, execTransitWindowExpires id s = _ ∧ _
    unfold execTransitWindowExpires
    split
    · exact ⟨_, rfl, (acts.closeIssue _ _).runs⟩
    · exact ⟨s, rfl, .same s⟩
  all_goals exact Bool.noConfusion notPort

end Sys2Proof.Machine
end

section
/-! Every step keeps the invariant of the port, the reports and the receive queue (`State.inv`): primitive changes keep it but for
the results just formed, so the commands that run through them do; the port's own commands are told one by one. -/

namespace Sys2Proof.Machine

/-! ## The invariant within a step -/

/-- The hold queue and the stall agree (R199, R202). -/
structure ReportWriter.HoldInv (w : ReportWriter) : Prop where
  length : w.hold.length ≤ 16
  stalled : w.stalled = true → w.hold ≠ []
  flowing : w.stalled = false → w.hold.length < 12

/-- A context exactly for a TAKEN slot (R180). -/
def State.ContextsInv (s : State) : Prop := ∀ n, (s.slot n).state = .taken ↔ (s.slot n).context.isSome = true

/-- What the invariant says within a step, where results formed now may wait to join the line. -/
structure State.BusyInv (s : State) : Prop where
  board : Memory.wf s.board = true
  outstanding : s.reports.outstanding ≤ 128
  rx : s.link.rx.length ≤ 8
  bba : s.order.bba &&& 0xFFFF#32 = 0
  report : s.order.series = some .reportWrite → s.reports.credit ≠ 0 ∧ s.reports.hold ≠ []
  access : s.order.series ≠ none → s.canAccess = true
  hold : s.reports.HoldInv
  contexts : s.ContextsInv

theorem State.inv_iff {s : State} : s.inv ↔ s.BusyInv ∧ s.order.formedNow = [] := by
  constructor
  · rintro ⟨board, outstanding, length, rx, report, formed, bba, stalled, flowing, access, contexts⟩
    exact ⟨⟨board, outstanding, rx, bba, report, access, ⟨length, stalled, flowing⟩, contexts⟩, formed⟩
  · rintro ⟨⟨board, outstanding, rx, bba, report, access, ⟨length, stalled, flowing⟩, contexts⟩, formed⟩
    exact ⟨board, outstanding, length, rx, report, formed, bba, stalled, flowing, access, contexts⟩

/-! ## Primitive changes -/

theorem modLast_eq_nil {f : Report → Report} {l : List Report} : modLast f l = [] ↔ l = [] := by
  match l with
  | [] => simp [modLast]
  | [r] => simp [modLast]
  | r :: r' :: rest => simp [modLast]

theorem length_modLast (f : Report → Report) (l : List Report) : (modLast f l).length = l.length := by
  match l with
  | [] => rfl
  | [r] => rfl
  | r :: r' :: rest => simp [modLast, length_modLast f (r' :: rest)]

/-- What a report does to the hold queue and the stall (R199, R201, R202). -/
theorem State.handReport_cases (r : Report) (s : State) :
    (s.reports.hold.length < 16 ∧ (∃ q, (s.handReport r).reports.hold = s.reports.hold ++ [q]) ∧
      ((s.handReport r).reports.stalled = (s.reports.stalled || decide (12 ≤ s.reports.hold.length + 1)))) ∨
    (16 ≤ s.reports.hold.length ∧ (∃ f, (s.handReport r).reports.hold = modLast f s.reports.hold) ∧
      (s.handReport r).reports.stalled = s.reports.stalled) := by
  unfold State.handReport
  dsimp only
  split
  · rename_i room
    refine .inl ⟨room, ?_⟩
    split
    · rename_i stalls
      have stalls : 12 ≤ s.reports.hold.length + 1 := stalls.1
      exact ⟨⟨_, rfl⟩, by simp [State.enterStall, State.placeCribState, stalls]⟩
    · rename_i flows
      refine ⟨⟨_, rfl⟩, ?_⟩
      have flows : ¬ (12 ≤ s.reports.hold.length + 1 ∧ s.reports.stalled = false) := flows
      cases stalled : s.reports.stalled <;> simp_all
  · rename_i full
    exact .inr ⟨Nat.not_lt.mp full, ⟨_, rfl⟩, rfl⟩

theorem State.handReport_ne_nil (r : Report) (s : State) : s.reports.hold ≠ [] → (s.handReport r).reports.hold ≠ [] := by
  intro nonempty
  rcases s.handReport_cases r with ⟨-, ⟨q, hold⟩, -⟩ | ⟨-, ⟨f, hold⟩, -⟩
  · simp [hold]
  · simpa [hold, modLast_eq_nil] using nonempty

theorem ReportWriter.HoldInv.handReport {s : State} (inv : s.reports.HoldInv) (r : Report) :
    (s.handReport r).reports.HoldInv := by
  rcases s.handReport_cases r with ⟨room, ⟨q, hold⟩, stalled⟩ | ⟨full, ⟨f, hold⟩, stalled⟩
  · refine ⟨by simp [hold]; omega, by simp [hold], fun flowing => ?_⟩
    rw [stalled] at flowing
    simp only [Bool.or_eq_false_iff, decide_eq_false_iff_not] at flowing
    simp only [hold, List.length_append, List.length_singleton]
    omega
  · refine ⟨by simpa [hold, length_modLast] using inv.length, ?_, ?_⟩
    · simpa [hold, stalled, modLast_eq_nil] using inv.stalled
    · simpa [hold, stalled, length_modLast] using inv.flowing

/-- A slot written with the state it had, and with a context where it had one. -/
theorem State.ContextsInv.setSlot {s : State} (inv : s.ContextsInv) {n : SlotNo} {x : Slot}
    (agrees : x.state = .taken ↔ x.context.isSome = true) : (s.setSlot n x).ContextsInv := by
  intro m
  rw [State.slot_setSlot]
  split
  · exact agrees
  · exact inv m

theorem State.ContextsInv.setWork {s : State} (inv : s.ContextsInv) (n : SlotNo) (w : Work) :
    (s.setWork n w).ContextsInv := by
  unfold State.setWork
  split
  · exact inv
  · rename_i c context
    exact inv.setSlot (by simpa [context] using inv n)

theorem State.ContextsInv.completeWith {s : State} (inv : s.ContextsInv) (n : SlotNo) (status : Status)
    (result buffer : List Byte) : (s.completeWith n status result buffer).ContextsInv := by
  unfold State.completeWith
  split
  · exact inv
  · rename_i c context
    split
    · exact inv
    · exact inv.setSlot (by simpa [context] using inv n)

/-- What a primitive change leaves alone of the port, the reports and the receive queue. -/
theorem State.Act.frame {s t : State} (act : s.Act t) :
    t.board = s.board ∧ t.link.rx = s.link.rx ∧ t.order.portPart = s.order.portPart ∧
      t.reports.countPart = s.reports.countPart := by
  cases act
  case link rx => exact ⟨rfl, rx, rfl, rfl⟩
  case report r =>
    refine ⟨by simp, ?_, by simp, by simp⟩
    unfold State.handReport
    dsimp only
    split
    · split <;> rfl
    · rfl
  case limits => exact ⟨rfl, rfl, rfl, rfl⟩
  all_goals simp

/-- What a primitive change that is no report and forms no result leaves alone. -/
theorem State.Act.hold {s t : State} (act : s.Act t) (inv : s.reports.HoldInv) :
    t.reports.HoldInv ∧ (s.reports.hold ≠ [] → t.reports.hold ≠ []) := by
  cases act
  case report r => exact ⟨inv.handReport r, s.handReport_ne_nil r⟩
  all_goals simpa using inv

theorem State.Act.contexts {s t : State} (act : s.Act t) (inv : s.ContextsInv) : t.ContextsInv := by
  cases act
  case report r => simpa only [State.ContextsInv, State.slot, State.slots_handReport] using inv
  case work n w => exact inv.setWork n w
  case form n status result buffer => exact inv.completeWith n status result buffer
  all_goals simpa [State.ContextsInv, State.slot] using inv

theorem ReportWriter.credit_congr {v w : ReportWriter} (counts : v.countPart = w.countPart) : v.credit = w.credit := by
  simp only [ReportWriter.countPart, Prod.mk.injEq] at counts
  rw [ReportWriter.credit, ReportWriter.outstanding, counts.1, counts.2]; rfl

theorem ReportWriter.outstanding_congr {v w : ReportWriter} (counts : v.countPart = w.countPart) :
    v.outstanding = w.outstanding := by
  simp only [ReportWriter.countPart, Prod.mk.injEq] at counts
  rw [ReportWriter.outstanding, counts.1, counts.2]; rfl

/-- What the port part of the Order Port and Engine holds. -/
theorem OrderBlock.portPart_congr {o p : OrderBlock} (port : o.portPart = p.portPart) :
    o.portEnable = p.portEnable ∧ o.halted = p.halted ∧ o.series = p.series ∧ o.bba = p.bba ∧ o.service = p.service ∧
      o.clock = p.clock := by
  have field {β : Type} (f : OrderBlock → β) : f o.portPart = f p.portPart := congrArg f port
  exact ⟨field (·.portEnable), field (·.halted), field (·.series), field (·.bba), field (·.service), field (·.clock)⟩

theorem State.Act.busyInv {s t : State} (act : s.Act t) (inv : s.BusyInv) : t.BusyInv := by
  obtain ⟨board, rx, port, counts⟩ := act.frame
  obtain ⟨hold, nonempty⟩ := act.hold inv.hold
  obtain ⟨enable, halted, series, bba, -, -⟩ := OrderBlock.portPart_congr port
  refine ⟨board ▸ inv.board, ReportWriter.outstanding_congr counts ▸ inv.outstanding, rx ▸ inv.rx, bba ▸ inv.bba, ?_, ?_,
    hold, act.contexts inv.contexts⟩
  · intro write
    obtain ⟨credit, waits⟩ := inv.report (series ▸ write)
    exact ⟨ReportWriter.credit_congr counts ▸ credit, nonempty waits⟩
  · intro under
    rw [State.canAccess, enable, halted]
    exact inv.access (series ▸ under)

theorem State.Acts.busyInv {s t : State} (acts : s.Acts t) (inv : s.BusyInv) : t.BusyInv :=
  acts.keeps State.Act.busyInv inv

/-! ## Commands that run through primitive changes -/

theorem State.inv_settle {s : State} (inv : s.BusyInv) : s.settle.inv :=
  State.inv_iff.mpr ⟨⟨inv.board, inv.outstanding, inv.rx, inv.bba, inv.report, inv.access, inv.hold, inv.contexts⟩, rfl⟩

theorem State.BusyInv.taken {s : State} (inv : s.BusyInv) (n : SlotNo) (kind : Nat) (img : SlotImage) :
    (s.taken n kind img).BusyInv :=
  ⟨inv.board, inv.outstanding, inv.rx, inv.bba, fun write => (nomatch write), fun under => absurd rfl under, inv.hold,
    inv.contexts.setSlot (by simp)⟩

theorem State.Begins.busyInv {s t : State} (begins : s.Begins t) (inv : s.BusyInv) : t.BusyInv := by
  cases begins with
  | here => exact inv
  | link l rx =>
    exact ⟨inv.board, inv.outstanding, rx inv.rx, inv.bba, inv.report, inv.access, inv.hold, inv.contexts⟩
  | taken n kind img => exact inv.taken n kind img

theorem State.Begins.formedNow {s t : State} (begins : s.Begins t) : t.order.formedNow = s.order.formedNow := by
  cases begins <;> rfl

theorem State.Runs.inv {s t : State} (runs : s.Runs t) (inv : s.inv) : t.inv := by
  obtain ⟨busy, alone⟩ := State.inv_iff.mp inv
  obtain ⟨u, v, begins, acts, rfl | ⟨rfl, quiet⟩⟩ := runs
  · exact State.inv_settle (acts.busyInv (begins.busyInv busy))
  · exact State.inv_iff.mpr ⟨acts.busyInv (begins.busyInv busy), quiet.trans (begins.formedNow.trans alone)⟩

/-- An order whose work keeps the invariant. -/
theorem State.inv_takeOrder {s : State} (inv : s.inv) (k : OrderKind) (img : SlotImage) {work : SlotNo → State → State}
    (keeps : ∀ (n : SlotNo) (t : State), t.BusyInv → (work n t).BusyInv) : (s.takeOrder k img work).inv := by
  unfold State.takeOrder
  split
  · have busy := (State.inv_iff.mp inv).1
    apply State.inv_settle
    split
    · exact ((State.Acts.refl _).refuse _ _).busyInv (busy.taken _ _ _)
    · exact keeps _ _ (busy.taken _ _ _)
  · exact inv

/-! ## SET_DRAWER and the service state -/

/-- The Crib Controller and the service state are not told of. -/
theorem State.BusyInv.of_crib {s t : State} (inv : s.BusyInv) (same : t = { s with crib := t.crib }) : t.BusyInv := by
  rw [same]
  exact ⟨inv.board, inv.outstanding, inv.rx, inv.bba, inv.report, inv.access, inv.hold, inv.contexts⟩

theorem State.BusyInv.endClosed {s : State} (inv : s.BusyInv) (r : Request) : (s.endClosed r).BusyInv :=
  ((State.Acts.refl _).deliverMove r.owner .drawerClosed).busyInv (inv.of_crib rfl)

theorem State.BusyInv.foldl {α : Type} {f : State → α → State} (keeps : ∀ (s : State) (a : α), s.BusyInv → (f s a).BusyInv)
    (l : List α) {s : State} (inv : s.BusyInv) : (l.foldl f s).BusyInv := by
  induction l generalizing s with
  | nil => exact inv
  | cons a l ih => exact ih (keeps s a inv)

theorem State.BusyInv.doSetDrawer {s : State} (inv : s.BusyInv) (img : SlotImage) (n : SlotNo) :
    (doSetDrawer img n s).BusyInv := by
  unfold Machine.doSetDrawer
  dsimp only
  have refused (st : Status) : (s.refuse n st).BusyInv := ((Acts.refl s).refuse n st).busyInv inv
  split
  · split
    · exact refused _
    · exact ((Acts.refl _).complete n _ _).busyInv
        (.foldl (fun t r inv => State.BusyInv.endClosed inv r) _ (inv.of_crib rfl))
  · exact refused _

theorem State.BusyInv.modService {s : State} (inv : s.BusyInv) (st : ServiceState) :
    (s.modOrder fun o => { o with service := st }).BusyInv :=
  ⟨inv.board, inv.outstanding, inv.rx, inv.bba, inv.report, inv.access, inv.hold, inv.contexts⟩

theorem State.acts_dropPolls (s : State) : s.Acts s.dropPolls := by
  unfold State.dropPolls
  exact (Acts.refl s).modLink rfl

theorem State.BusyInv.doStartService {s : State} (inv : s.BusyInv) (n : SlotNo) : (doStartService n s).BusyInv := by
  unfold Machine.doStartService
  split
  · exact ((Acts.refl s).complete n _ _).busyInv inv
  · exact ((((Acts.refl _).placeCribState).modLink rfl).complete n _ _).busyInv (inv.modService .service)

theorem State.BusyInv.doStopService {s : State} (inv : s.BusyInv) (n : SlotNo) : (doStopService n s).BusyInv := by
  unfold Machine.doStopService
  split
  · exact ((Acts.refl s).complete n _ _).busyInv inv
  · exact (((State.acts_dropPolls _).grantBuffers).complete n _ _).busyInv (inv.modService .setup)

end Sys2Proof.Machine
end

section
/-! The port's own commands, the resets and the millisecond keep the invariant of the port (`State.inv`), and so does every step. -/

namespace Sys2Proof.Machine

/-! ## Resets and registers -/

theorem State.BusyInv.deviceReset {s : State} (inv : s.BusyInv) (seated : Bool) (accesses : Nat) :
    (s.deviceReset seated accesses).BusyInv := by
  have outstanding : ReportWriter.reset.outstanding ≤ 128 := by decide
  have bba : OrderBlock.reset.bba &&& 0xFFFF#32 = 0 := by decide
  have empty : ReportWriter.reset.hold.length < 12 := by decide
  refine ⟨State.wf_writePart accesses s inv.board, outstanding, Nat.zero_le 8, bba, fun write => (nomatch write),
    fun under => absurd rfl under, ⟨Nat.zero_le 16, fun stalled => (nomatch stalled), fun _ => empty⟩, fun n => ?_⟩
  have free : (s.deviceReset seated accesses).slot n = { state := .free, context := none } := get_replicate _ n
  simp [free]

/-- A change of the Order Port and Engine that leaves BBA, the series and the slots, and takes no access away. -/
theorem State.BusyInv.modOrder {s : State} (inv : s.BusyInv) {f : OrderBlock → OrderBlock}
    (bba : (f s.order).bba = s.order.bba) (series : (f s.order).series = s.order.series)
    (slots : (f s.order).slots = s.order.slots)
    (access : s.canAccess = true → (s.modOrder f).canAccess = true) : (s.modOrder f).BusyInv := by
  refine ⟨inv.board, inv.outstanding, inv.rx, by rw [State.modOrder_order, bba]; exact inv.bba, ?_, ?_, inv.hold, ?_⟩
  · exact fun write => inv.report (series.symm.trans write)
  · exact fun under => access (inv.access fun none => under (series.trans none))
  · intro n
    simpa only [State.slot, State.modOrder_order, slots] using inv.contexts n

/-- The series under way given up. -/
theorem State.BusyInv.seriesOver {s : State} (inv : s.BusyInv) {f : OrderBlock → OrderBlock}
    (bba : (f s.order).bba = s.order.bba) (series : (f s.order).series = none)
    (slots : (f s.order).slots = s.order.slots) : (s.modOrder f).BusyInv := by
  refine ⟨inv.board, inv.outstanding, inv.rx, by rw [State.modOrder_order, bba]; exact inv.bba, ?_, ?_, inv.hold, ?_⟩
  · exact fun write => (nomatch series.symm.trans write)
  · exact fun under => absurd series under
  · intro n
    simpa only [State.slot, State.modOrder_order, slots] using inv.contexts n

theorem State.BusyInv.writeAccesses {s : State} (inv : s.BusyInv) (as : List (List Host.Cell)) :
    (s.writeAccesses as).BusyInv :=
  ⟨State.wf_writeAccesses as s inv.board, inv.outstanding, inv.rx, inv.bba, inv.report, inv.access, inv.hold, inv.contexts⟩

theorem aligned_and_high (value : Word) : (value &&& 0xFFFF0000#32) &&& 0xFFFF#32 = 0 := by
  rw [BitVec.and_assoc]
  exact BitVec.and_zero

theorem State.BusyInv.setSlot {s : State} (inv : s.BusyInv) {n : SlotNo} {x : Slot}
    (agrees : x.state = .taken ↔ x.context.isSome = true) : (s.setSlot n x).BusyInv :=
  ⟨inv.board, inv.outstanding, inv.rx, inv.bba, inv.report, inv.access, inv.hold, inv.contexts.setSlot agrees⟩

theorem State.BusyInv.post {s : State} (inv : s.BusyInv) (n : SlotNo) : (s.post n).BusyInv := by
  by_cases free : (s.slot n).state = .free
  · rw [State.post_of_free free]
    refine inv.setSlot ?_
    have none := (inv.contexts n).not
    simp_all
  · rw [State.post_of_not_free free]
    exact inv.modOrder rfl rfl rfl id

theorem State.BusyInv.free {s : State} (inv : s.BusyInv) (n : SlotNo) : (s.free n).BusyInv := by
  unfold State.free
  split
  · refine inv.setSlot ?_
    have none := (inv.contexts n).not
    simp_all
  · exact inv

theorem State.formedNow_post (n : SlotNo) (s : State) : (s.post n).order.formedNow = s.order.formedNow := by
  unfold State.post
  split <;> rfl

theorem State.formedNow_free (n : SlotNo) (s : State) : (s.free n).order.formedNow = s.order.formedNow := by
  unfold State.free
  split <;> rfl

theorem State.BusyInv.forBits {s : State} (inv : s.BusyInv) (value : Word) {f : SlotNo → State → State}
    (keeps : ∀ (n : SlotNo) (t : State), t.BusyInv → (f n t).BusyInv) : (s.forBits value f).BusyInv := by
  refine State.BusyInv.foldl (fun t n inv => ?_) _ inv
  split
  · exact keeps n t inv
  · exact inv

theorem State.BusyInv.releaseEntries {s : State} (inv : s.BusyInv) (n : BitVec 16) : (s.releaseEntries n).BusyInv := by
  unfold State.releaseEntries
  split
  · rename_i some
    refine ⟨inv.board, ?_, inv.rx, inv.bba, fun write => ?_, inv.access, ⟨inv.hold.length, inv.hold.stalled, inv.hold.flowing⟩,
      inv.contexts⟩
    · rw [State.modReports_reports, ReportWriter.outstanding_release some]
      exact (Nat.sub_le _ _).trans inv.outstanding
    · obtain ⟨credit, waits⟩ := inv.report write
      refine ⟨?_, waits⟩
      rw [State.modReports_reports, ReportWriter.credit_release some inv.outstanding]
      omega
  · exact inv.modOrder rfl rfl rfl id

/-! ## Series -/

/-- A series begun by a port that has access; a report write with an entry and credit. -/
theorem State.BusyInv.begin {s : State} (inv : s.BusyInv) {x : Series} (ready : s.portReady = true)
    (report : x = .reportWrite → s.reportWaits = true) : (s.begin x).BusyInv := by
  have access : s.canAccess = true := by
    simp only [State.portReady, Bool.and_eq_true] at ready
    exact ready.1
  refine ⟨inv.board, inv.outstanding, inv.rx, inv.bba, fun write => ?_, fun _ => access, inv.hold, inv.contexts⟩
  have waits := report (by simpa [State.begin] using write)
  simp only [State.reportWaits, Bool.and_eq_true, bne_iff_ne, Bool.not_eq_true', List.isEmpty_eq_false_iff] at waits
  exact ⟨waits.2, waits.1⟩

theorem State.BusyInv.resultDone {s : State} (inv : s.BusyInv) (n : SlotNo) : (s.resultDone n).BusyInv :=
  ((inv.writeAccesses _).setSlot (by simp)).seriesOver rfl rfl rfl

/-- A written entry is one outstanding entry more (R196). -/
theorem ReportWriter.outstanding_written {w : ReportWriter} (bound : w.outstanding ≤ 128) :
    ReportWriter.outstanding { w with written := w.written + 1 } = w.outstanding + 1 := by
  have shift : (w.written + 1) - w.released = (w.written - w.released) + 1 := by ring
  simp only [ReportWriter.outstanding] at bound ⊢
  rw [shift, BitVec.toNat_add_of_lt]
  · rfl
  · change (w.written - w.released).toNat + 1 < 65536
    omega

theorem State.BusyInv.reportDone {s : State} (inv : s.BusyInv) (write : s.order.series = some .reportWrite) :
    s.reportDone.BusyInv := by
  obtain ⟨credit, waits⟩ := inv.report write
  have more := ReportWriter.outstanding_written inv.outstanding
  have tail : s.reports.hold.tail.length + 1 = s.reports.hold.length := by
    rw [List.length_tail]
    have := List.length_pos_iff.mpr waits
    omega
  have length := inv.hold.length
  have bound : s.reports.outstanding + 1 ≤ 128 := by
    simp only [ReportWriter.credit, Config.reportEntries] at credit
    omega
  have rest {t : State} (order : t.order = { s.order with series := none, cauReport := true })
      (board : t.board = (s.writeAccesses s.reportSeries).board) (rx : t.link.rx = s.link.rx)
      (counts : t.reports.countPart = (s.reports.written + 1, s.reports.released)) (hold : t.reports.HoldInv) : t.BusyInv := by
    refine ⟨board ▸ State.wf_writeAccesses _ s inv.board, ?_, rx ▸ inv.rx, order ▸ inv.bba, ?_, ?_, hold, ?_⟩
    · rw [ReportWriter.outstanding_congr (w := { s.reports with written := s.reports.written + 1 }) counts, more]
      exact bound
    · exact fun under => by simp [order] at under
    · exact fun under => by simp [order] at under
    · intro n
      simpa [State.slot, order] using inv.contexts n
  unfold State.reportDone
  dsimp only
  split
  · exact rest rfl rfl rfl rfl ⟨by simp only [State.leaveStall]; simp; omega, fun stalled => (nomatch stalled), by simp_all [State.leaveStall]⟩
  · rename_i goesOn
    refine rest rfl rfl rfl rfl ⟨by simp; omega, ?_, fun flowing => ?_⟩
    · exact fun stalled empty => goesOn ⟨stalled, empty⟩
    · have := inv.hold.flowing flowing
      simp only [State.modReports_reports]
      simp
      omega

theorem State.formedNow_reportDone (s : State) : s.reportDone.order.formedNow = s.order.formedNow := by
  unfold State.reportDone
  dsimp only
  split <;> rfl

/-! ## One millisecond -/

theorem State.BusyInv.tick {s : State} (inv : s.BusyInv) : s.tick.BusyInv := by
  refine ⟨inv.board, inv.outstanding, inv.rx, inv.bba, inv.report, inv.access, inv.hold, fun n => ?_⟩
  have slot : s.tick.slot n = { s.slot n with
      context := (s.slot n).context.map fun c => { c with work := c.work.tick } } := get_mapVec ..
  simpa [slot] using inv.contexts n

/-! ## Every step -/

theorem exec_port_inv {c : Instr} (port : isPortCommand c = true) {s t : State} (inv : s.inv)
    (next : exec c s = .next t) : t.inv := by
  obtain ⟨busy, alone⟩ := State.inv_iff.mp inv
  have quiet {u : State} (keeps : u.BusyInv) (formed : u.order.formedNow = s.order.formedNow)
      (eq : exec c s = .next u) : t.inv := by
    obtain rfl : u = t := Host.Outcome.next.inj (eq.symm.trans next)
    exact State.inv_iff.mpr ⟨keeps, formed.trans alone⟩
  cases c <;> try exact Bool.noConfusion port
  case reset seated accesses =>
    obtain rfl : s.deviceReset seated accesses = t := Host.Outcome.next.inj next
    exact State.inv_iff.mpr ⟨busy.deviceReset seated accesses, rfl⟩
  case fullReset seated accesses =>
    obtain rfl : s.deviceReset seated accesses = t := Host.Outcome.next.inj next
    exact State.inv_iff.mpr ⟨busy.deviceReset seated accesses, rfl⟩
  case portEnable on accesses =>
    cases on with
    | true =>
      refine quiet (busy.modOrder rfl rfl rfl fun access => ?_) rfl rfl
      simp only [State.canAccess, Bool.and_eq_true] at access ⊢
      exact ⟨rfl, access.2⟩
    | false => exact quiet ((busy.writeAccesses _).seriesOver rfl rfl rfl) rfl rfl
  case resume =>
    refine quiet (busy.modOrder rfl rfl rfl fun access => ?_) rfl rfl
    simp only [State.canAccess, Bool.and_eq_true] at access ⊢
    exact ⟨access.1, rfl⟩
  case bbaWrite value =>
    by_cases ignored : s.order.portEnable = true ∨ s.anyTaken = true
    · exact quiet busy rfl (if_pos ignored)
    · have stored : (s.modOrder fun o => { o with bba := value &&& 0xFFFF0000#32 }).BusyInv :=
        ⟨busy.board, busy.outstanding, busy.rx, aligned_and_high value, busy.report, busy.access, busy.hold, busy.contexts⟩
      exact quiet stored rfl (if_neg ignored)
  case pstWrite value =>
    exact quiet (busy.forBits value fun n t inv => inv.post n) (foldl_keeps (·.order.formedNow) _ (fun t n => by
      split
      · exact State.formedNow_post n t
      · rfl) _ _) rfl
  case donWrite value =>
    exact quiet (busy.forBits value fun n t inv => inv.free n) (foldl_keeps (·.order.formedNow) _ (fun t n => by
      split
      · exact State.formedNow_free n t
      · rfl) _ _) rfl
  case rpcWrite value =>
    exact quiet (busy.releaseEntries _) (by unfold State.releaseEntries; split <;> rfl) rfl
  case cauWrite value => exact quiet (busy.modOrder rfl rfl rfl id) rfl rfl
  case cenWrite value => exact quiet (busy.modOrder rfl rfl rfl id) rfl rfl
  case ignoredRegisterWrite reg value => exact quiet busy rfl rfl
  case slotRead =>
    change execSlotRead s = _ at next
    unfold execSlotRead at next
    split at next
    · split at next <;> obtain rfl := Host.Outcome.next.inj next
      · rename_i ready
        exact State.inv_iff.mpr ⟨busy.begin ready.1 fun write => (nomatch write), alone⟩
      · exact inv
    · exact Host.Outcome.next.inj next ▸ inv
  case resultWrite =>
    change execResultWrite s = _ at next
    unfold execResultWrite at next
    split at next
    · split at next <;> obtain rfl := Host.Outcome.next.inj next
      · rename_i ready
        exact State.inv_iff.mpr ⟨busy.begin ready fun write => (nomatch write), alone⟩
      · exact inv
    · exact Host.Outcome.next.inj next ▸ inv
  case resultWritten =>
    change execResultWritten s = _ at next
    unfold execResultWritten at next
    split at next <;> obtain rfl := Host.Outcome.next.inj next
    · exact State.inv_iff.mpr ⟨busy.resultDone _, alone⟩
    · exact inv
  case reportWrite =>
    change execReportWrite s = _ at next
    unfold execReportWrite at next
    split at next <;> obtain rfl := Host.Outcome.next.inj next
    · rename_i ready
      exact State.inv_iff.mpr ⟨busy.begin ready.1 fun _ => ready.2.2, alone⟩
    · exact inv
  case reportWriteDone =>
    change execReportWriteDone s = _ at next
    unfold execReportWriteDone at next
    split at next <;> obtain rfl := Host.Outcome.next.inj next
    · rename_i write
      exact State.inv_iff.mpr ⟨busy.reportDone write, State.formedNow_reportDone s ▸ alone⟩
    · exact inv
  case boardFault accesses =>
    change execBoardFault accesses s = _ at next
    unfold execBoardFault at next
    split at next <;> obtain rfl := Host.Outcome.next.inj next
    · exact State.inv_iff.mpr ⟨(busy.writeAccesses _).seriesOver rfl rfl rfl, alone⟩
    · exact inv
  case setDrawer img =>
    obtain rfl := Host.Outcome.next.inj next
    exact State.inv_takeOrder inv _ img fun n t inv => inv.doSetDrawer img n
  case startService img =>
    obtain rfl := Host.Outcome.next.inj next
    exact State.inv_takeOrder inv _ img fun n t inv => inv.doStartService n
  case stopService img =>
    obtain rfl := Host.Outcome.next.inj next
    exact State.inv_takeOrder inv _ img fun n t inv => inv.doStopService n

/-- Settles O58: the millisecond keeps the invariant, the port's own commands do one by one, and every other command runs
through primitive changes that keep it. -/
theorem stepKeepsInv : Obligations.StepKeepsInv := by
  unfold Obligations.StepKeepsInv
  intro s t inv next
  unfold step at next
  split at next
  · obtain rfl := Host.Outcome.next.inj next
    obtain ⟨busy, alone⟩ := State.inv_iff.mp inv
    exact State.inv_iff.mpr ⟨busy.tick, alone⟩
  · rename_i c rest _
    have kept : State.inv { s with pending := rest } := inv
    cases port : isPortCommand c with
    | true => exact exec_port_inv port kept next
    | false =>
      obtain ⟨u, answer, runs⟩ := exec_runs port { s with pending := rest }
      obtain rfl : u = t := Host.Outcome.next.inj (answer.symm.trans next)
      exact runs.inv kept

end Sys2Proof.Machine
end

section
/-! Primitive changes keep the agreement of requests, claims and locks, and the lock budget in SERVICE (`State.cribInv`). -/

namespace Sys2Proof.Machine

/-! ## The invariant by its parts -/

/-- What the invariant says of a listed request and the pocket that it names (R21, R35, R36). -/
def Request.Fits (r : Request) (st : ServiceState) (k : Pocket) : Prop :=
  1 ≤ r.number ∧ r.number ≤ 65535 ∧ k.claim = some r.number ∧
    match r.state with
    | .queued => k.lock = .locked ∨ (k.lock = .closing ∧ st = .setup ∧ k.fault = .clear)
    | .opening => k.lock = .opening
    | .opened => k.lock = .opened
    | .closing => k.lock = .closing
    | .ended => False

/-- What the invariant says of the lock of a pocket without a claim (R23, R42, R48). -/
def Pocket.Rests (k : Pocket) (st : ServiceState) : Prop :=
  k.lock = .locked ∨ k.fault = .lockJam ∨ (k.lock = .closing ∧ st = .setup ∧ k.fault = .clear)

/-- The invariant with its parts named. -/
structure State.CribFacts (s : State) : Prop where
  nodup : (s.crib.requests.map (·.number)).Nodup
  next_pos : 1 ≤ s.crib.nextNumber
  next_le : s.crib.nextNumber ≤ 65535
  listed : ∀ r ∈ s.crib.requests, r.Fits s.order.service (s.pocket r.pocket)
  claimed : ∀ p num, (s.pocket p).claim = some num → ∃ r ∈ s.crib.requests, r.number = num ∧ r.pocket = p
  unclaimed : ∀ p, (s.pocket p).claim = none → (s.pocket p).Rests s.order.service
  budget : s.order.service = .service → s.budgetCount ≤ s.crib.lockBudget

theorem State.cribInv_iff {s : State} : s.cribInv ↔ s.CribFacts := by
  constructor
  · rintro ⟨nodup, next_pos, next_le, listed, claimed, unclaimed, budget⟩
    exact ⟨nodup, next_pos, next_le, listed, claimed, unclaimed, budget⟩
  · rintro ⟨nodup, next_pos, next_le, listed, claimed, unclaimed, budget⟩
    exact ⟨nodup, next_pos, next_le, listed, claimed, unclaimed, budget⟩

section
variable {s : State} (facts : s.CribFacts)
include facts

/-- The request of a number. -/
theorem State.CribFacts.eq_of_number {q r : Request} (hq : q ∈ s.crib.requests) (hr : r ∈ s.crib.requests)
    (same : q.number = r.number) : q = r := List.inj_on_of_nodup_map facts.nodup hq hr same

/-- A pocket is named by one request at most (R36). -/
theorem State.CribFacts.eq_of_pocket {q r : Request} (hq : q ∈ s.crib.requests) (hr : r ∈ s.crib.requests)
    (same : q.pocket = r.pocket) : q = r := by
  obtain ⟨-, -, claimQ, -⟩ := facts.listed q hq
  obtain ⟨-, -, claimR, -⟩ := facts.listed r hr
  rw [same, claimR] at claimQ
  exact facts.eq_of_number hq hr (Option.some.inj claimQ).symm

theorem State.CribFacts.findRequest {r : Request} (hr : r ∈ s.crib.requests) : s.findRequest r.number = some r := by
  cases found : s.findRequest r.number with
  | none =>
    have none := List.find?_eq_none.mp found r hr
    simp at none
  | some q =>
    have number : q.number = r.number := by simpa using List.find?_some found
    rw [facts.eq_of_number (List.mem_of_find?_eq_some found) hr number]

/-- The request of a pocket is the one that names it. -/
theorem State.CribFacts.requestAt_iff {p : PocketNo} {r : Request} :
    s.requestAt p = some r ↔ r ∈ s.crib.requests ∧ r.pocket = p := by
  constructor
  · intro found
    obtain ⟨listed, claim⟩ := State.of_requestAt found
    obtain ⟨q, hq, number, pocket⟩ := facts.claimed p _ claim
    exact ⟨listed, facts.eq_of_number hq listed number ▸ pocket⟩
  · rintro ⟨listed, rfl⟩
    obtain ⟨-, -, claim, -⟩ := facts.listed r listed
    rw [State.requestAt, claim, Option.bind_some, facts.findRequest listed]

theorem State.CribFacts.requestAt_eq_none {p : PocketNo} : s.requestAt p = none ↔ (s.pocket p).claim = none := by
  constructor
  · intro none
    cases claim : (s.pocket p).claim with
    | none => rfl
    | some num =>
      obtain ⟨r, listed, -, pocket⟩ := facts.claimed p num claim
      rw [facts.requestAt_iff.mpr ⟨listed, pocket⟩] at none
      cases none
  · intro claim
    rw [State.requestAt, claim]; rfl

end

/-! ## The budget count (R37) -/

/-- The budget count as the number of pockets away from LOCKED. -/
theorem State.budgetCount_eq_card (s : State) :
    s.budgetCount = (Finset.univ.filter fun p : PocketNo => (s.pocket p).away = true).card := by
  have pockets : s.crib.pockets.toList = (List.finRange 512).map s.pocket := by
    refine List.ext_getElem (by simp) fun i _ _ => ?_
    simp [State.pocket, Vector.get_eq_getElem]
  rw [State.budgetCount, pockets, List.countP_map, List.countP_eq_length_filter, Finset.card_def]
  simp [Finset.filter, Finset.univ, Fintype.elems, Function.comp_def]

theorem State.budgetCount_le {s t : State} (away : ∀ p, (t.pocket p).away = true → (s.pocket p).away = true) :
    t.budgetCount ≤ s.budgetCount := by
  rw [State.budgetCount_eq_card, State.budgetCount_eq_card]
  exact Finset.card_le_card fun p h => by simpa using away p (by simpa using h)

theorem State.budgetCount_le_succ {s t : State} {p : PocketNo} (others : ∀ q, q ≠ p → t.pocket q = s.pocket q) :
    t.budgetCount ≤ s.budgetCount + 1 := by
  rw [State.budgetCount_eq_card, State.budgetCount_eq_card]
  refine (Finset.card_le_card fun q h => ?_).trans (Finset.card_insert_le p _)
  by_cases same : q = p
  · simp [same]
  · rw [Finset.mem_filter, others q same] at h
    exact Finset.mem_insert_of_mem (Finset.mem_filter.mpr h)

/-! ## One pocket and its request changed -/

/-- The lists, the counts and the service state that a change leaves as they are. -/
structure State.CribKept (s t : State) : Prop where
  next : t.crib.nextNumber = s.crib.nextNumber
  budget : t.crib.lockBudget = s.crib.lockBudget
  service : t.order.service = s.order.service

/-- A pocket changed, and the request that names it with it. -/
theorem State.CribFacts.change {s t : State} (facts : s.CribFacts) (kept : s.CribKept t) {r : Request}
    (isListed : r ∈ s.crib.requests) {g : Request → Request} (number : (g r).number = r.number)
    (pocket : (g r).pocket = r.pocket)
    (requests : t.crib.requests = s.crib.requests.map fun q => if q.number = r.number then g q else q)
    (others : ∀ q, q ≠ r.pocket → t.pocket q = s.pocket q) (fits : (g r).Fits s.order.service (t.pocket r.pocket))
    (budget : s.order.service = .service → t.budgetCount ≤ s.crib.lockBudget) : t.CribFacts := by
  have image (q : Request) (hq : q ∈ s.crib.requests) :
      (if q.number = r.number then g q else q).number = q.number ∧
        (if q.number = r.number then g q else q).pocket = q.pocket := by
    split
    · rename_i same
      rw [facts.eq_of_number hq isListed same]
      exact ⟨number, pocket⟩
    · exact ⟨rfl, rfl⟩
  have claimR : (t.pocket r.pocket).claim = some r.number := number ▸ fits.2.2.1
  refine ⟨?_, kept.next ▸ facts.next_pos, kept.next ▸ facts.next_le, ?_, ?_, ?_, ?_⟩
  · rw [requests, List.map_map]
    rw [show List.map ((·.number) ∘ fun q => if q.number = r.number then g q else q) s.crib.requests =
      s.crib.requests.map (·.number) from List.map_congr_left fun q hq => (image q hq).1]
    exact facts.nodup
  · rw [requests, kept.service]
    intro q' hq'
    obtain ⟨q, hq, rfl⟩ := List.mem_map.mp hq'
    by_cases same : q.number = r.number
    · obtain rfl := facts.eq_of_number hq isListed same
      rw [if_pos rfl, pocket]
      exact fits
    · rw [if_neg same]
      have other : q.pocket ≠ r.pocket := fun eq => same (congrArg _ (facts.eq_of_pocket hq isListed eq))
      rw [others _ other]
      exact facts.listed q hq
  · intro p num claim
    have before : (s.pocket p).claim = some num := by
      by_cases here : p = r.pocket
      · obtain ⟨-, -, claimed, -⟩ := facts.listed r isListed
        rw [here, claimed, ← claimR, ← here, claim]
      · rw [← others p here, claim]
    obtain ⟨q, hq, hnum, hp⟩ := facts.claimed p num before
    exact ⟨_, requests ▸ List.mem_map_of_mem hq, (image q hq).1.trans hnum, (image q hq).2.trans hp⟩
  · intro p claim
    have other : p ≠ r.pocket := by
      rintro rfl
      rw [claimR] at claim
      cases claim
    rw [others p other, kept.service] at *
    exact facts.unclaimed p claim
  · rw [kept.service, kept.budget]
    exact budget

/-- A pocket changed, the requests as they were. -/
theorem State.CribFacts.pocket {s t : State} (facts : s.CribFacts) (kept : s.CribKept t) {p : PocketNo}
    (requests : t.crib.requests = s.crib.requests) (others : ∀ q, q ≠ p → t.pocket q = s.pocket q)
    (claim : (t.pocket p).claim = (s.pocket p).claim)
    (fits : ∀ r ∈ s.crib.requests, r.pocket = p → r.Fits s.order.service (s.pocket p) →
      r.Fits s.order.service (t.pocket p))
    (rests : (s.pocket p).claim = none → (s.pocket p).Rests s.order.service → (t.pocket p).Rests s.order.service)
    (away : (t.pocket p).away = true → (s.pocket p).away = true) : t.CribFacts := by
  have claims (q : PocketNo) : (t.pocket q).claim = (s.pocket q).claim := by
    by_cases here : q = p
    · rw [here, claim]
    · rw [others q here]
  refine ⟨requests ▸ facts.nodup, kept.next ▸ facts.next_pos, kept.next ▸ facts.next_le, ?_, ?_, ?_, ?_⟩
  · rw [requests, kept.service]
    intro r hr
    by_cases here : r.pocket = p
    · rw [here]
      exact fits r hr here (here ▸ facts.listed r hr)
    · rw [others _ here]
      exact facts.listed r hr
  · intro q num
    rw [claims, requests]
    exact facts.claimed q num
  · intro q
    rw [claims, kept.service]
    intro none
    by_cases here : q = p
    · rw [here] at none ⊢
      exact rests none (facts.unclaimed p none)
    · rw [others q here]
      exact facts.unclaimed q none
  · rw [kept.service, kept.budget]
    refine fun service => (State.budgetCount_le fun q => ?_).trans (facts.budget service)
    by_cases here : q = p
    · rw [here]; exact away
    · rw [others q here]; exact id

/-- A request ended: it leaves the list, and its pocket rests without a claim. -/
theorem State.CribFacts.ended {s t : State} (facts : s.CribFacts) (kept : s.CribKept t) {r : Request}
    (isListed : r ∈ s.crib.requests)
    (requests : t.crib.requests = s.crib.requests.filter fun q => q.number != r.number)
    (others : ∀ q, q ≠ r.pocket → t.pocket q = s.pocket q) (claim : (t.pocket r.pocket).claim = none)
    (rests : (t.pocket r.pocket).Rests s.order.service)
    (away : (t.pocket r.pocket).away = true → (s.pocket r.pocket).away = true) : t.CribFacts := by
  have left {q : Request} : q ∈ t.crib.requests ↔ q ∈ s.crib.requests ∧ q.number ≠ r.number := by
    rw [requests, List.mem_filter, bne_iff_ne]
  refine ⟨?_, kept.next ▸ facts.next_pos, kept.next ▸ facts.next_le, ?_, ?_, ?_, ?_⟩
  · rw [requests]
    exact (List.filter_sublist.map _).nodup facts.nodup
  · rw [kept.service]
    intro q hq
    obtain ⟨listed, differs⟩ := left.mp hq
    have other : q.pocket ≠ r.pocket := fun eq => differs (congrArg _ (facts.eq_of_pocket listed isListed eq))
    rw [others _ other]
    exact facts.listed q listed
  · intro p num hp
    have other : p ≠ r.pocket := by
      rintro rfl
      rw [claim] at hp
      cases hp
    rw [others p other] at hp
    obtain ⟨q, hq, hnum, pocket⟩ := facts.claimed p num hp
    refine ⟨q, left.mpr ⟨hq, fun same => other ?_⟩, hnum, pocket⟩
    rw [← pocket, facts.eq_of_number hq isListed same]
  · rw [kept.service]
    intro p none
    by_cases here : p = r.pocket
    · rw [here]; exact rests
    · rw [others p here] at none ⊢
      exact facts.unclaimed p none
  · rw [kept.service, kept.budget]
    refine fun service => (State.budgetCount_le fun q => ?_).trans (facts.budget service)
    by_cases here : q = r.pocket
    · rw [here]; exact away
    · rw [others q here]; exact id

/-! ## Request numbers (R35) -/

theorem succNumber_range {n : Nat} (pos : 1 ≤ n) (le : n ≤ 65535) : 1 ≤ succNumber n ∧ succNumber n ≤ 65535 := by
  unfold succNumber
  split <;> omega

theorem iterate_succNumber {n : Nat} (pos : 1 ≤ n) (le : n ≤ 65535) (i : Nat) :
    succNumber^[i] n = (n - 1 + i) % 65535 + 1 := by
  induction i with
  | zero => simp only [Function.iterate_zero_apply]; omega
  | succ i ih =>
    rw [Function.iterate_succ_apply', ih, succNumber]
    split <;> omega

theorem freeNumber_range (reqs : List Request) (fuel : Nat) {n : Nat} (pos : 1 ≤ n) (le : n ≤ 65535) :
    1 ≤ freeNumber reqs fuel n ∧ freeNumber reqs fuel n ≤ 65535 := by
  induction fuel generalizing n with
  | zero => exact ⟨pos, le⟩
  | succ fuel ih =>
    unfold freeNumber
    split
    · exact ih (succNumber_range pos le).1 (succNumber_range pos le).2
    · exact ⟨pos, le⟩

/-- The search ends on a number that is held only when every number that it tried is held. -/
theorem freeNumber_taken {reqs : List Request} {fuel n : Nat}
    (taken : ∃ r ∈ reqs, r.number = freeNumber reqs fuel n) (i : Nat) (tried : i < fuel) :
    ∃ r ∈ reqs, r.number = succNumber^[i] n := by
  induction fuel generalizing n i with
  | zero => omega
  | succ fuel ih =>
    unfold freeNumber at taken
    split at taken
    · rename_i held
      cases i with
      | zero => simpa using held
      | succ i => exact ih taken i (by omega)
    · rename_i free
      exact absurd (by simpa using taken) free

/-- As many tries as there are requests and one more find a free number (R35). -/
theorem freeNumber_free {reqs : List Request} {n : Nat} (pos : 1 ≤ n) (le : n ≤ 65535) (few : reqs.length < 65535) :
    ∀ r ∈ reqs, r.number ≠ freeNumber reqs (reqs.length + 1) n := by
  intro r hr same
  have held (i : Nat) (tried : i < reqs.length + 1) := freeNumber_taken ⟨r, hr, same⟩ i tried
  have maps : ∀ i ∈ Finset.range (reqs.length + 1), succNumber^[i] n ∈ (reqs.map (·.number)).toFinset := by
    intro i tried
    obtain ⟨q, hq, number⟩ := held i (Finset.mem_range.mp tried)
    exact List.mem_toFinset.mpr (number ▸ List.mem_map_of_mem hq)
  have distinct : Set.InjOn (fun i => succNumber^[i] n) (Finset.range (reqs.length + 1) : Finset Nat) := by
    intro i hi j hj eq
    simp only [Finset.coe_range, Set.mem_Iio] at hi hj
    simp only [iterate_succNumber pos le] at eq
    omega
  have card := Finset.card_le_card_of_injOn _ maps distinct
  have size := (reqs.map (·.number)).toFinset_card_le
  rw [Finset.card_range] at card
  rw [List.length_map] at size
  omega

/-- At most as many requests as pockets (R36). -/
theorem State.CribFacts.length_le {s : State} (facts : s.CribFacts) : s.crib.requests.length ≤ 512 := by
  have nodup : (s.crib.requests.map (·.pocket)).Nodup :=
    (List.nodup_map_iff_inj_on (List.Nodup.of_map _ facts.nodup)).mpr fun q hq r hr same => facts.eq_of_pocket hq hr same
  simpa using nodup.length_le_card

/-- The number of a request made is free and in range (R35). -/
theorem State.CribFacts.freeNumber {s : State} (facts : s.CribFacts) :
    ∃ num, num = Machine.freeNumber s.crib.requests (s.crib.requests.length + 1) s.crib.nextNumber ∧
      1 ≤ num ∧ num ≤ 65535 ∧ ∀ r ∈ s.crib.requests, r.number ≠ num := by
  have range := freeNumber_range s.crib.requests (s.crib.requests.length + 1) facts.next_pos facts.next_le
  have length := facts.length_le
  exact ⟨_, rfl, range.1, range.2, freeNumber_free facts.next_pos facts.next_le (by omega)⟩

end Sys2Proof.Machine
end

section
/-! Every step keeps the agreement of requests, claims and locks, and the lock budget in SERVICE (`State.cribInv`): each primitive
change does, the first end of queued requests by SET_DRAWER does, and so does each change of the service state. -/

namespace Sys2Proof.Machine

/-! ## What changes neither requests nor pockets -/

theorem State.CribFacts.of_same {s t : State} (facts : s.CribFacts) (crib : t.crib = s.crib)
    (service : t.order.service = s.order.service) : t.CribFacts := by
  have pocket : t.pocket = s.pocket := by funext p; rw [State.pocket, crib]; rfl
  have count : t.budgetCount = s.budgetCount := by rw [State.budgetCount, crib]; rfl
  obtain ⟨nodup, next_pos, next_le, listed, claimed, unclaimed, budget⟩ := facts
  refine ⟨?_, ?_, ?_, ?_, ?_, ?_, ?_⟩
  all_goals simpa only [crib, service, pocket, count]

theorem State.service_of_portPart {s t : State} (port : t.order.portPart = s.order.portPart) :
    t.order.service = s.order.service := by
  obtain ⟨-, -, -, -, service, -⟩ := OrderBlock.portPart_congr port
  exact service

/-! ## Requests started and ended -/

section
variable {s : State} (facts : s.CribFacts)
include facts

theorem State.CribFacts.startOne : s.startOne.CribFacts := by
  by_cases below : s.budgetCount < s.crib.lockBudget
  · cases next : s.nextToStart with
    | none => rwa [State.startOne_of_none (.inr next)]
    | some r =>
      rw [State.startOne_of_next below next]
      have isListed : r ∈ s.crib.requests := List.mem_of_find?_eq_some next
      obtain ⟨pos, le, claim, -⟩ := facts.listed r isListed
      have pocket (q : PocketNo) := State.pocket_changePocket r.pocket q
        (fun k => { k with lock := .opening, confirm := some Config.lockConfirmMs })
        (s.modRequest r.number fun q => { q with state := .opening })
      have others (q : PocketNo) (other : q ≠ r.pocket) := (pocket q).trans (if_neg (Ne.symm other))
      have here := (pocket r.pocket).trans (if_pos rfl)
      refine facts.change ⟨rfl, rfl, rfl⟩ isListed (g := fun q => { q with state := .opening }) rfl rfl rfl others ?_ fun _ => ?_
      · rw [State.sendUnlock, here]
        exact ⟨pos, le, claim, rfl⟩
      · have := State.budgetCount_le_succ (s := s) others
        exact this.trans below
  · rwa [State.startOne_of_none (.inl (Nat.not_lt.mp below))]

theorem State.CribFacts.startQueued : s.startQueued.CribFacts := by
  have rounds (n : Nat) {t : State} (facts : t.CribFacts) : (repeatStep State.startOne n t).CribFacts := by
    induction n generalizing t with
    | zero => exact facts
    | succ n ih => exact ih facts.startOne
  exact rounds s.queuedCount facts

/-- A queued request that ends (R32, R43). -/
theorem State.CribFacts.endQueued {r : Request} (isListed : r ∈ s.crib.requests) (queued : r.state = .queued) :
    (s.endRequest r).CribFacts := by
  obtain ⟨-, -, -, lock⟩ := facts.listed r isListed
  rw [queued] at lock
  have pocket (q : PocketNo) := State.pocket_modPocket r.pocket q (fun k => { k with claim := none })
    (s.modCrib fun c => { c with requests := c.requests.filter fun q => q.number != r.number })
  have here := (pocket r.pocket).trans (if_pos rfl)
  refine facts.ended ⟨rfl, rfl, rfl⟩ isListed rfl (fun q other => (pocket q).trans (if_neg (Ne.symm other))) ?_ ?_ ?_
  all_goals rw [State.endRequest, here]
  · exact lock.imp_right .inr
  · exact id

/-- A started request that becomes CLOSING with a RELOCK sent (R39, R40, R43). -/
theorem State.CribFacts.closed {r : Request} (outcome : MoveOutcome) (isListed : r ∈ s.crib.requests)
    (live : r.state = .opening ∨ r.state = .opened) :
    ((s.modRequest r.number fun q =>
      { q with state := .closing, window := none, outcome := some outcome }).sendRelock r.pocket).CribFacts := by
  obtain ⟨pos, le, claim, lock⟩ := facts.listed r isListed
  have away : (s.pocket r.pocket).away = true := by
    rcases live with state | state <;> rw [state] at lock <;> simp [Pocket.away, lock]
  have pocket (q : PocketNo) := State.pocket_changePocket r.pocket q
    (fun k => { k with lock := .closing, confirm := some Config.lockConfirmMs })
    (s.modRequest r.number fun q => { q with state := .closing, window := none, outcome := some outcome })
  have others (q : PocketNo) (other : q ≠ r.pocket) := (pocket q).trans (if_neg (Ne.symm other))
  have here := (pocket r.pocket).trans (if_pos rfl)
  refine facts.change ⟨rfl, rfl, rfl⟩ isListed
    (g := fun q => { q with state := .closing, window := none, outcome := some outcome }) rfl rfl rfl others ?_ ?_
  · rw [State.sendRelock, here]
    exact ⟨pos, le, claim, rfl⟩
  · refine fun service => (State.budgetCount_le fun q => ?_).trans (facts.budget service)
    by_cases same : q = r.pocket
    · rw [same]; exact fun _ => away
    · rw [State.sendRelock, others q same]; exact id

theorem State.CribFacts.cancelRequest (num : Nat) : (s.cancelRequest num).1.CribFacts := by
  unfold State.cancelRequest
  split
  · exact facts
  · rename_i r found
    have isListed : r ∈ s.crib.requests := List.mem_of_find?_eq_some found
    obtain rfl : r.number = num := by simpa using List.find?_some found
    split
    · exact facts.endQueued isListed ‹_›
    · exact facts.closed .cancelled isListed (.inl ‹_›)
    · exact facts.closed .cancelled isListed (.inr ‹_›)
    all_goals exact facts

end

/-! ## A request made (R35, R36) -/

theorem State.requestMade_placeRequest (mv : Movement) (p : PocketNo) (tool : Option Nat) (owner : Owner) (s : State) :
    s.requestMade (s.placeRequest mv p tool owner).1 (s.placeRequest mv p tool owner).2 mv p tool owner := by
  refine ⟨fun facts => ?_, ?_, ?_, fun q other => ?_, ?_⟩
  · obtain ⟨num, isFree, pos, le, free⟩ := (State.cribInv_iff.mp facts).freeNumber
    rw [isFree] at pos le free
    exact ⟨pos, le, free⟩
  · unfold State.placeRequest
    dsimp only
    split <;> rfl
  · unfold State.placeRequest
    dsimp only
    split
    · rw [State.sendUnlock, State.pocket_changePocket, if_pos rfl, State.pocket_modPocket, if_pos rfl]; rfl
    · rw [State.pocket_modPocket, if_pos rfl]; rfl
  · unfold State.placeRequest
    dsimp only
    split
    · rw [State.sendUnlock, State.pocket_changePocket, if_neg (Ne.symm other), State.pocket_modPocket,
        if_neg (Ne.symm other)]; rfl
    · rw [State.pocket_modPocket, if_neg (Ne.symm other)]; rfl
  · unfold State.placeRequest
    dsimp only
    split <;> rfl

theorem State.nextNumber_placeRequest (mv : Movement) (p : PocketNo) (tool : Option Nat) (owner : Owner) (s : State) :
    (s.placeRequest mv p tool owner).1.crib.nextNumber = succNumber (s.placeRequest mv p tool owner).2 := by
  unfold State.placeRequest
  dsimp only
  split <;> rfl

theorem State.lockBudget_placeRequest (mv : Movement) (p : PocketNo) (tool : Option Nat) (owner : Owner) (s : State) :
    (s.placeRequest mv p tool owner).1.crib.lockBudget = s.crib.lockBudget := by
  unfold State.placeRequest
  dsimp only
  split <;> rfl

/-- A request made on a pocket that no request names keeps the invariant. -/
theorem State.CribFacts.made {s t : State} (facts : s.CribFacts) {num : Nat} {mv : Movement} {p : PocketNo}
    {tool : Option Nat} {owner : Owner} (made : s.requestMade t num mv p tool owner)
    (next : t.crib.nextNumber = succNumber num) (budget : t.crib.lockBudget = s.crib.lockBudget)
    (unclaimed : (s.pocket p).claim = none) (sound : (s.pocket p).fault ≠ .lockJam) : t.CribFacts := by
  obtain ⟨number, requests, here, others, rest⟩ := made
  obtain ⟨pos, le, free⟩ := number (State.cribInv_iff.mpr facts)
  have service : t.order.service = s.order.service := by rw [rest]
  have rests : (s.pocket p).lock = .locked ∨
      ((s.pocket p).lock = .closing ∧ s.order.service = .setup ∧ (s.pocket p).fault = .clear) := by
    rcases facts.unclaimed p unclaimed with locked | jammed | closing
    · exact .inl locked
    · exact absurd jammed sound
    · exact .inr closing
  have elsewhere (r : Request) (hr : r ∈ s.crib.requests) : r.pocket ≠ p := by
    rintro rfl
    obtain ⟨-, -, claim, -⟩ := facts.listed r hr
    rw [unclaimed] at claim
    cases claim
  have claim : (t.pocket p).claim = some num := by rw [here]; split <;> rfl
  refine ⟨?_, next ▸ (succNumber_range pos le).1, next ▸ (succNumber_range pos le).2, ?_, ?_, ?_, ?_⟩
  · rw [requests, List.map_append, List.nodup_append]
    refine ⟨facts.nodup, by simp, fun a ha b hb => ?_⟩
    obtain ⟨r, hr, rfl⟩ := List.mem_map.mp ha
    rw [List.mem_singleton.mp hb]
    exact free r hr
  · intro r hr
    rw [service]
    rcases List.mem_append.mp (requests ▸ hr) with old | new
    · rw [others _ (elsewhere r old)]
      exact facts.listed r old
    · obtain rfl := List.mem_singleton.mp new
      refine ⟨pos, le, claim, ?_⟩
      by_cases starts : s.budgetCount < s.crib.lockBudget
      · simp only [here, if_pos starts]
      · simpa only [here, if_neg starts] using rests
  · intro q m claimed
    by_cases same : q = p
    · rw [same, claim] at claimed
      exact ⟨_, requests ▸ List.mem_append_right _ (List.mem_singleton.mpr rfl), Option.some.inj claimed, same.symm⟩
    · rw [others q same] at claimed
      obtain ⟨r, hr, named⟩ := facts.claimed q m claimed
      exact ⟨r, requests ▸ List.mem_append_left _ hr, named⟩
  · intro q none
    have other : q ≠ p := by
      rintro rfl
      rw [claim] at none
      cases none
    rw [others q other] at none ⊢
    rw [service]
    exact facts.unclaimed q none
  · rw [service, budget]
    intro inService
    by_cases starts : s.budgetCount < s.crib.lockBudget
    · exact (State.budgetCount_le_succ others).trans starts
    · refine (State.budgetCount_le fun q => ?_).trans (facts.budget inService)
      by_cases same : q = p
      · rw [same, here, if_neg starts]; exact id
      · rw [others q same]; exact id

end Sys2Proof.Machine
end

section
/-! Every primitive change, every run of them, and the passing of a millisecond keep the agreement of requests, claims and
locks, and the lock budget in SERVICE (`State.cribInv`). -/

namespace Sys2Proof.Machine

/-! ## What leaves claims, locks, faults and the requests' names and states -/

/-- The requests as they were but for their windows, and every pocket as it was but for its content, sensor and windows. -/
theorem State.CribFacts.of_agree {s t : State} (facts : s.CribFacts) (g : Request → Request)
    (same : ∀ r, (g r).number = r.number ∧ (g r).pocket = r.pocket ∧ (g r).state = r.state)
    (requests : t.crib.requests = s.crib.requests.map g) (next : t.crib.nextNumber = s.crib.nextNumber)
    (service : t.order.service = s.order.service)
    (budget : s.order.service = .service → t.crib.lockBudget = s.crib.lockBudget)
    (pockets : ∀ p, (t.pocket p).claim = (s.pocket p).claim ∧ (t.pocket p).lock = (s.pocket p).lock ∧
      (t.pocket p).fault = (s.pocket p).fault) : t.CribFacts := by
  refine ⟨?_, next ▸ facts.next_pos, next ▸ facts.next_le, fun r' hr' => ?_, fun p num claim => ?_, fun p none => ?_, ?_⟩
  · rw [requests, List.map_map,
      show List.map ((·.number) ∘ g) s.crib.requests = s.crib.requests.map (·.number) from
        List.map_congr_left fun r _ => (same r).1]
    exact facts.nodup
  · obtain ⟨r, hr, rfl⟩ := List.mem_map.mp (requests ▸ hr')
    obtain ⟨number, pocket, state⟩ := same r
    rw [pocket]
    obtain ⟨claim, lock, fault⟩ := pockets r.pocket
    unfold Request.Fits
    rw [number, state, service, claim, lock, fault]
    exact facts.listed r hr
  · rw [(pockets p).1] at claim
    obtain ⟨r, hr, number, pocket⟩ := facts.claimed p num claim
    exact ⟨g r, requests ▸ List.mem_map_of_mem hr, (same r).1.trans number, (same r).2.1.trans pocket⟩
  · obtain ⟨claim, lock, fault⟩ := pockets p
    unfold Pocket.Rests
    rw [lock, fault, service]
    exact facts.unclaimed p (claim ▸ none)
  · intro inService
    rw [service] at inService
    rw [budget inService]
    refine (State.budgetCount_le fun p => ?_).trans (facts.budget inService)
    unfold Pocket.away
    rw [(pockets p).2.1]
    exact id

theorem State.CribFacts.tick {s : State} (facts : s.CribFacts) : s.tick.CribFacts := by
  refine facts.of_agree (fun r => { r with window := countDown r.window }) (fun r => ⟨rfl, rfl, rfl⟩) rfl rfl rfl
    (fun _ => rfl) fun p => ?_
  have pocket : s.tick.pocket p = { s.pocket p with confirm := countDown (s.pocket p).confirm } := get_mapVec ..
  rw [pocket]
  exact ⟨rfl, rfl, rfl⟩

/-! ## One pocket changed -/

/-- A pocket that is away and clear in SETUP, or that is jammed, keeps its fault where no started request names it. -/
theorem State.PocketChange.fault_kept {s : State} {p : PocketNo} {f : Pocket → Pocket} (change : s.PocketChange p f)
    (away : (s.pocket p).lock ≠ .locked)
    (unchangeable : (s.pocket p).fault = .lockJam ∨ (s.order.service = .setup ∧ (s.pocket p).fault = .clear))
    (alone : ∀ r ∈ s.crib.requests, r.pocket = p → r.state = .queued) :
    (f (s.pocket p)).fault = (s.pocket p).fault := by
  rcases change.fault with kept | locked | unknown | forced | ⟨service, clear⟩ | ⟨r, hr, here, started⟩
  · exact kept
  · exact absurd locked away
  · rw [unknown] at unchangeable; simp at unchangeable
  · rw [forced] at unchangeable; simp at unchangeable
  · rw [service, clear] at unchangeable; simp at unchangeable
  · rw [alone r hr here] at started; simp at started

/-- The primitive change of one pocket. -/
theorem State.CribFacts.changePocket {s : State} (facts : s.CribFacts) {p : PocketNo} {f : Pocket → Pocket}
    (change : s.PocketChange p f) : (s.changePocket p f).CribFacts := by
  have pocket (q : PocketNo) := State.pocket_changePocket p q f s
  have here := (pocket p).trans (if_pos rfl)
  refine facts.pocket (p := p) ⟨rfl, rfl, rfl⟩ rfl (fun q other => (pocket q).trans (if_neg (Ne.symm other))) ?_ ?_ ?_ ?_
  all_goals rw [here]
  · exact change.claim
  · rintro r hr named ⟨pos, le, claim, lock⟩
    refine ⟨pos, le, change.claim.trans claim, ?_⟩
    dsimp only
    rw [change.lock]
    cases state : r.state <;> rw [state] at lock
    case queued =>
      refine lock.imp_right fun ⟨closing, setup, clear⟩ => ⟨closing, setup, ?_⟩
      rw [change.fault_kept (by simp [closing]) (.inr ⟨setup, clear⟩), clear]
      intro q hq same
      rwa [facts.eq_of_pocket hq hr (same.trans named.symm)]
    all_goals exact lock
  · intro none rests
    have kept (away : (s.pocket p).lock ≠ .locked) (unchangeable) := change.fault_kept away unchangeable fun r hr named => by
      obtain ⟨-, -, claim, -⟩ := facts.listed r hr
      rw [named, none] at claim
      cases claim
    unfold Pocket.Rests
    dsimp only
    rw [change.lock]
    rcases rests with locked | jammed | ⟨closing, setup, clear⟩
    · exact .inl locked
    · by_cases locked : (s.pocket p).lock = .locked
      · exact .inl locked
      · exact .inr (.inl ((kept locked (.inl jammed)).trans jammed))
    · exact .inr (.inr ⟨closing, setup, (kept (by simp [closing]) (.inr ⟨setup, clear⟩)).trans clear⟩)
  · unfold Pocket.away
    dsimp only
    rw [change.lock]
    exact id

section
variable {s : State} (facts : s.CribFacts)
include facts

/-- A lock event at a pocket that no request names. -/
theorem State.CribFacts.lockAlone {p : PocketNo} {f : Pocket → Pocket} (alone : (s.pocket p).claim = none)
    (claim : (f (s.pocket p)).claim = (s.pocket p).claim)
    (rests : (s.pocket p).Rests s.order.service → ({ f (s.pocket p) with stamp := s.clock }).Rests s.order.service)
    (away : (s.pocket p).lock = .locked → (f (s.pocket p)).lock = .locked) : (s.changePocket p f).CribFacts := by
  have pocket (q : PocketNo) := State.pocket_changePocket p q f s
  have here := (pocket p).trans (if_pos rfl)
  refine facts.pocket (p := p) ⟨rfl, rfl, rfl⟩ rfl (fun q other => (pocket q).trans (if_neg (Ne.symm other))) ?_ ?_ ?_ ?_
  · rw [here]
    exact claim
  · intro r hr named
    obtain ⟨-, -, claim, -⟩ := facts.listed r hr
    rw [named, alone] at claim
    cases claim
  · rw [here]
    exact fun _ => rests
  · rw [here]
    simpa only [Pocket.away, bne_iff_ne] using mt away

/-- A released confirmation at the pocket of a request in OPENING (R24, R39). -/
theorem State.CribFacts.released {p : PocketNo} {r : Request} (w : Nat) (opening : (s.pocket p).lock = .opening)
    (request : s.requestAt p = some r) :
    ((s.setLock p .opened).modRequest r.number fun q => { q with state := .opened, window := some w }).CribFacts := by
  obtain ⟨hr, rfl⟩ := facts.requestAt_iff.mp request
  obtain ⟨pos, le, claim, lock⟩ := facts.listed r hr
  have pocket (q : PocketNo) := State.pocket_setLock r.pocket q .opened s
  have others (q : PocketNo) (other : q ≠ r.pocket) := (pocket q).trans (if_neg (Ne.symm other))
  have here := (pocket r.pocket).trans (if_pos rfl)
  refine facts.change ⟨rfl, rfl, rfl⟩ hr (g := fun q => { q with state := .opened, window := some w }) rfl rfl rfl others ?_ ?_
  · change Request.Fits _ _ ((s.setLock r.pocket .opened).pocket r.pocket)
    rw [here]
    exact ⟨pos, le, claim, rfl⟩
  · refine fun service => (State.budgetCount_le fun q => ?_).trans (facts.budget service)
    by_cases same : q = r.pocket
    · rw [same]; exact fun _ => by simp [Pocket.away, opening]
    · change ((s.setLock r.pocket .opened).pocket q).away = true → _
      rw [others q same]; exact id

/-- A lock event that ends the request of its pocket (R24, R42). -/
theorem State.CribFacts.lockEnds {p : PocketNo} {r : Request} {f : Pocket → Pocket} (request : s.requestAt p = some r)
    (rests : ({ f (s.pocket p) with stamp := s.clock, claim := none }).Rests s.order.service)
    (away : (s.pocket p).lock = .locked → (f (s.pocket p)).lock = .locked) :
    ((s.changePocket p f).endRequest r).CribFacts := by
  obtain ⟨hr, rfl⟩ := facts.requestAt_iff.mp request
  have pocket (q : PocketNo) : ((s.changePocket r.pocket f).endRequest r).pocket q =
      if r.pocket = q then { f (s.pocket r.pocket) with stamp := s.clock, claim := none } else s.pocket q := by
    refine (State.pocket_modPocket ..).trans ?_
    change (if r.pocket = q then { (s.changePocket r.pocket f).pocket r.pocket with claim := none }
      else (s.changePocket r.pocket f).pocket q) = _
    rw [State.pocket_changePocket, if_pos rfl, State.pocket_changePocket]
    split <;> rfl
  have here := (pocket r.pocket).trans (if_pos rfl)
  refine facts.ended ⟨rfl, rfl, rfl⟩ hr rfl (fun q other => (pocket q).trans (if_neg (Ne.symm other))) ?_ ?_ ?_
  all_goals rw [here]
  · exact rests
  · simpa only [Pocket.away, bne_iff_ne] using mt away

end

/-! ## Runs -/

theorem State.Act.cribFacts {s t : State} (act : s.Act t) (facts : s.CribFacts) : t.CribFacts := by
  cases act with
  | beside => exact facts.of_same rfl rfl
  | link => exact facts.of_same rfl rfl
  | report r => exact facts.of_same (by simp) (State.service_of_portPart (by simp))
  | work n w => exact facts.of_same (by simp) (State.service_of_portPart (by simp))
  | form n status result buffer => exact facts.of_same (by simp) (State.service_of_portPart (by simp))
  | layout c requests next budget pockets =>
    refine facts.of_agree id (fun _ => ⟨rfl, rfl, rfl⟩) (by simpa using requests) next rfl (fun _ => budget) fun p => ?_
    obtain ⟨x, pocket⟩ := pockets p
    rw [show State.pocket { s with crib := c } p = { s.pocket p with sensor := x } from pocket]
    exact ⟨rfl, rfl, rfl⟩
  | limits l setup =>
    refine facts.of_agree id (fun _ => ⟨rfl, rfl, rfl⟩) (List.map_id _).symm rfl rfl (fun service => ?_) fun p => ⟨rfl, rfl, rfl⟩
    rw [setup] at service
    cases service
  | pocket p f change => exact facts.changePocket change
  | placed mv p tool owner unclaimed sound =>
    exact facts.made (s.requestMade_placeRequest mv p tool owner) (s.nextNumber_placeRequest mv p tool owner)
      (s.lockBudget_placeRequest mv p tool owner) unclaimed sound
  | started => exact facts.startOne
  | cancelled num => exact facts.cancelRequest num
  | closed r outcome listed live => exact facts.closed outcome listed live
  | releasedAlone p opening alone =>
    rw [facts.requestAt_eq_none] at alone
    refine facts.lockAlone alone rfl (fun rests => ?_) (by simp [opening])
    simpa [Pocket.Rests, opening] using rests
  | released p r w opening request => exact facts.released w opening request
  | engagedAlone p alone =>
    exact facts.lockAlone (facts.requestAt_eq_none.mp alone) rfl (fun _ => .inl rfl) fun _ => rfl
  | engaged p r request => exact facts.lockEnds request (.inl rfl) fun _ => rfl
  | jammedAlone p away alone =>
    exact facts.lockAlone (facts.requestAt_eq_none.mp alone) rfl (fun _ => .inr (.inl rfl)) fun locked => absurd locked away
  | jammed p r away request => exact facts.lockEnds request (.inr (.inl rfl)) fun locked => absurd locked away
  | relocked p away unclaimed jammed =>
    exact facts.lockAlone unclaimed rfl (fun _ => .inr (.inl jammed)) fun locked => absurd locked away

theorem State.Acts.cribFacts {s t : State} (acts : s.Acts t) (facts : s.CribFacts) : t.CribFacts :=
  acts.keeps State.Act.cribFacts facts

theorem State.CribFacts.settle {s : State} (facts : s.CribFacts) : s.settle.CribFacts :=
  facts.of_same (by simp) (State.service_of_portPart (by simp))

theorem State.Runs.cribFacts {s t : State} (runs : s.Runs t) (facts : s.CribFacts) : t.CribFacts := by
  obtain ⟨u, v, begins, acts, ends⟩ := runs
  have begun : u.CribFacts := by
    cases begins with
    | here => exact facts
    | link l rx => exact facts.of_same rfl rfl
    | taken n kind img reading => exact facts.of_same rfl rfl
  have done := acts.cribFacts begun
  rcases ends with rfl | ⟨rfl, -⟩
  · exact done.settle
  · exact done

end Sys2Proof.Machine
end

section
/-! Every step keeps the agreement of requests, claims and locks, and the lock budget in SERVICE (`State.cribInv`): the resets,
SET_DRAWER and the change of the service state do, the port's other commands leave the Crib Controller alone, and every other
command runs through primitive changes. -/

namespace Sys2Proof.Machine

/-! ## The resets (R195) -/

theorem State.pocket_deviceReset (seated : Bool) (accesses : Nat) (s : State) (p : PocketNo) :
    (s.deviceReset seated accesses).pocket p = Pocket.reset := get_replicate ..

theorem State.CribFacts.of_reset {s : State} (crib : s.crib = Crib.reset) (setup : s.order.service = .setup) :
    s.CribFacts := by
  have pocket (p : PocketNo) : s.pocket p = Pocket.reset := by
    rw [State.pocket, crib]
    exact get_replicate ..
  have requests : s.crib.requests = [] := by rw [crib]; rfl
  have next : s.crib.nextNumber = 1 := by rw [crib]; rfl
  refine ⟨?_, next ▸ Nat.le_refl 1, next ▸ by omega, ?_, ?_, ?_, ?_⟩
  · simp [requests]
  · simp [requests]
  · intro p num claim
    rw [pocket] at claim
    cases claim
  · intro p _
    rw [pocket]
    exact .inr (.inr ⟨rfl, setup, rfl⟩)
  · simp [setup]

/-! ## SERVICE entered and left (R186, R187) -/

theorem State.CribFacts.enterSetup {s t : State} (facts : s.CribFacts) (crib : t.crib = s.crib)
    (setup : t.order.service = .setup) : t.CribFacts := by
  have pocket : t.pocket = s.pocket := by funext p; rw [State.pocket, crib]; rfl
  have closing {k : Pocket} : k.lock = .closing ∧ s.order.service = .setup ∧ k.fault = .clear →
      k.lock = .closing ∧ t.order.service = .setup ∧ k.fault = .clear :=
    fun ⟨lock, _, fault⟩ => ⟨lock, setup, fault⟩
  refine ⟨crib ▸ facts.nodup, crib ▸ facts.next_pos, crib ▸ facts.next_le, ?_, ?_, ?_, ?_⟩
  · rw [crib, pocket]
    intro r hr
    obtain ⟨pos, le, claim, lock⟩ := facts.listed r hr
    refine ⟨pos, le, claim, ?_⟩
    cases state : r.state <;> rw [state] at lock
    case queued => exact lock.imp_right closing
    all_goals exact lock
  · rw [crib, pocket]
    exact facts.claimed
  · rw [pocket]
    exact fun p none => (facts.unclaimed p none).imp_right (.imp_right closing)
  · rw [setup]
    exact fun service => nomatch service

theorem State.of_startServiceCheck {s : State} (passes : s.startServiceCheck = none) (p : PocketNo) :
    (s.pocket p).away = false := by
  unfold State.startServiceCheck at passes
  split at passes
  · cases passes
  · have none := List.head?_eq_none_iff.mp (Option.map_eq_none_iff.mp passes)
    have clear := List.filter_eq_nil_iff.mp none p (List.mem_finRange p)
    simp only [Bool.or_eq_true, not_or, Bool.not_eq_true] at clear
    exact clear.1

theorem State.CribFacts.enterService {s t : State} (facts : s.CribFacts) (passes : s.startServiceCheck = none)
    (crib : t.crib = s.crib) : t.CribFacts := by
  have pocket : t.pocket = s.pocket := by funext p; rw [State.pocket, crib]; rfl
  have locked (p : PocketNo) : (s.pocket p).lock = .locked := by
    simpa [Pocket.away] using State.of_startServiceCheck passes p
  refine ⟨crib ▸ facts.nodup, crib ▸ facts.next_pos, crib ▸ facts.next_le, ?_, ?_, ?_, fun _ => ?_⟩
  · rw [crib, pocket]
    intro r hr
    obtain ⟨pos, le, claim, lock⟩ := facts.listed r hr
    refine ⟨pos, le, claim, ?_⟩
    cases state : r.state <;> rw [state] at lock
    case queued => exact .inl (locked _)
    all_goals exact lock
  · rw [crib, pocket]
    exact facts.claimed
  · rw [pocket]
    exact fun p _ => .inl (locked p)
  · have count : t.budgetCount = 0 := by
      rw [State.budgetCount_eq_card, pocket]
      simp [State.of_startServiceCheck passes]
    omega

/-! ## SET_DRAWER (R31, R32) -/

theorem State.CribFacts.endClosed {s : State} (facts : s.CribFacts) {r : Request} (isListed : r ∈ s.crib.requests)
    (queued : r.state = .queued) : (s.endClosed r).CribFacts :=
  (facts.endQueued isListed queued).of_same (by simp [State.endClosed])
    (State.service_of_portPart (by simp [State.endClosed]))

/-- Queued requests with distinct numbers end one after the other. -/
theorem State.CribFacts.endAllClosed {l : List Request} {s : State} (facts : s.CribFacts)
    (isListed : ∀ r ∈ l, r ∈ s.crib.requests ∧ r.state = .queued) (distinct : (l.map (·.number)).Nodup) :
    (l.foldl State.endClosed s).CribFacts := by
  induction l generalizing s with
  | nil => exact facts
  | cons r l ih =>
    obtain ⟨hr, queued⟩ := isListed r List.mem_cons_self
    rw [List.map_cons, List.nodup_cons] at distinct
    refine ih (facts.endClosed hr queued) (fun q hq => ?_) distinct.2
    obtain ⟨listed, state⟩ := isListed q (List.mem_cons_of_mem r hq)
    have requests : (s.endClosed r).crib.requests = s.crib.requests.filter fun q => q.number != r.number := by
      simp [State.endClosed, State.endRequest, State.modPocket]
    refine ⟨?_, state⟩
    rw [requests, List.mem_filter, bne_iff_ne]
    exact ⟨listed, fun same => distinct.1 (same ▸ List.mem_map_of_mem hq)⟩

theorem State.CribFacts.complete {s : State} (facts : s.CribFacts) (n : SlotNo) (status : Status) (result : List Byte) :
    (s.complete n status result).CribFacts := ((Acts.refl s).complete n status result).cribFacts facts

theorem State.CribFacts.doSetDrawer {s : State} (facts : s.CribFacts) (img : SlotImage) (n : SlotNo) :
    (doSetDrawer img n s).CribFacts := by
  unfold Machine.doSetDrawer
  split
  · rename_i d a _ _
    dsimp only
    split
    · exact facts.complete n _ _
    · have changed : (s.modCrib fun c => { c with drawers := c.drawers.set d.1 a d.2 }).CribFacts :=
        (Act.layout s { s.crib with drawers := s.crib.drawers.set d.1 a d.2 } rfl rfl rfl
          fun p => ⟨(s.pocket p).sensor, rfl⟩).cribFacts facts
      generalize (s.modCrib fun c => { c with drawers := c.drawers.set d.1 a d.2 }) = t at changed ⊢
      refine (changed.endAllClosed (fun r hr => ?_) ?_).complete n _ _
      · obtain ⟨listed, test⟩ := List.mem_filter.mp hr
        simp only [Bool.and_eq_true, beq_iff_eq] at test
        exact ⟨listed, test.1.1⟩
      · exact (List.filter_sublist.map _).nodup changed.nodup
  · exact facts.complete n _ _

/-! ## Every step -/

/-- An order whose work keeps the invariant. -/
theorem State.CribFacts.takeOrder {s : State} (facts : s.CribFacts) (k : OrderKind) (img : SlotImage)
    {work : SlotNo → State → State} (keeps : ∀ (n : SlotNo) (t : State), t.CribFacts → (work n t).CribFacts) :
    (s.takeOrder k img work).CribFacts := by
  unfold State.takeOrder
  split
  · rename_i n reading
    have taken : (s.taken n k.code img).CribFacts := facts.of_same rfl rfl
    refine State.CribFacts.settle ?_
    split
    · exact taken.complete n _ _
    · exact keeps n _ taken
  · exact facts

theorem State.CribFacts.doStartService {s : State} (facts : s.CribFacts) (n : SlotNo) : (doStartService n s).CribFacts := by
  unfold Machine.doStartService
  split
  · exact facts.complete n _ _
  · rename_i passes
    exact (facts.enterService (t := s.enterService) passes rfl).complete n _ _

theorem State.CribFacts.doStopService {s : State} (facts : s.CribFacts) (n : SlotNo) : (doStopService n s).CribFacts := by
  unfold Machine.doStopService
  split
  · exact facts.complete n _ _
  · refine State.CribFacts.complete (facts.enterSetup (by simp) ?_) n _ _
    have port : s.enterSetup.order = { s.order with service := .setup } := by simp [State.enterSetup]
    rw [port]

/-- The port's own commands leave requests, pockets and the service state as they are. -/
theorem State.CribFacts.exec_port {c : Instr} (port : isPortCommand c = true) {s t : State} (facts : s.CribFacts)
    (next : exec c s = .next t) : t.CribFacts := by
  have quiet {u : State} (eq : exec c s = .next u) (crib : u.crib = s.crib)
      (service : u.order.service = s.order.service) : t.CribFacts := by
    obtain rfl : u = t := Host.Outcome.next.inj (eq.symm.trans next)
    exact facts.of_same crib service
  have forBits (value : Word) {f : SlotNo → State → State} (crib : ∀ n u, (f n u).crib = u.crib)
      (service : ∀ n u, (f n u).order.service = u.order.service) : (s.forBits value f).CribFacts :=
    facts.of_same (foldl_keeps (·.crib) _ (fun u n => by split <;> simp [crib]) _ _)
      (foldl_keeps (·.order.service) _ (fun u n => by split <;> simp [service]) _ _)
  cases c <;> try exact Bool.noConfusion port
  case reset seated accesses => exact Host.Outcome.next.inj next ▸ .of_reset rfl rfl
  case fullReset seated accesses => exact Host.Outcome.next.inj next ▸ .of_reset rfl rfl
  case portEnable on accesses => cases on <;> exact quiet rfl rfl rfl
  case resume => exact quiet rfl rfl rfl
  case bbaWrite value =>
    by_cases ignored : s.order.portEnable = true ∨ s.anyTaken = true
    · exact quiet (if_pos ignored) rfl rfl
    · exact quiet (if_neg ignored) rfl rfl
  case pstWrite value =>
    exact Host.Outcome.next.inj next ▸ forBits value (by simp) fun n u => by unfold State.post; split <;> rfl
  case donWrite value =>
    exact Host.Outcome.next.inj next ▸ forBits value (by simp) fun n u => by unfold State.free; split <;> rfl
  case rpcWrite value => exact quiet rfl (by simp) (by unfold State.releaseEntries; split <;> rfl)
  case cauWrite value => exact quiet rfl rfl rfl
  case cenWrite value => exact quiet rfl rfl rfl
  case ignoredRegisterWrite reg value => exact quiet rfl rfl rfl
  case slotRead =>
    change execSlotRead s = _ at next
    unfold execSlotRead at next
    split at next
    · split at next <;> exact Host.Outcome.next.inj next ▸ facts.of_same rfl rfl
    · exact Host.Outcome.next.inj next ▸ facts
  case resultWrite =>
    change execResultWrite s = _ at next
    unfold execResultWrite at next
    split at next
    · split at next <;> exact Host.Outcome.next.inj next ▸ facts.of_same rfl rfl
    · exact Host.Outcome.next.inj next ▸ facts
  case resultWritten =>
    change execResultWritten s = _ at next
    unfold execResultWritten at next
    split at next <;> exact Host.Outcome.next.inj next ▸ facts.of_same rfl rfl
  case reportWrite =>
    change execReportWrite s = _ at next
    unfold execReportWrite at next
    split at next <;> exact Host.Outcome.next.inj next ▸ facts.of_same rfl rfl
  case reportWriteDone =>
    change execReportWriteDone s = _ at next
    unfold execReportWriteDone at next
    split at next
    · refine Host.Outcome.next.inj next ▸ facts.of_same (by simp) ?_
      unfold State.reportDone
      dsimp only
      split <;> rfl
    · exact Host.Outcome.next.inj next ▸ facts
  case boardFault accesses =>
    change execBoardFault accesses s = _ at next
    unfold execBoardFault at next
    split at next <;> exact Host.Outcome.next.inj next ▸ facts.of_same rfl rfl
  case setDrawer img =>
    exact Host.Outcome.next.inj next ▸ facts.takeOrder _ img fun n u facts => facts.doSetDrawer img n
  case startService img =>
    exact Host.Outcome.next.inj next ▸ facts.takeOrder _ img fun n u facts => facts.doStartService n
  case stopService img =>
    exact Host.Outcome.next.inj next ▸ facts.takeOrder _ img fun n u facts => facts.doStopService n

/-- Settles O59: the millisecond keeps the agreement, the port's own commands do one by one, and every other command runs
through primitive changes that keep it. -/
theorem stepKeepsBudget : Obligations.StepKeepsBudget := by
  unfold Obligations.StepKeepsBudget
  intro s t inv next
  have facts := State.cribInv_iff.mp inv
  refine State.cribInv_iff.mpr ?_
  unfold step at next
  split at next
  · exact Host.Outcome.next.inj next ▸ facts.tick
  · rename_i c rest _
    have kept : State.CribFacts { s with pending := rest } := facts.of_same rfl rfl
    cases port : isPortCommand c with
    | true => exact kept.exec_port port next
    | false =>
      obtain ⟨u, answer, runs⟩ := exec_runs port { s with pending := rest }
      obtain rfl : u = t := Host.Outcome.next.inj (answer.symm.trans next)
      exact runs.cribFacts kept

/-! ## The state after reset -/

theorem State.busyInv_reset : State.reset.BusyInv := by
  have outstanding : ReportWriter.reset.outstanding ≤ 128 := by decide
  have bba : OrderBlock.reset.bba &&& 0xFFFF#32 = 0 := by decide
  have empty : ReportWriter.reset.hold.length < 12 := by decide
  refine ⟨rfl, outstanding, Nat.zero_le 8, bba, fun write => (nomatch write), fun under => absurd rfl under,
    ⟨Nat.zero_le 16, fun stalled => (nomatch stalled), fun _ => empty⟩, fun n => ?_⟩
  have free : State.reset.slot n = { state := .free, context := none } := get_replicate _ n
  simp [free]

/-- Settles O60. -/
theorem resetHasInvariants : Obligations.ResetHasInvariants :=
  ⟨State.inv_iff.mpr ⟨State.busyInv_reset, rfl⟩, State.cribInv_iff.mpr (.of_reset rfl rfl)⟩

end Sys2Proof.Machine
end

section
/-! The machine's step (log 1, log 2): the front command, the millisecond, and that every command answers a next state. -/

namespace Sys2Proof.Machine

/-! ## The front command and the millisecond -/

/-- Settles O1. -/
theorem stepTakesTheFrontCommand : Obligations.StepTakesTheFrontCommand := by
  intro c rest s pending
  rw [step, pending]

theorem step_of_empty {s : State} (empty : s.pending = []) : step s = .next s.tick := by rw [step, empty]

theorem countBounce_eq (t : Option Nat) : countBounce t = t.bind fun k => if k = 0 then none else some (k - 1) := by
  rcases t with _ | _ | k <;> rfl

theorem Work.tick_eq (work : Work) : work.tick = match work with
    | .home axes formerZ formerX window => .home axes formerZ formerX (window - 1)
    | work => work := by
  cases work <;> rfl

theorem State.pocket_tick (p : PocketNo) (s : State) :
    s.tick.pocket p = { s.pocket p with confirm := countDown (s.pocket p).confirm } := get_mapVec ..

theorem State.slot_tick (n : SlotNo) (s : State) : s.tick.slot n =
    { s.slot n with context := (s.slot n).context.map fun c => { c with work := c.work.tick } } := get_mapVec ..

theorem State.cell_tick (c : CellNo) (s : State) : s.tick.cell c =
    { s.cell c with queue := (s.cell c).queue.map fun e =>
      { e with deferralTimer := countDown e.deferralTimer, window := countDown e.window } } := get_mapVec ..

theorem State.issueRec_tick (i : IssueNo) (s : State) : s.tick.issueRec i =
    { s.issueRec i with issue := (s.issueRec i).issue.map fun x => { x with transit := countDown x.transit } } :=
  get_mapVec ..

theorem State.axis_tick (a : Axis) (s : State) :
    s.tick.axis a = { s.axis a with bounce := countBounce (s.axis a).bounce } := by
  cases a <;> rfl

theorem State.slotMask_congr {s t : State} (same : ∀ n, (t.slot n).state = (s.slot n).state) (st : SlotState) :
    t.slotMask st = s.slotMask st := by
  simp only [State.slotMask, same]

theorem State.readRegister_tick (r : Register) (s : State) : s.tick.readRegister r = s.readRegister r := by
  have masks := State.slotMask_congr (s := s) (t := s.tick) fun n => by rw [State.slot_tick]
  cases r with
  | pst => simp only [State.readRegister, masks]
  | don => simp only [State.readRegister, masks]
  | cau => simp only [State.readRegister, State.readCau, masks]; rfl
  | _ => rfl

/-- Settles O2: each collection's entry after the millisecond. -/
theorem emptyQueueTicks : Obligations.EmptyQueueTicks := by
  intro s empty
  refine ⟨s.tick, step_of_empty empty, rfl, s.pocket_tick, rfl, rfl, fun c => by rw [State.cell_tick]; rfl, rfl, rfl, rfl,
    s.issueRec_tick, fun n => ?_, fun a => by rw [State.axis_tick, countBounce_eq], rfl, empty, rfl, rfl, rfl, rfl, rfl,
    rfl, rfl, rfl, rfl, rfl, fun r => s.readRegister_tick r⟩
  rw [State.slot_tick]
  simp only [Work.tick_eq] <;> rfl

/-! ## Every command answers (log 1) -/

/-- What no command changes: the queue and the count of free values. -/
def State.SameFeed (s t : State) : Prop := t.pending = s.pending ∧ t.freeCount = s.freeCount

theorem State.Act.sameFeed {s t : State} (act : s.Act t) : s.SameFeed t := by
  cases act
  case closed => exact ⟨rfl, rfl⟩
  case released => exact ⟨rfl, rfl⟩
  all_goals exact ⟨by simp, by simp⟩

theorem State.Runs.sameFeed {s t : State} (runs : s.Runs t) : s.SameFeed t := by
  obtain ⟨u, v, begins, acts, ends⟩ := runs
  have begun : s.SameFeed u := by cases begins <;> exact ⟨rfl, rfl⟩
  have done : s.SameFeed v := acts.keeps (P := s.SameFeed)
    (fun act same => ⟨act.sameFeed.1.trans same.1, act.sameFeed.2.trans same.2⟩) begun
  rcases ends with rfl | ⟨rfl, -⟩
  · exact ⟨by simpa using done.1, by simpa using done.2⟩
  · exact done

theorem State.sameFeed_takeOrder (k : OrderKind) (img : SlotImage) {work : SlotNo → State → State}
    (keeps : ∀ (n : SlotNo) (t : State), t.SameFeed (work n t)) (s : State) : s.SameFeed (s.takeOrder k img work) := by
  unfold State.takeOrder
  split
  · rename_i n _
    split
    · exact ⟨by simp, by simp⟩
    · have kept := keeps n (s.taken n k.code img)
      exact ⟨(State.settle_frame _).1.trans kept.1, (by simp : (State.settle _).freeCount = _).trans kept.2⟩
  · exact ⟨rfl, rfl⟩

theorem State.sameFeed_forBits (value : Word) {f : SlotNo → State → State} (keeps : ∀ (n : SlotNo) (t : State), t.SameFeed (f n t))
    (s : State) : s.SameFeed (s.forBits value f) :=
  ⟨foldl_keeps (·.pending) _ (fun t n => by split <;> simp [(keeps n t).1]) _ _,
    foldl_keeps (·.freeCount) _ (fun t n => by split <;> simp [(keeps n t).2]) _ _⟩

theorem exec_port_answers {c : Instr} (port : isPortCommand c = true) (s : State) :
    ∃ t, exec c s = .next t ∧ s.SameFeed t := by
  have stays : s.SameFeed s := ⟨rfl, rfl⟩
  have series {n : Prop} [Decidable n] (x : Series) :
      ∃ t, (if n then .next (s.begin x) else .next s : Result) = .next t ∧ s.SameFeed t := by
    split
    · exact ⟨_, rfl, rfl, rfl⟩
    · exact ⟨_, rfl, stays⟩
  cases c <;> try exact Bool.noConfusion port
  case reset => exact ⟨_, rfl, rfl, rfl⟩
  case fullReset => exact ⟨_, rfl, rfl, rfl⟩
  case portEnable on accesses => cases on <;> exact ⟨_, rfl, rfl, rfl⟩
  case resume => exact ⟨_, rfl, rfl, rfl⟩
  case bbaWrite value =>
    by_cases ignored : s.order.portEnable = true ∨ s.anyTaken = true
    · exact ⟨_, if_pos ignored, stays⟩
    · exact ⟨_, if_neg ignored, rfl, rfl⟩
  case pstWrite value => exact ⟨_, rfl, s.sameFeed_forBits value fun n t => ⟨by simp, by simp⟩⟩
  case donWrite value => exact ⟨_, rfl, s.sameFeed_forBits value fun n t => ⟨by simp, by simp⟩⟩
  case rpcWrite value => exact ⟨_, rfl, by simp, by simp⟩
  case cauWrite value => exact ⟨_, rfl, rfl, rfl⟩
  case cenWrite value => exact ⟨_, rfl, rfl, rfl⟩
  case ignoredRegisterWrite reg value => exact ⟨_, rfl, stays⟩
  case slotRead =>
    change ∃ t, execSlotRead s = _ ∧ _
    unfold execSlotRead
    split
    · exact series _
    · exact ⟨_, rfl, stays⟩
  case resultWrite =>
    change ∃ t, execResultWrite s = _ ∧ _
    unfold execResultWrite
    split
    · exact series _
    · exact ⟨_, rfl, stays⟩
  case resultWritten =>
    change ∃ t, execResultWritten s = _ ∧ _
    unfold execResultWritten
    split
    · exact ⟨_, rfl, rfl, rfl⟩
    · exact ⟨_, rfl, stays⟩
  case reportWrite => exact series _
  case reportWriteDone =>
    change ∃ t, execReportWriteDone s = _ ∧ _
    unfold execReportWriteDone
    split
    · exact ⟨_, rfl, by simp, by simp⟩
    · exact ⟨_, rfl, stays⟩
  case boardFault accesses =>
    change ∃ t, execBoardFault accesses s = _ ∧ _
    unfold execBoardFault
    split
    · exact ⟨_, rfl, rfl, rfl⟩
    · exact ⟨_, rfl, stays⟩
  case setDrawer img => exact ⟨_, rfl, s.sameFeed_takeOrder _ img fun n t => ⟨by simp, by simp⟩⟩
  case startService img => exact ⟨_, rfl, s.sameFeed_takeOrder _ img fun n t => ⟨by simp, by simp⟩⟩
  case stopService img => exact ⟨_, rfl, s.sameFeed_takeOrder _ img fun n t => ⟨by simp, by simp⟩⟩

theorem exec_answers (c : Instr) (s : State) : ∃ t, exec c s = .next t ∧ s.SameFeed t := by
  cases port : isPortCommand c with
  | true => exact exec_port_answers port s
  | false =>
    obtain ⟨t, answer, runs⟩ := exec_runs port s
    exact ⟨t, answer, runs.sameFeed⟩

/-- The handing on of a frame of another kind than the oldest one received changes nothing (log 1). -/
theorem State.handOn_of_other {s : State} {kind : Nat} {take : RxFrame → State → State}
    (other : ∀ f rest, s.link.rx = f :: rest → f.kind ≠ kind) : s.handOn kind take = .next s := by
  unfold State.handOn
  split
  · exact if_neg (other _ _ ‹_›)
  · rfl

/-- Settles O3: every command answers, the handing on of an absent frame and the end of a series that is not under way change
nothing. -/
theorem everyCommandAnswersNext : Obligations.EveryCommandAnswersNext := by
  intro c s
  refine ⟨exec_answers c s, fun kind listed other => ?_, ?_⟩
  · simp only [List.mem_cons, Prod.mk.injEq, List.not_mem_nil, or_false] at listed
    rcases listed with ⟨rfl, rfl⟩ | ⟨rfl, rfl⟩ | ⟨rfl, rfl⟩ | ⟨rfl, rfl⟩ | ⟨rfl, rfl⟩ | ⟨rfl, rfl⟩ | ⟨rfl, rfl⟩ |
      ⟨rfl, rfl⟩ | ⟨rfl, rfl⟩ <;> exact State.handOn_of_other other
  · rintro (⟨rfl, none⟩ | ⟨rfl, none⟩)
    · change execResultWritten s = _
      unfold execResultWritten
      split
      · exact absurd ‹_› (none _)
      · rfl
    · change execReportWriteDone s = _
      unfold execReportWriteDone
      split
      · exact absurd ‹_› none
      · rfl

end Sys2Proof.Machine
end

section
/-! The resets, CTL and the registers (R48, R67, R108, R170 to R173, R177, R193 to R195, R205). -/

namespace Sys2Proof.Machine

/-! ## CTL, CAU and a faulted access -/

/-- Settles O5: the part of a write already done is the accesses that had ended good. -/
theorem portEnableAndResume : Obligations.PortEnableAndResume := fun _ _ => ⟨rfl, rfl, rfl⟩

/-- Settles O10. -/
theorem causeClear : Obligations.CauseClear := fun _ _ => rfl

/-- Settles O15. -/
theorem boardFaultHalts : Obligations.BoardFaultHalts := by
  intro accesses s
  change (_ → execBoardFault accesses s = _) ∧ (_ → execBoardFault accesses s = _)
  unfold execBoardFault
  cases series : s.order.series with
  | none => exact ⟨fun under => absurd rfl under, fun _ => rfl⟩
  | some x => exact ⟨fun _ => rfl, fun none => nomatch none⟩

/-! ## Registers as bits -/

theorem presence_lt (members : List Bool) : presence members < 2 ^ members.length := by
  induction members with
  | nil => simp [presence]
  | cons b bs ih =>
    simp only [presence, List.length_cons, pow_succ]
    split <;> omega

/-- A bit of a word whose bits are members. -/
theorem getLsbD_ofNat_presence (members : List Bool) {i : Nat} (low : i < 32) :
    (BitVec.ofNat 32 (presence members)).getLsbD i = members.getD i false := by
  rw [BitVec.getLsbD_ofNat, decide_eq_true low, Bool.true_and, testBit_presence]

theorem getLsbD_slotMask (s : State) (st : SlotState) (n : SlotNo) :
    (BitVec.ofNat 32 (s.slotMask st)).getLsbD n.val = decide ((s.slot n).state = st) := by
  rw [State.slotMask, getLsbD_ofNat_presence _ n.isLt]
  rw [List.getD_eq_getElem?_getD, List.getElem?_map, List.getElem?_eq_getElem (by simp), List.getElem_finRange]
  rfl

theorem State.slotMask_lt (s : State) (st : SlotState) : s.slotMask st < 2 ^ 32 := by
  have bound := presence_lt ((List.finRange 32).map fun n => (s.slot n).state == st)
  rwa [List.length_map, List.length_finRange] at bound

/-- The seven indications of STA in the order of their bits. -/
def State.indications (s : State) : List Bool :=
  [s.inService, s.order.halted, s.reports.stalled, s.link.state == .off, s.order.conflict.isSome,
    s.order.boardFault, s.order.releaseError]

/-- The conflict slot of STA, 0 with no conflict. -/
def State.conflictNo (s : State) : Nat := (s.order.conflict.map (·.val)).getD 0

/-- A bit of STA: an indication below bit 8, the conflict slot from there on. -/
theorem State.getLsbD_sta (s : State) {i : Nat} (low : i < 32) : (s.readRegister .sta).getLsbD i =
    if i < 8 then s.indications.getD i false else s.conflictNo.testBit (i - 8) := by
  have small : presence s.indications < 2 ^ 8 :=
    (presence_lt s.indications).trans_le (Nat.pow_le_pow_right (by decide) (by simp [State.indications]))
  have value : s.readSta = 2 ^ 8 * s.conflictNo + presence s.indications := Nat.add_comm ..
  change (BitVec.ofNat 32 s.readSta).getLsbD i = _
  rw [BitVec.getLsbD_ofNat, decide_eq_true low, Bool.true_and, value, Nat.testBit_two_pow_mul_add _ small,
    testBit_presence]

theorem State.conflict_lt (s : State) : s.conflictNo < 2 ^ 5 := by
  unfold State.conflictNo
  cases s.order.conflict with
  | none => decide
  | some n => exact n.isLt

theorem State.conflict_sta (s : State) :
    (s.readRegister .sta).extractLsb' 8 5 = BitVec.ofNat 5 s.conflictNo := by
  refine BitVec.eq_of_getLsbD_eq fun i low => ?_
  rw [BitVec.getLsbD_extractLsb', BitVec.getLsbD_ofNat, s.getLsbD_sta (by omega), if_neg (by omega),
    Nat.add_sub_cancel_left]

/-- The bits of STA that name nothing read 0 (R170). -/
theorem State.unnamed_sta (s : State) : s.readRegister .sta &&& 0xFFFFE080#32 = 0 := by
  refine BitVec.eq_of_getLsbD_eq fun i low => ?_
  have high (above : 13 ≤ i) : s.conflictNo.testBit (i - 8) = false :=
    Nat.testBit_lt_two_pow (s.conflict_lt.trans_le (Nat.pow_le_pow_right (by decide) (by omega)))
  rw [BitVec.getLsbD_and, s.getLsbD_sta low]
  by_cases above : 13 ≤ i
  · rw [if_neg (by omega), high above, Bool.false_and]
    simp
  · interval_cases i <;> simp [State.indications]

theorem State.unnamed_cau (s : State) : s.readRegister .cau &&& 0xFFFFFFF0#32 = 0 := by
  change BitVec.ofNat 32 s.readCau &&& 0xFFFFFFF0#32 = 0
  have small : s.readCau < 16 := s.readCau_eq ▸ presence_lt s.causes
  generalize s.readCau = v at small
  interval_cases v <;> rfl

theorem State.getLsbD_cau (s : State) {i : Nat} (low : i < 32) :
    (s.readRegister .cau).getLsbD i = s.causes.getD i false := by
  change (BitVec.ofNat 32 s.readCau).getLsbD i = _
  rw [s.readCau_eq, getLsbD_ofNat_presence _ low]

/-- DONE is the level of DON (R205). -/
theorem State.done_cau (s : State) : (s.readRegister .cau).getLsbD 0 = decide (s.readRegister .don ≠ 0) := by
  have level : s.causes.getD 0 false = (s.slotMask .done != 0) := (s.slotMask_ne_zero .done).symm
  have none : s.readRegister .don = 0 ↔ s.slotMask .done = 0 := by
    change BitVec.ofNat 32 (s.slotMask .done) = BitVec.ofNat 32 0 ↔ _
    rw [← BitVec.toNat_inj, BitVec.toNat_ofNat, BitVec.toNat_ofNat, Nat.mod_eq_of_lt (s.slotMask_lt .done), Nat.zero_mod]
  rw [s.getLsbD_cau (by decide), level, Bool.eq_iff_iff]
  simp only [bne_iff_ne, decide_eq_true_eq, ne_eq, none]

theorem State.bba_aligned {s : State} (inv : s.inv) : s.order.bba &&& 0xFFFF#32 = 0 :=
  (State.inv_iff.mp inv).1.bba

/-! ## A write to DON (R177) -/

theorem State.slot_free (n m : SlotNo) (s : State) : (s.free n).slot m =
    if n = m ∧ (s.slot m).state = .done then { s.slot m with state := .free } else s.slot m := by
  by_cases done : (s.slot n).state = .done
  · rw [show s.free n = s.setSlot n { s.slot n with state := .free } from if_pos done, State.slot_setSlot]
    by_cases here : n = m
    · subst here
      rw [if_pos rfl, if_pos ⟨rfl, done⟩]
    · rw [if_neg here, if_neg fun both => here both.1]
  · rw [show s.free n = s from if_neg done, if_neg]
    rintro ⟨rfl, isDone⟩
    exact done isDone

theorem State.free_eq (n : SlotNo) (s : State) : ∃ slots, s.free n = s.modOrder fun o => { o with slots := slots } := by
  unfold State.free
  split
  · exact ⟨_, rfl⟩
  · exact ⟨s.order.slots, rfl⟩

/-- The bits of a write to DON, each by itself. -/
theorem State.slot_freeBits (value : Word) {slots : List SlotNo} (distinct : slots.Nodup) (m : SlotNo) (s : State) :
    (slots.foldl (fun t n => if value.getLsbD n.val then t.free n else t) s).slot m =
      if m ∈ slots ∧ value.getLsbD m.val = true ∧ (s.slot m).state = .done then { s.slot m with state := .free }
      else s.slot m := by
  induction slots generalizing s with
  | nil => simp
  | cons n slots ih =>
    obtain ⟨new, distinct⟩ := List.nodup_cons.mp distinct
    rw [List.foldl_cons, ih distinct]
    by_cases here : n = m
    · subst here
      rw [if_neg fun both => new both.1]
      split <;> simp_all [State.slot_free]
    · have same : (if value.getLsbD n.val then s.free n else s).slot m = s.slot m := by
        split
        · rw [State.slot_free, if_neg fun both => here both.1]
        · rfl
      simp only [same, List.mem_cons, Ne.symm here, false_or]

theorem State.freeBits_eq (value : Word) (slots : List SlotNo) (s : State) : ∃ v,
    slots.foldl (fun t n => if value.getLsbD n.val then t.free n else t) s =
      s.modOrder fun o => { o with slots := v } := by
  induction slots generalizing s with
  | nil => exact ⟨s.order.slots, rfl⟩
  | cons n slots ih =>
    obtain ⟨v, rest⟩ := ih (if value.getLsbD n.val then s.free n else s)
    refine ⟨v, rest.trans ?_⟩
    split
    · obtain ⟨w, freed⟩ := s.free_eq n
      rw [freed]; rfl
    · rfl

theorem exec_donWrite (value : Word) (s : State) : ∃ t, exec (.donWrite value) s = .next t ∧
    (∀ n : SlotNo, t.slot n =
      if value.getLsbD n.val = true ∧ (s.slot n).state = .done then { s.slot n with state := .free } else s.slot n) ∧
    t = { s with order := { s.order with slots := t.order.slots } } := by
  refine ⟨s.forBits value State.free, rfl, fun n => ?_, ?_⟩
  · have slot := s.slot_freeBits value (List.nodup_finRange 32) n
    simp only [List.mem_finRange, true_and] at slot
    exact slot
  · obtain ⟨v, eq⟩ := s.freeBits_eq value (List.finRange 32)
    rw [State.forBits, eq]
    rfl

/-! ## A write to BBA (R173) -/

theorem State.anyTaken_iff (s : State) : s.anyTaken = true ↔ ∃ n, (s.slot n).state = .taken := by
  simp [State.anyTaken]

/-- Settles O7: the bits of each register, then the three writes. -/
theorem registerReadsBbaAndDon : Obligations.RegisterReadsBbaAndDon := by
  intro value reg s
  have sta {i : Nat} (low : i < 8) : (s.readRegister .sta).getLsbD i = s.indications.getD i false := by
    rw [s.getLsbD_sta (by omega), if_pos low]
  refine ⟨⟨?_, ⟨?_, sta (by decide), sta (by decide), ?_, sta (by decide), sta (by decide), sta (by decide),
    fun n conflict => by rw [s.conflict_sta, State.conflictNo, conflict]; rfl, fun none => by rw [s.conflict_sta, State.conflictNo, none]; rfl,
    s.unnamed_sta⟩, rfl, State.bba_aligned, fun n => ⟨getLsbD_slotMask s .posted n, getLsbD_slotMask s .done n⟩,
    BitVec.ofNat_toNat .., ⟨s.done_cau, s.getLsbD_cau (by decide), s.getLsbD_cau (by decide), s.getLsbD_cau (by decide),
      s.unnamed_cau⟩, s.readRegister_cen⟩, fun disabled free => ?_, fun blocked => ?_, rfl, exec_donWrite value s⟩
  · change BitVec.ofNat 32 s.readCtl = _
    cases port : s.order.portEnable <;> simp [State.readCtl, port, presence]
  · exact (sta (by decide)).trans rfl
  · exact (sta (by decide)).trans rfl
  · refine if_neg fun blocked => ?_
    rcases blocked with enabled | taken
    · rw [disabled] at enabled
      cases enabled
    · obtain ⟨n, isTaken⟩ := s.anyTaken_iff.mp taken
      exact free n isTaken
  · exact if_pos (blocked.imp_right s.anyTaken_iff.mpr)

end Sys2Proof.Machine
end

section
/-! A device reset, and the series that the port begins and ends (R48, R67, R108, R174, R175, R180, R195, R197 to R202, R207). -/

namespace Sys2Proof.Machine

/-! ## A device reset (R195) -/

section
variable (seated : Bool) (accesses : Nat) (s : State)

theorem State.slot_deviceReset (n : SlotNo) :
    (s.deviceReset seated accesses).slot n = { state := .free, context := none } := get_replicate ..

theorem State.cell_deviceReset (c : CellNo) : (s.deviceReset seated accesses).cell c = Cell.reset := get_replicate ..

theorem State.issueRec_deviceReset (i : IssueNo) :
    (s.deviceReset seated accesses).issueRec i = { generation := 0, issue := none } := get_replicate ..

theorem State.slotMask_deviceReset {st : SlotState} (other : st ≠ .free) :
    (s.deviceReset seated accesses).slotMask st = 0 := by
  simp only [State.slotMask, State.slot_deviceReset]
  cases st with
  | free => exact absurd rfl other
  | _ => rfl

theorem State.readCau_deviceReset : (s.deviceReset seated accesses).readCau = 0 := by
  rw [State.readCau, State.slotMask_deviceReset seated accesses s (by decide)]
  rfl

theorem State.readRegister_deviceReset (r : Register) : (s.deviceReset seated accesses).readRegister r = 0 := by
  cases r with
  | pst => rw [State.readRegister, State.slotMask_deviceReset seated accesses s (by decide)]; rfl
  | don => rw [State.readRegister, State.slotMask_deviceReset seated accesses s (by decide)]; rfl
  | cau => rw [State.readRegister, State.readCau_deviceReset]; rfl
  | _ => rfl

end

/-- Settles O4. -/
theorem resetLeaves : Obligations.ResetLeaves := by
  intro seated accesses s
  refine ⟨s.deviceReset seated accesses, rfl, rfl, s.readRegister_deviceReset seated accesses,
    State.intAsserted_of_cen_eq_zero rfl, rfl, s.slot_deviceReset seated accesses, ?_⟩
  have pocket := s.pocket_deviceReset seated accesses
  have cell := s.cell_deviceReset seated accesses
  have issueRec := s.issueRec_deviceReset seated accesses
  have drawers (d : Fin 16) : (s.deviceReset seated accesses).crib.drawers.get d = .openAll := get_replicate ..
  have rights (i : Fin 16) : (s.deviceReset seated accesses).link.rights.get i =
      { enabled := false, cells := 0, value := 0, mask := 0
        perms := { byNumber := false, byClass := false, returnTool := false } } := get_replicate ..
  have axis (a : Axis) : (s.deviceReset seated accesses).axis a = AxisRec.reset := by cases a <;> rfl
  have credit : ReportWriter.reset.credit = 128 := by decide
  exact ⟨rfl, rfl, rfl, rfl, rfl, credit, rfl, rfl, rfl, rfl, rfl, rfl, pocket, drawers, rfl, rfl, rfl, rfl, rfl, axis, rfl, rfl,
    rfl, rfl, rfl, rfl, rfl, rfl, rfl, rfl, rfl, issueRec, rfl, cell, rights, rfl, rfl, rfl, rfl, rfl, rfl, rfl, rfl, rfl,
    rfl, rfl, rfl, rfl, rfl, rfl, rfl⟩

/-! ## Which series the port begins (R174) -/

theorem exec_resultWrite (s : State) : exec .resultWrite s = execResultWrite s := rfl
theorem exec_reportWrite (s : State) : exec .reportWrite s = execReportWrite s := rfl
theorem exec_slotRead (s : State) : exec .slotRead s = execSlotRead s := rfl

theorem State.portReady_iff {s : State} :
    s.portReady = true ↔ s.order.portEnable = true ∧ s.order.halted = false ∧ s.order.series = none := by
  simp [State.portReady, State.canAccess, and_assoc]

theorem State.reportWaits_iff {s : State} : s.reportWaits = true ↔ s.reports.hold ≠ [] ∧ s.reports.credit ≠ 0 := by
  simp [State.reportWaits]

theorem State.reportWaits_eq_false {s : State} :
    s.reportWaits = false ↔ s.reports.hold = [] ∨ s.reports.credit = 0 := by
  rw [← Bool.not_eq_true, State.reportWaits_iff, not_and_or, not_not, not_not]

theorem execResultWrite_of_none {s : State} (none : s.order.writeOrder = []) : execResultWrite s = .next s := by
  rw [execResultWrite, none]

theorem execResultWrite_of_not_ready {s : State} (blocked : s.portReady ≠ true) : execResultWrite s = .next s := by
  unfold execResultWrite
  split
  · exact if_neg blocked
  · rfl

theorem execReportWrite_of_not {s : State}
    (blocked : ¬ (s.portReady = true ∧ s.order.writeOrder = [] ∧ s.reportWaits = true)) :
    execReportWrite s = .next s := if_neg blocked

theorem execSlotRead_of_not {s : State}
    (blocked : ¬ (s.portReady = true ∧ s.order.writeOrder = [] ∧ s.reportWaits = false)) :
    execSlotRead s = .next s := by
  unfold execSlotRead
  split
  · exact if_neg blocked
  · rfl

/-- The lowest index that a test selects is the one below which it selects none. -/
theorem head?_indices_eq_some {n : Nat} {test : Fin n → Bool} {i : Fin n} (holds : test i = true)
    (below : ∀ j < i, test j = false) : (indices test).head? = some i := by
  rw [indices, List.head?_filter, List.find?_eq_some_iff_append]
  refine ⟨holds, (List.finRange n).take i, (List.finRange n).drop (i + 1), ?_, fun j early => ?_⟩
  · conv_lhs => rw [← List.take_append_drop i (List.finRange n)]
    rw [List.drop_eq_getElem_cons (by simp)]
    simp
  · obtain ⟨k, low, rfl⟩ := List.mem_take_iff_getElem.mp early
    rw [below _ (by simp only [List.getElem_finRange, Fin.lt_def, Fin.val_cast]; omega)]
    rfl

theorem head?_indices_eq_none {n : Nat} {test : Fin n → Bool} (none : ∀ i, test i = false) :
    (indices test).head? = Option.none := by
  simp [indices, none]

/-- Settles O12. -/
theorem seriesBegin : Obligations.SeriesBegin := by
  intro s
  rw [exec_resultWrite, exec_reportWrite, exec_slotRead]
  refine ⟨fun enabled goes free => ?_, fun blocked => ?_, fun waits => ?_, execResultWrite_of_none, fun none => ?_, ?_⟩
  · have ready := State.portReady_iff.mpr ⟨enabled, goes, free⟩
    refine ⟨fun n rest line => ?_, fun empty report credit => ?_, fun n empty noReport posted lowest => ?_⟩
    · rw [execResultWrite, line]
      exact if_pos ready
    · exact if_pos ⟨ready, empty, State.reportWaits_iff.mpr ⟨report, credit⟩⟩
    · have first : s.lowestPosted = some n := head?_indices_eq_some (by simpa using posted) fun m lower => by
        simpa using lowest m lower
      rw [execSlotRead, first]
      exact if_pos ⟨ready, empty, State.reportWaits_eq_false.mpr noReport⟩
  · have notReady : s.portReady ≠ true := by
      rw [Ne, State.portReady_iff]
      rintro ⟨enabled, goes, free⟩
      simp [enabled, goes, free] at blocked
    exact ⟨execResultWrite_of_not_ready notReady, execReportWrite_of_not fun all => notReady all.1,
      execSlotRead_of_not fun all => notReady all.1⟩
  · exact ⟨execReportWrite_of_not fun all => waits all.2.1, execSlotRead_of_not fun all => waits all.2.1⟩
  · refine execReportWrite_of_not fun ⟨_, _, waits⟩ => ?_
    rw [State.reportWaits_eq_false.mpr none] at waits
    cases waits
  · rintro (⟨report, credit⟩ | none)
    · refine execSlotRead_of_not fun ⟨_, _, idle⟩ => ?_
      rw [State.reportWaits_iff.mpr ⟨report, credit⟩] at idle
      cases idle
    · have first : s.lowestPosted = Option.none := head?_indices_eq_none fun n => by simpa using none n
      rw [execSlotRead, first]

end Sys2Proof.Machine
end

section
/-! A result and a report written whole: which byte of the board area reads what (R174, R175, R180, R197 to R202). -/

namespace Sys2Proof.Machine

/-! ## Bytes written from an address on -/

/-- Bytes from an address on. -/
def cellsFrom (a : Nat) : List Byte → List Host.Cell
  | [] => []
  | b :: bs => (a, b) :: cellsFrom (a + 1) bs

/-- The accesses of a write in words make its bytes one after the other. -/
theorem flatten_wordAccesses (a : Nat) (bs : List Byte) : (wordAccesses a bs).flatten = cellsFrom a bs := by
  induction bs generalizing a with
  | nil => rfl
  | cons b bs ih =>
    have rest := ih (a + 1)
    unfold wordAccesses
    split
    · rename_i none
      rw [none] at rest
      rw [cellsFrom, ← rest]
      rfl
    · rename_i w ws some
      rw [some] at rest
      rw [cellsFrom, ← rest]
      split <;> rfl

/-- Accesses one after the other write what their bytes in one access write. -/
theorem foldl_writeAll (as : List (List Host.Cell)) (m : Memory) :
    as.foldl Memory.writeAll m = Memory.writeAll m as.flatten := by
  induction as generalizing m with
  | nil => rfl
  | cons a as ih => exact (ih _).trans (List.foldl_append ..).symm

theorem Memory.writeAll_append (cs ds : List Host.Cell) (m : Memory) :
    Memory.writeAll m (cs ++ ds) = Memory.writeAll (Memory.writeAll m cs) ds := List.foldl_append ..

theorem Memory.read_cellsFrom (a x : Nat) (bs : List Byte) {m : Memory} (wf : Memory.wf m = true) :
    Memory.read x (Memory.writeAll m (cellsFrom a bs)) =
      if a ≤ x ∧ x < a + bs.length then bs[x - a]? else Memory.read x m := by
  induction bs generalizing a m with
  | nil =>
    rw [if_neg (by simp)]
    rfl
  | cons b bs ih =>
    have rest := ih (a + 1) (Memory.wf_write a b wf)
    rw [Memory.read_write a x b wf] at rest
    refine rest.trans ?_
    rw [List.length_cons]
    by_cases here : x = a
    · rw [if_neg (by omega), if_pos here, if_pos (by omega), here, Nat.sub_self]
      rfl
    · by_cases inside : a + 1 ≤ x ∧ x < a + 1 + bs.length
      · rw [if_pos inside, if_pos (by omega), show x - a = x - (a + 1) + 1 by omega, List.getElem?_cons_succ]
      · rw [if_neg inside, if_neg here, if_neg (by omega)]

theorem length_le (n v : Nat) : (le n v).length = n := by
  induction n generalizing v with
  | zero => rfl
  | succ n ih => rw [le, List.length_cons, ih]

theorem length_fit (n : Nat) (bs : List Byte) : (fit n bs).length = n := by
  simp only [fit, padTo, List.length_take, List.length_append, List.length_replicate]
  omega

theorem fit_of_le {n : Nat} {bs : List Byte} (short : bs.length ≤ n) :
    fit n bs = bs ++ List.replicate (n - bs.length) 0 := by
  refine List.take_of_length_le ?_
  simp only [padTo, List.length_append, List.length_replicate]
  omega

/-! ## A result written (R175, R180) -/

theorem length_resultArea (tag : BitVec 16) (out : Output) : (resultArea tag out).length = 64 := by
  simp [resultArea, length_le, length_fit]

section
variable {s : State} {n : SlotNo} {c : Context} {out : Output} (context : (s.slot n).context = some c)
  (output : c.output = some out)
include context output

theorem State.resultSeries_of_output : s.resultSeries n =
    wordAccesses (s.order.bba.toNat + c.bufOffset.toNat) out.buffer ++
      resultAccesses (s.order.bba.toNat + 0x80 * n.val) (resultArea c.tag out) := by
  obtain ⟨kind, tag, offset, buffer, work, long, o⟩ := c
  subst output
  rw [State.resultSeries, context]

/-- What the board area reads after a result write: the result area, the buffer, and all else as before. -/
theorem State.read_resultDone (x : Nat) (wf : Memory.wf s.board = true) :
    Memory.read x (s.resultDone n).board =
      if s.order.bba.toNat + 0x80 * n.val + 0x40 ≤ x ∧ x < s.order.bba.toNat + 0x80 * n.val + 0x80 then
        (resultArea c.tag out)[x - (s.order.bba.toNat + 0x80 * n.val + 0x40)]?
      else if s.order.bba.toNat + c.bufOffset.toNat ≤ x ∧
          x < s.order.bba.toNat + c.bufOffset.toNat + out.buffer.length then
        out.buffer[x - (s.order.bba.toNat + c.bufOffset.toNat)]?
      else Memory.read x s.board := by
  have length := length_resultArea c.tag out
  have board : (s.resultDone n).board = (s.resultSeries n).foldl Memory.writeAll s.board := rfl
  rw [board, foldl_writeAll, State.resultSeries_of_output context output, resultAccesses, List.flatten_append,
    List.flatten_append, flatten_wordAccesses, flatten_wordAccesses, flatten_wordAccesses, Memory.writeAll_append,
    Memory.writeAll_append]
  have buffer := Memory.wf_writeAll (cellsFrom (s.order.bba.toNat + c.bufOffset.toNat) out.buffer) wf
  rw [Memory.read_cellsFrom _ _ _ (Memory.wf_writeAll _ buffer), Memory.read_cellsFrom _ _ _ buffer,
    Memory.read_cellsFrom _ _ _ wf, List.length_take, List.length_drop, length]
  by_cases status : s.order.bba.toNat + 0x80 * n.val + 0x40 ≤ x ∧ x < s.order.bba.toNat + 0x80 * n.val + 0x44
  · rw [if_pos (by omega), if_pos (by omega), List.getElem?_take_of_lt (by omega)]
  · rw [if_neg (by omega)]
    by_cases area : s.order.bba.toNat + 0x80 * n.val + 0x44 ≤ x ∧ x < s.order.bba.toNat + 0x80 * n.val + 0x80
    · rw [if_pos (by omega), if_pos (by omega), List.getElem?_drop]
      congr 1
      omega
    · rw [if_neg (by omega), if_neg (c := _ ∧ x < s.order.bba.toNat + 0x80 * n.val + 0x80) (by omega)]

end

/-- An aligned word is written in one access. -/
theorem wordAccesses_word {a : Nat} (aligned : a % 4 = 0) (b₀ b₁ b₂ b₃ : Byte) :
    wordAccesses a [b₀, b₁, b₂, b₃] = [[b₀, b₁, b₂, b₃].zipIdx.map fun b => (a + b.2, b.1)] := by
  have first : (a + 1) % 4 ≠ 0 := by omega
  have second : (a + 1 + 1) % 4 ≠ 0 := by omega
  have third : (a + 1 + 1 + 1) % 4 ≠ 0 := by omega
  simp only [wordAccesses, if_neg first, if_neg second, if_neg third]
  rfl

theorem exec_resultWritten {s : State} {n : SlotNo} (series : s.order.series = some (.resultWrite n)) :
    exec .resultWritten s = .next (s.resultDone n) := by
  change execResultWritten s = _
  rw [execResultWritten, series]

theorem State.slot_resultDone (n m : SlotNo) (s : State) : (s.resultDone n).slot m =
    if n = m then { state := .done, context := none } else s.slot m := State.slot_setSlot ..

/-- Settles O13: the bytes read back by where they stand, the status word last. -/
theorem resultWritten : Obligations.ResultWritten := by
  intro n c out s series context output wf
  have read (x : Nat) := State.read_resultDone context output x wf
  have low : n.val < 32 := n.isLt
  refine ⟨s.resultDone n, exec_resultWritten series, by rw [State.slot_resultDone, if_pos rfl],
    fun m other => by rw [State.slot_resultDone, if_neg (Ne.symm other)], rfl, rfl, fun i inside => ?_,
    fun high i inside => ?_, fun a notArea notBuffer => by rw [read, if_neg notArea, if_neg notBuffer],
    fun aligned => ?_, rfl⟩
  · rw [read, if_pos (by omega), Nat.add_sub_cancel_left]
    rfl
  · rw [read, if_neg (by omega), if_pos (by omega), Nat.add_sub_cancel_left]
  · have word : (resultArea c.tag out).take 4 = le 2 out.status.code ++ le 2 c.tag.toNat := rfl
    rw [State.resultSeries_of_output context output, resultAccesses, word, ← List.append_assoc]
    exact ⟨_, congrArg _ (wordAccesses_word (by omega) ..)⟩

/-! ## A report written (R197 to R202) -/

theorem exec_reportWriteDone {s : State} (series : s.order.series = some .reportWrite) :
    exec .reportWriteDone s = .next s.reportDone := by
  change execReportWriteDone s = _
  rw [execReportWriteDone, series]

/-- The address of the entry that the next report takes (R197). -/
def State.entryAddress (s : State) : Nat :=
  s.order.bba.toNat + 0x1000 + 0x20 * (s.reports.written.toNat % 128)

theorem length_reportBytes (r : Report) (sequence : BitVec 16) : (r.bytes sequence).length = 32 := by
  have detail : r.detail.bytes.length = 16 := by cases r.detail <;> exact length_fit ..
  simp [Report.bytes, length_le, detail]

/-- What the board area reads after a report is written. -/
theorem State.read_reportDone {s : State} {r : Report} {rest : List Report} (hold : s.reports.hold = r :: rest) (x : Nat)
    (wf : Memory.wf s.board = true) : Memory.read x s.reportDone.board =
      if s.entryAddress ≤ x ∧ x < s.entryAddress + 32 then (r.bytes s.reports.written)[x - s.entryAddress]?
      else Memory.read x s.board := by
  have board : s.reportDone.board = s.reportSeries.foldl Memory.writeAll s.board := by
    unfold State.reportDone
    dsimp only
    split <;> rfl
  have series : s.reportSeries = wordAccesses s.entryAddress (r.bytes s.reports.written) := by
    rw [State.reportSeries, hold]
    rfl
  rw [board, series, foldl_writeAll, flatten_wordAccesses, Memory.read_cellsFrom _ _ _ wf, length_reportBytes]

/-- The state after the last word of an entry, the STALL not yet looked at (R200). -/
def State.entryWritten (s : State) : State :=
  ((s.writeAccesses s.reportSeries).modOrder fun o => { o with series := none, cauReport := true }).modReports
    fun r => { r with written := r.written + 1, hold := r.hold.tail }

theorem State.reportDone_of_stall {s : State} (stalled : s.reports.stalled = true) (empty : s.reports.hold.tail = []) :
    s.reportDone = s.entryWritten.leaveStall := if_pos ⟨stalled, empty⟩

theorem State.reportDone_of_not {s : State} (goesOn : s.reports.stalled = false ∨ s.reports.hold.tail ≠ []) :
    s.reportDone = s.entryWritten := by
  refine if_neg fun ⟨stalled, empty⟩ => goesOn.elim (fun flowing => ?_) (absurd empty)
  exact nomatch flowing.symm.trans stalled

theorem State.reports_reportDone {s : State} {r : Report} {rest : List Report} (hold : s.reports.hold = r :: rest) :
    s.reportDone.reports = { s.reports with
      written := s.reports.written + 1, hold := rest, stalled := s.reports.stalled && !rest.isEmpty } := by
  have tail : s.reports.hold.tail = rest := by rw [hold]; rfl
  cases stalled : s.reports.stalled with
  | false =>
    rw [State.reportDone_of_not (.inl stalled)]
    simp [State.entryWritten, State.writeAccesses, tail, stalled]
  | true =>
    cases rest with
    | nil =>
      rw [State.reportDone_of_stall stalled tail]
      simp [State.leaveStall, State.placeCribState, State.entryWritten, State.writeAccesses, tail]
    | cons q rest =>
      rw [State.reportDone_of_not (.inr (by simp [tail]))]
      simp [State.entryWritten, State.writeAccesses, tail, stalled]

/-- A written report changes the port, the Report Writer, the link and the board area. -/
theorem State.reportDone_eq (s : State) : s.reportDone.order = { s.order with series := none, cauReport := true } ∧
    s.reportDone = { s with
      order := s.reportDone.order, reports := s.reportDone.reports, link := s.reportDone.link
      board := s.reportDone.board } := by
  by_cases ends : s.reports.stalled = true ∧ s.reports.hold.tail = []
  · rw [State.reportDone_of_stall ends.1 ends.2]
    exact ⟨rfl, rfl⟩
  · rw [State.reportDone_of_not ((not_and_or.mp ends).imp_left Bool.eq_false_iff.mpr)]
    exact ⟨rfl, rfl⟩

/-- The end of the STALL restarts the broadcast and places a CRIB_STATE (R100, R202). -/
theorem State.link_leaveStall (s : State) : s.leaveStall.link.holdTimer = none ∧
    s.leaveStall.link.broadcastTimer = (if s.link.broadcastInterval = 0 then none else some s.link.broadcastInterval) ∧
    (s.link.attempt = none → s.leaveStall.link.buffer0 = some { service := s.order.service, hold := 0 }) := by
  refine ⟨rfl, rfl, fun idle => ?_⟩
  simp [State.leaveStall, State.placeCribState, idle]

/-! ## The fields of an entry (R197, R198, R201) -/

/-- The fields of an entry before its detail. -/
def Report.fields (r : Report) (sequence : BitVec 16) : List (List Byte) :=
  [le 1 r.kind.code, le 1 r.flagBits, le 1 r.cell, le 1 r.issue, le 4 r.stamp.toNat, le 2 r.tool, le 2 r.code,
    le 2 r.count, le 2 sequence.toNat]

theorem Report.bytes_eq (r : Report) (sequence : BitVec 16) {detail : List (List Byte)}
    (eq : r.detail.bytes = detail.flatten) : r.bytes sequence = (r.fields sequence ++ detail).flatten := by
  simp [Report.bytes, Report.fields, eq]

theorem Detail.bytes_plain {bytes : List Byte} (short : bytes.length ≤ 16) :
    (Detail.plain bytes).bytes = [bytes ++ List.replicate (16 - bytes.length) 0].flatten := by
  rw [List.flatten_singleton]
  exact fit_of_le short

theorem Detail.bytes_merged (kinds : BitVec 16) (last : Stamp) : (Detail.merged kinds last).bytes =
    [le 2 kinds.toNat, le 4 last.toNat, List.replicate 10 0].flatten := by
  refine (fit_of_le (by simp [length_le])).trans ?_
  simp [length_le]

/-- A part of a list put together from parts, found where the parts before it end. -/
theorem getElem?_flatten {parts : List (List Byte)} {k i : Nat} (inside : i < (parts.getD k []).length) :
    parts.flatten[(parts.take k).flatten.length + i]? = (parts.getD k [])[i]? := by
  induction parts generalizing k with
  | nil => simp at inside
  | cons part parts ih =>
    cases k with
    | zero =>
      rw [List.flatten_cons, List.take_zero, List.flatten_nil, List.length_nil, Nat.zero_add]
      exact List.getElem?_append_left inside
    | succ k =>
      rw [List.flatten_cons, List.take_succ_cons, List.flatten_cons, List.length_append, Nat.add_assoc,
        List.getElem?_append_right (by omega), Nat.add_sub_cancel_left]
      exact ih inside

/-- Settles O14: the fields of the entry are read back part by part. -/
theorem reportWritten : Obligations.ReportWritten := by
  intro r rest s series hold wf
  have read (x : Nat) := State.read_reportDone hold x wf
  have entry (i : Nat) (inside : i < 32) :
      Memory.read (s.entryAddress + i) s.reportDone.board = (r.bytes s.reports.written)[i]? := by
    rw [read, if_pos (by omega), Nat.add_sub_cancel_left]
  have tail : s.reports.hold.tail = rest := by rw [hold]; rfl
  refine ⟨s.reportDone, exec_reportWriteDone series, State.reports_reportDone hold, s.reportDone_eq.1, entry,
    fun holds isHeld => ?_, rfl, fun a outside => (read a).trans (if_neg outside), fun stalled empty => ?_, fun goesOn => ?_,
    s.reportDone_eq.2⟩
  · have part {detail : List (List Byte)} (eq : r.detail.bytes = detail.flatten) (k : Nat) {bytes : List Byte} {offset : Nat}
        (is : (r.fields s.reports.written ++ detail).getD k [] = bytes)
        (place : ((r.fields s.reports.written ++ detail).take k).flatten.length = offset) : holds offset bytes := by
      refine (isHeld offset bytes).mpr fun i inside => ?_
      subst is place
      have found := (congrArg (·[_]?) (r.bytes_eq s.reports.written eq)).trans (getElem?_flatten inside)
      have within : _ < (r.bytes s.reports.written).length :=
        (List.getElem?_eq_some_iff.mp (found.trans (List.getElem?_eq_getElem inside))).1
      rw [length_reportBytes] at within
      rw [Nat.add_assoc]
      exact (entry _ within).trans found
    have head := part (List.append_nil r.detail.bytes).symm (detail := [r.detail.bytes])
    refine ⟨head 0 rfl ?_, head 1 rfl ?_, head 2 rfl ?_, head 3 rfl ?_, head 4 rfl ?_, head 5 rfl ?_, head 6 rfl ?_,
      head 7 rfl ?_, head 8 rfl ?_, fun bytes detail short => part (detail ▸ Detail.bytes_plain short) 9 rfl ?_,
      fun kinds last detail => ?_⟩
    rotate_right
    · have merged := part (detail ▸ Detail.bytes_merged kinds last)
      refine ⟨merged 9 rfl ?_, merged 10 rfl ?_, merged 11 rfl ?_⟩ <;> simp [Report.fields, length_le]
    all_goals simp [Report.fields, length_le]
  · rw [State.reportDone_of_stall stalled (tail.trans empty)]
    exact s.entryWritten.link_leaveStall
  · rw [State.reportDone_of_not (tail ▸ goesOn)]
    rfl

end Sys2Proof.Machine
end

section
/-! The checks at taking (R179), and the orders SET_CELL, SET_RIGHT and RESTORE_CELL (R111, R119, R123). -/

namespace Sys2Proof.Machine

/-! ## The work of every order -/

/-- The work of an order of a kind. -/
def orderWork : OrderKind → SlotImage → SlotNo → State → State
  | .setCell, img => doSetCell img
  | .setRight, img => doSetRight img
  | .setDrawer, img => doSetDrawer img
  | .setLimits, img => doSetLimits img
  | .lockLayout, _ => doLockLayout
  | .startService, _ => doStartService
  | .stopService, _ => doStopService
  | .enrol, img => doEnrol img
  | .remove, img => doRemove img
  | .readTool, img => doReadTool img
  | .find, img => doFind img
  | .setLife, img => doSetLife img
  | .regrind, img => doRegrind img
  | .home, img => doHome img
  | .calibrate, _ => doCalibrate
  | .measure, img => doMeasure img
  | .stow, img => doStow img
  | .issue, img => doIssue img
  | .returnTool, img => doReturnTool img
  | .cancel, img => doCancel img
  | .scan, img => doScan img
  | .clearFault, img => doClearFault img
  | .restoreCell, img => doRestoreCell img

theorem exec_orderCommand (k : OrderKind) (img : SlotImage) (s : State) :
    exec (orderCommand k img) s = .next (s.takeOrder k img (orderWork k img)) := by
  cases k <;> rfl

section
variable {s u : State} {k : OrderKind} {img : SlotImage} {n : SlotNo} {st : Status}

/-- An order finished in the step that took it, `u` being the state that its work leaves beside the slot. -/
theorem exec_completes {result buffer : List Byte} (ok : s.accepts k img n) (alone : u.order.formedNow = [])
    (done : orderWork k img n (s.taken n k.code img) = (u.taken n k.code img).completeWith n st result buffer) :
    exec (orderCommand k img) s = .next (u.answered n k.code img st result buffer) := by
  have context : ((u.taken n k.code img).slot n).context = some (newContext k.code img) := by rw [State.slot_taken]
  rw [exec_orderCommand, State.takeOrder_accepted _ ok, done, State.settle_completeWith st result buffer context rfl alone,
    State.ended_taken]

/-- An order that its work refuses in the step that took it. -/
theorem exec_refuses (ok : s.accepts k img n)
    (refused : orderWork k img n (s.taken n k.code img) = (s.taken n k.code img).refuse n st) :
    exec (orderCommand k img) s = .next (s.answered n k.code img st [] []) := exec_completes ok ok.1.2 refused

/-- An order that starts its work in the step that took it. -/
theorem exec_starts {work : Work} (ok : s.accepts k img n) (alone : u.order.formedNow = [])
    (started : orderWork k img n (s.taken n k.code img) = (u.taken n k.code img).setWork n work) :
    exec (orderCommand k img) s = .next (u.started n k.code img work) := by
  rw [exec_orderCommand, State.takeOrder_accepted _ ok, started, State.setWork_taken]
  exact congrArg _ (State.settle_of_none alone)

/-- An order that a check of R179 refuses. -/
theorem exec_checked (reading : s.reading n) (check : takingCheck k img s.order.service = some st) :
    exec (orderCommand k img) s = .next (s.answered n k.code img st [] []) := by
  have context : ((s.taken n k.code img).slot n).context = some (newContext k.code img) := by rw [State.slot_taken]
  rw [exec_orderCommand, State.takeOrder_refused _ reading check, State.refuse, State.complete,
    State.settle_completeWith st [] [] context rfl reading.2, State.ended_taken]

theorem exec_badKind (kind : Byte) (img : SlotImage) (s : State) : exec (.badKind kind img) s = execBadKind kind img s := rfl

theorem exec_badKind_of_reading (kind : Byte) (reading : s.reading n) :
    exec (.badKind kind img) s = .next (s.answered n kind.toNat img .badKind [] []) := by
  have context : ((s.taken n kind.toNat img).slot n).context = some (newContext kind.toNat img) := by rw [State.slot_taken]
  rw [exec_badKind, execBadKind, reading.1]
  exact congrArg _ ((State.settle_completeWith .badKind [] [] context rfl reading.2).trans (State.ended_taken ..))

end

/-! ## The checks at taking (R179) -/

theorem bufferAccepted_eq_false {k : OrderKind} {img : SlotImage}
    (bad : img.bufOffset.toNat < 0x2000 ∨ 0x10000 < img.bufOffset.toNat + img.bufLength.toNat ∨
      ((k = .measure ∨ k = .calibrate) ∧ img.bufLength.toNat < 256)) : bufferAccepted k img = false := by
  unfold bufferAccepted
  rcases bad with low | high | ⟨rfl | rfl, short⟩
  · rw [decide_eq_false (Nat.not_le.mpr low)]; rfl
  · rw [decide_eq_false (Nat.not_le.mpr high), Bool.and_false]; rfl
  · dsimp only
    rw [decide_eq_false (Nat.not_le.mpr short), Bool.and_false]
  · dsimp only
    rw [decide_eq_false (Nat.not_le.mpr short), Bool.and_false]

/-- Settles O16: a refusal is the first check of R179 that fails. -/
theorem checksAtTaking : Obligations.ChecksAtTaking := by
  intro k kind img n s
  refine ⟨fun reading => ⟨exec_badKind_of_reading kind reading, fun flags => ?_, fun flags service kinds => ?_,
    fun flags setup kinds => ?_, fun flags kinds bad => ?_⟩, fun none => ⟨?_, ?_⟩⟩
  · exact exec_checked reading (if_pos flags)
  · refine exec_checked reading ?_
    rcases kinds with rfl | rfl | rfl | rfl <;> simp [takingCheck, flags, service, OrderKind.takenIn]
  · refine exec_checked reading ?_
    rcases kinds with rfl | rfl | rfl | rfl | rfl | rfl | rfl <;> simp [takingCheck, flags, setup, OrderKind.takenIn]
  · have names : k.takenIn s.order.service = true ∧ k.usesBuffer = true := by
      rcases kinds with rfl | rfl | rfl | ⟨rfl, service⟩ <;> simp [OrderKind.takenIn, OrderKind.usesBuffer, *]
    refine exec_checked reading ?_
    simp [takingCheck, flags, names, bufferAccepted_eq_false bad]
  · rw [exec_orderCommand, State.takeOrder]
    split
    · exact absurd ‹_› (none _)
    · rfl
  · rw [exec_badKind, execBadKind]
    split
    · exact absurd ‹_› (none _)
    · rfl

/-! ## Fields of the parameters -/

theorem asFin_val {n : Nat} (i : Fin n) : asFin n i.val = some i := dif_pos i.isLt

theorem asFin_eq_none {n v : Nat} (high : n ≤ v) : asFin n v = none := dif_neg (Nat.not_lt.mpr high)

theorem asCell_addr (c : CellNo) : asCell (c.val + 1) = some c := by
  rw [asCell, if_neg (Nat.succ_ne_zero _), Nat.add_sub_cancel, asFin_val]

theorem asCell_eq_none {a : Nat} (outside : a = 0 ∨ 24 < a) : asCell a = none := by
  unfold asCell
  split
  · rfl
  · exact asFin_eq_none (by omega)

theorem goodSlot_iff {m : Nat} : goodSlot m = true ↔ 1 ≤ m ∧ m ≤ 240 := by
  simp [goodSlot]

theorem par1_le (img : SlotImage) (i : Nat) : par1 img i ≤ 255 := Nat.le_of_lt_succ (img.params.getD i 0).isLt

/-! ## SET_CELL (R111) -/

theorem doSetCell_of_good {img : SlotImage} {n : SlotNo} {s : State} {c : CellNo} (cell : par1 img 0 = c.val + 1)
    (enabled : par1 img 1 ≤ 1) (size : goodSlot (par1 img 2) = true) (limit : par1 img 3 ≤ 8) :
    doSetCell img n s = (s.modCell c fun x =>
      { x with
        enabled := parFlag img 1, magSize := par1 img 2
        issueLimit := if par1 img 3 = 0 then 4 else par1 img 3 }).complete n .ok
      ((s.cell c).config ++ (flag (parFlag img 1) ++ le 1 (par1 img 2) ++
        le 1 (if par1 img 3 = 0 then 4 else par1 img 3))) := by
  unfold doSetCell
  rw [cell, asCell_addr]
  dsimp only
  rw [if_pos ⟨enabled, size, limit⟩, State.cell_modCell, if_pos rfl]
  rfl

theorem doSetCell_of_bad {img : SlotImage} {n : SlotNo} {s : State}
    (bad : par1 img 0 = 0 ∨ 24 < par1 img 0 ∨ 1 < par1 img 1 ∨ par1 img 2 = 0 ∨ 240 < par1 img 2 ∨ 8 < par1 img 3) :
    doSetCell img n s = s.refuse n .badParam := by
  unfold doSetCell
  dsimp only
  split
  · rename_i c cell
    refine if_neg fun ⟨enabled, size, limit⟩ => ?_
    have range := goodSlot_iff.mp size
    have named : ¬ (par1 img 0 = 0 ∨ 24 < par1 img 0) := fun outside => by
      rw [asCell_eq_none outside] at cell
      cases cell
    omega
  · rfl

theorem flag_parFlag {img : SlotImage} {i : Nat} (low : par1 img i ≤ 1) : flag (parFlag img i) = le 1 (par1 img i) := by
  unfold parFlag
  generalize par1 img i = v at low
  interval_cases v <;> rfl

theorem parFlag_eq {img : SlotImage} {i : Nat} (low : par1 img i ≤ 1) : parFlag img i = (par1 img i == 1) := by
  unfold parFlag
  generalize par1 img i = v at low
  interval_cases v <;> rfl

/-- Settles O17. -/
theorem setCell : Obligations.SetCell := by
  intro img n s ok
  refine ⟨fun c cell enabled low high limit => ?_, fun bad => exec_refuses ok (doSetCell_of_bad bad)⟩
  have work := doSetCell_of_good (n := n) (s := s.taken n 0x01 img) cell enabled (goodSlot_iff.mpr ⟨low, high⟩) limit
  rw [flag_parFlag enabled, parFlag_eq enabled] at work
  exact exec_completes (k := .setCell) ok ok.1.2 work

/-! ## SET_RIGHT (R123) -/

theorem doSetRight_of_good {img : SlotImage} {n : SlotNo} {s : State} {i : Fin 16} (entry : par1 img 0 = i.val)
    (cells : par4 img 2 < 0x1000000) (perms : par1 img 8 < 8) : doSetRight img n s =
      if s.crib.layoutLock then s.refuse n .layoutLocked
      else (s.modLink fun l => { l with rights := l.rights.set i.1 (rightOf img) i.2 }).complete n .ok
        (s.link.rights.get i).bytes := by
  unfold doSetRight
  rw [entry, asFin_val]
  exact if_pos ⟨cells, perms⟩

theorem doSetRight_of_bad {img : SlotImage} {n : SlotNo} {s : State}
    (bad : 15 < par1 img 0 ∨ 0x1000000 ≤ par4 img 2 ∨ 8 ≤ par1 img 8) : doSetRight img n s = s.refuse n .badParam := by
  unfold doSetRight
  split
  · rename_i i entry
    have named : ¬ 15 < par1 img 0 := fun outside => by
      rw [asFin_eq_none outside] at entry
      cases entry
    exact if_neg (by omega)
  · rfl

/-- Settles O18. -/
theorem setRight : Obligations.SetRight := by
  intro img n s ok
  refine ⟨fun i entry cells perms => ⟨fun unlocked => ?_, fun locked => ?_⟩,
    fun bad => exec_refuses ok (doSetRight_of_bad bad)⟩
  all_goals have work := doSetRight_of_good (n := n) (s := s.taken n 0x02 img) entry cells perms
  · exact exec_completes (k := .setRight) ok ok.1.2 (work.trans (if_neg (by simpa using unlocked)))
  · exact exec_refuses ok (work.trans (if_pos locked))

/-! ## RESTORE_CELL (R119) -/

/-- The slot taken and a report handed over, in either order. -/
theorem State.handReport_taken (n : SlotNo) (kind : Nat) (img : SlotImage) (r : Report) (s : State) :
    (s.taken n kind img).handReport r = (s.handReport r).taken n kind img := by
  unfold State.handReport
  dsimp only
  rw [apply_ite (State.taken n kind img), apply_ite (State.taken n kind img)]
  rfl

theorem State.makeGood_of_not_good {s : State} {c : CellNo} (cause : StandingCause) (bad : (s.cell c).standing ≠ .good) :
    s.makeGood c cause =
      (s.modCell c fun x => { x with standing := .good, faultCount := 0, answers := 0 }).handReport
        { Report.blank .cellStanding with
          cell := c.val + 1, code := cause.code
          detail := .plain (le 1 (s.cell c).standing.code ++ le 1 0 ++ le 2 0 ++ le 1 0) } := by
  have cell := (State.cell_modCell c c (fun x => { x with standing := .good, faultCount := 0, answers := 0 }) s).trans
    (if_pos rfl)
  rw [State.makeGood, if_neg bad, State.standingReport, cell]
  rfl

theorem State.makeGood_taken (n : SlotNo) (kind : Nat) (img : SlotImage) (c : CellNo) (cause : StandingCause) (s : State) :
    (s.taken n kind img).makeGood c cause = (s.makeGood c cause).taken n kind img := by
  unfold State.makeGood
  dsimp only
  rw [apply_ite (State.taken n kind img), ← State.handReport_taken]
  rfl

theorem doRestoreCell_of_cell {img : SlotImage} {n : SlotNo} {s : State} {c : CellNo} (cell : par1 img 0 = c.val + 1) :
    doRestoreCell img n s =
      if (s.cell c).standing = .good then s.refuse n .wrongState
      else (s.makeGood c .restore).complete n .ok (le 1 (s.cell c).standing.code ++ le 2 (s.cell c).faultCount) := by
  rw [doRestoreCell, cell, asCell_addr]

theorem doRestoreCell_of_bad {img : SlotImage} {n : SlotNo} {s : State} (bad : par1 img 0 = 0 ∨ 24 < par1 img 0) :
    doRestoreCell img n s = s.refuse n .badParam := by
  rw [doRestoreCell, asCell_eq_none bad]

/-- Settles O22. -/
theorem restoreCell : Obligations.RestoreCell := by
  intro img n s ok
  refine ⟨fun c cell => ⟨fun bad => ?_, fun good => ?_⟩, fun bad => exec_refuses ok (doRestoreCell_of_bad bad)⟩
  all_goals have work := doRestoreCell_of_cell (n := n) (s := s.taken n 0x17 img) cell
  · have restored := work.trans (if_neg bad)
    rw [State.makeGood_taken] at restored
    have alone : (s.makeGood c .restore).order.formedNow = [] := by
      rw [State.makeGood_of_not_good _ bad, State.formedNow_handReport]
      exact ok.1.2
    have done := exec_completes (k := .restoreCell) ok alone restored
    rw [State.makeGood_of_not_good _ bad] at done
    exact done
  · exact exec_refuses ok (work.trans (if_pos good))

end Sys2Proof.Machine
end

section
/-! SET_LIMITS (R188): the limits by their presence bits, their ranges, and the state that stores them. -/

namespace Sys2Proof.Machine

/-! ## The slot taken, beside the work of the Crib Controller -/

section
variable (n : SlotNo) (kind : Nat) (img : SlotImage) (s : State)

theorem State.startOne_taken : (s.taken n kind img).startOne = s.startOne.taken n kind img := by
  have next : (s.taken n kind img).nextToStart = s.nextToStart := rfl
  unfold State.startOne
  rw [apply_ite (State.taken n kind img), next]
  cases s.nextToStart <;> rfl

theorem State.startQueued_taken : (s.taken n kind img).startQueued = s.startQueued.taken n kind img := by
  have rounds (m : Nat) (t : State) :
      repeatStep State.startOne m (t.taken n kind img) = (repeatStep State.startOne m t).taken n kind img := by
    induction m generalizing t with
    | zero => rfl
    | succ m ih => rw [repeatStep, repeatStep, State.startOne_taken, ih]
  exact rounds s.queuedCount s

theorem State.restartBroadcast_taken (given : Bool) :
    (s.taken n kind img).restartBroadcast given = (s.restartBroadcast given).taken n kind img := by
  unfold State.restartBroadcast
  rw [apply_ite (State.taken n kind img)]
  rfl

end

theorem State.order_startQueued (s : State) : s.startQueued.order = s.order := by simp

/-! ## SET_LIMITS (R188) -/

theorem doSetLimits_of_invalid {img : SlotImage} {n : SlotNo} {s : State} {l : Limits} (limits : limitsOf img s.limits = l)
    (invalid : l.valid (par4 img 0) = false) : doSetLimits img n s = s.refuse n .badParam := by
  subst limits
  exact if_pos invalid

theorem doSetLimits_of_locked {img : SlotImage} {n : SlotNo} {s : State} {l : Limits} (limits : limitsOf img s.limits = l)
    (valid : l.valid (par4 img 0) = true) (budget : (par4 img 0).testBit 0 = true) (locked : s.crib.layoutLock = true) :
    doSetLimits img n s = s.refuse n .layoutLocked := by
  subst limits
  exact (if_neg (by simp [valid])).trans (if_pos ⟨budget, locked⟩)

theorem doSetLimits_of_stored {img : SlotImage} {n : SlotNo} {s : State} {l : Limits} (limits : limitsOf img s.limits = l)
    (valid : l.valid (par4 img 0) = true)
    (free : ¬ ((par4 img 0).testBit 0 = true ∧ s.crib.layoutLock = true)) :
    doSetLimits img n s =
      (if s.crib.lockBudget < l.lockBudget then
        ((s.storeLimits l).restartBroadcast ((par4 img 0).testBit 15)).startQueued
      else (s.storeLimits l).restartBroadcast ((par4 img 0).testBit 15)).complete n .ok l.bytes := by
  subst limits
  exact (if_neg (by simp [valid])).trans (if_neg free)

/-- The state that stores the limits, with the broadcast timer restarted where its interval is given (R188, log 39). -/
theorem State.restartBroadcast_storeLimits (l : Limits) (given : Bool) (s : State) :
    (s.storeLimits l).restartBroadcast given =
      { s with
        crib :=
          { s.crib with lockBudget := l.lockBudget, pickupWindow := l.pickupWindow, insertWindow := l.insertWindow }
        presetter :=
          { s.presetter with
            spreadLimit := l.spreadLimit, touches := l.touches, seatWindow := l.seatWindow
            touchWindow := l.touchWindow, homeWindow := l.homeWindow
            z := { s.presetter.z with softLimit := l.zSoft }, x := { s.presetter.x with softLimit := l.xSoft }
            masterLength := l.masterLength, masterRadius := l.masterRadius }
        link :=
          { s.link with
            answerWindow := l.answerWindow, retryLimit := l.retryLimit, deferralDelay := l.deferralDelay
            broadcastInterval := l.broadcastInterval, pollInterval := l.pollInterval, holdTime := l.holdTime
            broadcastTimer := if given = true ∧ s.reports.stalled = false then
                (if l.broadcastInterval = 0 then none else some l.broadcastInterval)
              else s.link.broadcastTimer }
        issues := { s.issues with transitWindow := l.transitWindow } } := by
  by_cases restarts : given = true ∧ s.reports.stalled = false
  · rw [if_pos restarts]
    exact if_pos restarts
  · rw [if_neg restarts]
    exact if_neg restarts

theorem Limits.valid_iff (l : Limits) (mask : Nat) : l.valid mask = true ↔
    (mask.testBit 0 → 1 ≤ l.lockBudget ∧ l.lockBudget ≤ 8) ∧
    (mask.testBit 1 → 5 ≤ l.pickupWindow ∧ l.pickupWindow ≤ 255) ∧
    (mask.testBit 2 → 5 ≤ l.insertWindow ∧ l.insertWindow ≤ 255) ∧ (mask.testBit 3 → l.spreadLimit ≤ 255) ∧
    (mask.testBit 4 → 1 ≤ l.touches ∧ l.touches ≤ 8) ∧ (mask.testBit 5 → 10 ≤ l.seatWindow ∧ l.seatWindow ≤ 600) ∧
    (mask.testBit 6 → 5 ≤ l.touchWindow ∧ l.touchWindow ≤ 600) ∧
    (mask.testBit 7 → 10 ≤ l.homeWindow ∧ l.homeWindow ≤ 600) ∧
    (mask.testBit 8 → l.zSoft ≤ 1048575) ∧ (mask.testBit 9 → l.xSoft ≤ 1048575) ∧
    (mask.testBit 10 → l.masterLength ≤ 999999) ∧ (mask.testBit 11 → l.masterRadius ≤ 999999) ∧
    (mask.testBit 12 → 20 ≤ l.answerWindow ∧ l.answerWindow ≤ 1000) ∧ (mask.testBit 13 → l.retryLimit ≤ 15) ∧
    (mask.testBit 14 → 100 ≤ l.deferralDelay ∧ l.deferralDelay ≤ 10000) ∧
    (mask.testBit 15 → l.broadcastInterval = 0 ∨ (200 ≤ l.broadcastInterval ∧ l.broadcastInterval ≤ 10000)) ∧
    (mask.testBit 16 → l.pollInterval = 0 ∨ (100 ≤ l.pollInterval ∧ l.pollInterval ≤ 10000)) ∧
    (mask.testBit 17 → 100 ≤ l.holdTime ∧ l.holdTime ≤ 10000) ∧
    (mask.testBit 18 → 1 ≤ l.transitWindow ∧ l.transitWindow ≤ 60) := by
  simp only [Limits.valid, inRange, Bool.and_eq_true, Bool.or_eq_true, Bool.not_eq_true', decide_eq_true_eq, beq_iff_eq,
    and_assoc, Nat.zero_le, true_and, ← Bool.not_eq_true, ← imp_iff_not_or]

/-- Settles O20. -/
theorem setLimits : Obligations.SetLimits := by
  intro img n s ok present pick l isPresent picks limits good bytes u isGood isBytes isU
  have isLimits : limitsOf img s.limits = l := by
    rw [limits]
    simp only [picks, isPresent]
    rfl
  have goodIff : good ↔ l.valid (par4 img 0) = true := by
    rw [isGood, Limits.valid_iff]
    simp only [isPresent]
  have stored : (s.storeLimits l).restartBroadcast ((par4 img 0).testBit 15) = u := by
    rw [isU, State.restartBroadcast_storeLimits, isPresent]
  have storedTaken : ((s.taken n 0x04 img).storeLimits l).restartBroadcast ((par4 img 0).testBit 15) = u.taken n 0x04 img := by
    rw [← stored, ← State.restartBroadcast_taken]
    rfl
  have alone : u.order.formedNow = [] := by
    rw [← stored, State.restartBroadcast_storeLimits]
    exact ok.1.2
  rw [goodIff, isPresent]
  refine ⟨fun bad => ?_, fun valid budget locked => ?_, fun valid free => ?_⟩
  · exact exec_refuses ok (doSetLimits_of_invalid (n := n) (s := s.taken n 0x04 img) isLimits (by simpa using bad))
  · exact exec_refuses ok (doSetLimits_of_locked (n := n) (s := s.taken n 0x04 img) isLimits valid budget locked)
  · have free' : ¬ ((par4 img 0).testBit 0 = true ∧ s.crib.layoutLock = true) := by
      rintro ⟨budget, locked⟩
      simp [budget, locked] at free
    have work := doSetLimits_of_stored (n := n) (s := s.taken n 0x04 img) isLimits valid free'
    rw [storedTaken, State.startQueued_taken, ← apply_ite (State.taken n 0x04 img)] at work
    rw [isBytes]
    refine exec_completes (k := .setLimits) ok ?_ work
    split
    · rw [State.order_startQueued]
      exact alone
    · exact alone

end Sys2Proof.Machine
end

section
/-! What a grant of buffers changes (R96), LOCK_LAYOUT, START_SERVICE and STOP_SERVICE (R30, R47, R102, R186, R187, R189). -/

namespace Sys2Proof.Machine

/-! ## What a grant of buffers changes (R96) -/

/-- What every grant keeps, the grant rule keeps. -/
theorem State.grantBuffers_keeps {P : State → Prop} {s : State}
    (grant : ∀ (t : State) (c : CellNo) (b : Nat), t.clock = s.clock → P t →
      P (t.modCell c fun x => { x with queue := modHead (Exchange.granted b) x.queue, lastGrant := t.clock }))
    (poll : ∀ (t : State) (c : CellNo), P t →
      P (t.modCell c fun x => { x with queue := modHead (Exchange.granted 1) x.queue })) (holds : P s) :
    P s.grantBuffers := by
  have one {t : State} (holds : t.clock = s.clock ∧ P t) : t.grantOne.clock = s.clock ∧ P t.grantOne := by
    obtain ⟨clock, holds⟩ := holds
    unfold State.grantOne
    split
    · exact ⟨clock, grant t _ _ clock holds⟩
    · exact ⟨clock, holds⟩
  unfold State.grantBuffers
  split
  · exact holds
  · obtain ⟨-, six⟩ := one (one (one (one (one (one ⟨rfl, holds⟩)))))
    generalize s.grantOne.grantOne.grantOne.grantOne.grantOne.grantOne = t at six ⊢
    unfold State.grantPoll
    split
    · exact six
    · split
      · exact poll t _ six
      · exact six

theorem State.grantBuffers_eq (s : State) : s.grantBuffers = { s with link := s.grantBuffers.link } := by
  have only := s.grantBuffers_keeps (P := fun t => t = { s with link := t.link }) (fun t c b _ same => by rw [same]; rfl)
    (fun t c same => by rw [same]; rfl) rfl
  exact only

/-- The grant rule looks at the link and the clock alone. -/
theorem State.grantBuffers_congr {s t : State} (link : s.link = t.link) (clock : s.clock = t.clock) :
    s.grantBuffers.link = t.grantBuffers.link := by
  have one {u v : State} (same : u.link = v.link ∧ u.clock = v.clock) :
      u.grantOne.link = v.grantOne.link ∧ u.grantOne.clock = v.grantOne.clock := by
    obtain ⟨link, clock⟩ := same
    have cell : u.cell = v.cell := by funext c; rw [State.cell, link]; rfl
    have buffer : u.emptyBuffer = v.emptyBuffer := by
      simp only [State.emptyBuffer, State.bufferBusy, State.onLine, link]
    have next : u.nextGrant = v.nextGrant := by
      simp only [State.nextGrant, State.candidates, cell, clock]
    unfold State.grantOne
    rw [buffer, next]
    split
    · simp only [State.modCell, State.modLink_link, link, clock]
      exact ⟨trivial, clock⟩
    · exact ⟨link, clock⟩
  have poll {u v : State} (same : u.link = v.link ∧ u.clock = v.clock) : u.grantPoll.link = v.grantPoll.link := by
    obtain ⟨link, clock⟩ := same
    have cell : u.cell = v.cell := by funext c; rw [State.cell, link]; rfl
    have busy : u.bufferBusy 1 = v.bufferBusy 1 := by simp only [State.bufferBusy, State.onLine, link]
    have next : u.nextPoll = v.nextPoll := by simp only [State.nextPoll, State.candidates, cell, clock]
    unfold State.grantPoll
    rw [busy, next]
    split
    · exact link
    · split
      · simp only [State.modCell, State.modLink_link, link]
      · exact link
  unfold State.grantBuffers
  rw [link]
  split
  · exact link
  · exact poll (one (one (one (one (one (one ⟨link, clock⟩))))))

theorem State.grantBuffers_taken (n : SlotNo) (kind : Nat) (img : SlotImage) (s : State) :
    (s.taken n kind img).grantBuffers = s.grantBuffers.taken n kind img := by
  have same : (s.taken n kind img).grantBuffers.link = s.grantBuffers.link := State.grantBuffers_congr rfl rfl
  rw [State.grantBuffers_eq, same, s.grantBuffers_eq]
  rfl

theorem map_modHead {α : Type} {f : Exchange → Exchange} {g : Exchange → α} (same : ∀ e, g (f e) = g e) (l : List Exchange) :
    (modHead f l).map g = l.map g := by
  induction l with
  | nil => rfl
  | cons e l ih =>
    unfold modHead
    split
    · rw [List.map_cons, List.map_cons, same]
    · rw [List.map_cons, List.map_cons, ih]

/-- What a granted exchange keeps, the queues keep: its payload, owner and stamp. -/
theorem State.queue_grantBuffers {α : Type} {g : Exchange → α} (same : ∀ b e, g (Exchange.granted b e) = g e) (s : State)
    (c : CellNo) : (s.grantBuffers.cell c).queue.map g = (s.cell c).queue.map g := by
  refine s.grantBuffers_keeps (P := fun t => (t.cell c).queue.map g = (s.cell c).queue.map g) (fun t d b _ kept => ?_)
    (fun t d kept => ?_) rfl
  all_goals
    rw [State.cell_modCell]
    split
    · rename_i here
      subst here
      exact (map_modHead (same _) _).trans kept
    · exact kept

/-! ## LOCK_LAYOUT and START_SERVICE (R30, R47, R186, R189) -/

theorem Pocket.away_eq_false {k : Pocket} : k.away = false ↔ k.lock = .locked := by simp [Pocket.away]

theorem State.head?_pocketsWhere {s : State} {test : PocketNo → Pocket → Bool} {p : PocketNo}
    (holds : test p (s.pocket p) = true) (below : ∀ q < p, test q (s.pocket q) = false) :
    (s.pocketsWhere test).head? = some p := by
  unfold State.pocketsWhere
  exact head?_indices_eq_some holds below

theorem State.head?_pocketsWhere_eq_none {s : State} {test : PocketNo → Pocket → Bool}
    (none : ∀ q, test q (s.pocket q) = false) : (s.pocketsWhere test).head? = Option.none := by
  unfold State.pocketsWhere
  exact head?_indices_eq_none none

theorem State.startServiceCheck_of_mismatch {s : State} {p : PocketNo} (mismatch : (s.pocket p).mismatch = true)
    (lowest : ∀ q < p, (s.pocket q).mismatch = false) : s.startServiceCheck = some (.mapMismatch, p) := by
  have first : (s.pocketsWhere fun _ k => k.mismatch).head? = some p :=
    State.head?_pocketsWhere mismatch lowest
  unfold State.startServiceCheck
  rw [first]

theorem State.startServiceCheck_of_fault {s : State} {p : PocketNo} (agree : ∀ q, (s.pocket q).mismatch = false)
    (bad : (s.pocket p).lock ≠ .locked ∨ (s.pocket p).fault ≠ .clear)
    (lowest : ∀ q < p, (s.pocket q).lock = .locked ∧ (s.pocket q).fault = .clear) :
    s.startServiceCheck = some (.faultPresent, p) := by
  have none : (s.pocketsWhere fun _ k => k.mismatch).head? = Option.none :=
    State.head?_pocketsWhere_eq_none agree
  have first : (s.pocketsWhere fun _ k => k.away || k.fault != .clear).head? = some p :=
    State.head?_pocketsWhere (by simpa [Pocket.away] using bad) fun q lower => by
      obtain ⟨locked, clear⟩ := lowest q lower
      simp [Pocket.away, locked, clear]
  unfold State.startServiceCheck
  rw [none, first]
  rfl

theorem State.startServiceCheck_of_good {s : State} (agree : ∀ q, (s.pocket q).mismatch = false)
    (good : ∀ q, (s.pocket q).lock = .locked ∧ (s.pocket q).fault = .clear) : s.startServiceCheck = none := by
  have none : (s.pocketsWhere fun _ k => k.mismatch).head? = Option.none :=
    State.head?_pocketsWhere_eq_none agree
  have clear : (s.pocketsWhere fun _ k => k.away || k.fault != .clear).head? = Option.none :=
    State.head?_pocketsWhere_eq_none fun q => by simp [Pocket.away, good q]
  unfold State.startServiceCheck
  rw [none, clear]
  rfl

theorem doStartService_of_refused {s : State} {n : SlotNo} {st : Status} {p : PocketNo}
    (check : s.startServiceCheck = some (st, p)) : doStartService n s = s.complete n st (le 2 p.val) := by
  unfold doStartService
  rw [check]

theorem doStartService_of_passed {s : State} {n : SlotNo} (check : s.startServiceCheck = none) :
    doStartService n s = s.enterService.complete n .ok [] := by
  unfold doStartService
  rw [check]

/-- SERVICE entered, by the CRIB_STATE that stands in buffer 0 or behind the one of buffer 0 on the line (R89, R100, R186). -/
theorem State.enterService_eq {s : State} {cs : CribState} {placed : Link}
    (isState : cs = { service := .service, hold := if s.reports.stalled then s.link.holdTime else 0 })
    (free : (∀ a, s.link.attempt = some a → a.buffer ≠ 0) → placed = { s.link with buffer0 := some cs })
    (busy : ∀ a, s.link.attempt = some a → a.buffer = 0 → placed = { s.link with next0 := some cs }) :
    s.enterService = { s with
      order := { s.order with service := .service }
      link := { placed with
        broadcastTimer := if s.reports.stalled ∨ s.link.broadcastInterval = 0 then none
          else some s.link.broadcastInterval
        holdTimer := if s.reports.stalled = true ∧ s.link.holdTime ≠ 0 then some s.link.holdTime else none
        pollTimer := if s.link.pollInterval = 0 then none else some s.link.pollInterval } } := by
  have broadcast : (if s.reports.stalled then none else startTimer s.link.broadcastInterval) =
      if s.reports.stalled ∨ s.link.broadcastInterval = 0 then none else some s.link.broadcastInterval := by
    unfold startTimer
    cases s.reports.stalled <;> simp
  have hold : (if s.reports.stalled then startTimer s.link.holdTime else none) =
      if s.reports.stalled = true ∧ s.link.holdTime ≠ 0 then some s.link.holdTime else none := by
    unfold startTimer
    cases s.reports.stalled <;> simp
  subst isState
  rw [← broadcast, ← hold]
  by_cases onLine : s.link.attempt.any (fun a => a.buffer == 0) = true
  · obtain ⟨a, attempt, zero⟩ := (Option.any_eq_true ..).mp onLine
    rw [busy a attempt (by simpa using zero)]
    unfold State.enterService State.placeCribState
    dsimp only [State.modOrder_link, State.modOrder_reports, State.modOrder_order]
    rw [onLine]
    rfl
  · have other (a : Attempt) (attempt : s.link.attempt = some a) : a.buffer ≠ 0 := fun zero =>
      onLine (by simp [attempt, zero])
    rw [free other]
    unfold State.enterService State.placeCribState
    dsimp only [State.modOrder_link, State.modOrder_reports, State.modOrder_order]
    rw [Bool.eq_false_iff.mpr onLine]
    rfl

/-! ## STOP_SERVICE (R102, R187) -/

section
variable {s : State} (free : s.openIssues = [])

theorem State.stopObstacle_of_issue {i : IssueNo} {x : Issue} {more : List (IssueNo × Issue)}
    (isOpen : s.openIssues = (i, x) :: more) : s.stopObstacle = some (0, s.issueId i) := by
  unfold State.stopObstacle
  rw [isOpen]
  rfl

include free

theorem State.stopObstacle_of_pocket {p : PocketNo} (away : (s.pocket p).lock ≠ .locked)
    (lowest : ∀ q < p, (s.pocket q).lock = .locked) : s.stopObstacle = some (1, p.val) := by
  have first : (s.pocketsWhere fun _ k => k.away).head? = some p :=
    State.head?_pocketsWhere (by simpa [Pocket.away] using away) fun q lower => Pocket.away_eq_false.mpr (lowest q lower)
  unfold State.stopObstacle
  rw [free, first]
  rfl

variable (locked : ∀ q, (s.pocket q).lock = .locked)
include locked

theorem State.stopObstacle_of_request {r : Request} {more : List Request} (listed : s.crib.requests = r :: more) :
    s.stopObstacle = some (1, r.number) := by
  have none : (s.pocketsWhere fun _ k => k.away).head? = Option.none :=
    State.head?_pocketsWhere_eq_none fun q => Pocket.away_eq_false.mpr (locked q)
  unfold State.stopObstacle
  rw [free, none, listed]
  rfl

theorem State.stopObstacle_of_slot {m : SlotNo} (quiet : s.crib.requests = [])
    (long : ((s.slot m).context.any (·.long)) = true) (lowest : ∀ k < m, ((s.slot k).context.any (·.long)) = false) :
    s.stopObstacle = some (2, m.val) := by
  have none : (s.pocketsWhere fun _ k => k.away).head? = Option.none :=
    State.head?_pocketsWhere_eq_none fun q => Pocket.away_eq_false.mpr (locked q)
  have first : (indices fun k : SlotNo => (s.slot k).context.any (·.long)).head? = some m :=
    head?_indices_eq_some long lowest
  unfold State.stopObstacle
  rw [free, none, quiet, first]
  rfl

theorem State.stopObstacle_of_none (quiet : s.crib.requests = [])
    (short : ∀ k, ((s.slot k).context.any (·.long)) = false) : s.stopObstacle = none := by
  have none : (s.pocketsWhere fun _ k => k.away).head? = Option.none :=
    State.head?_pocketsWhere_eq_none fun q => Pocket.away_eq_false.mpr (locked q)
  have noSlot : (indices fun k : SlotNo => (s.slot k).context.any (·.long)).head? = Option.none :=
    head?_indices_eq_none short
  unfold State.stopObstacle
  rw [free, none, quiet, noSlot]
  rfl

end

theorem doStopService_of_obstacle {s : State} {n : SlotNo} {kind number : Nat}
    (obstacle : s.stopObstacle = some (kind, number)) :
    doStopService n s = s.complete n .busy (le 1 kind ++ le 2 number) := by
  unfold doStopService
  rw [obstacle]

theorem doStopService_of_none {s : State} {n : SlotNo} (none : s.stopObstacle = none) :
    doStopService n s = s.enterSetup.complete n .ok [] := by
  unfold doStopService
  rw [none]

theorem State.enterSetup_taken (n : SlotNo) (kind : Nat) (img : SlotImage) (s : State) :
    (s.taken n kind img).enterSetup = s.enterSetup.taken n kind img :=
  State.grantBuffers_taken n kind img (s.modOrder fun o => { o with service := .setup }).dropPolls

theorem State.enterSetup_eq (s : State) :
    s.enterSetup = { s with order := { s.order with service := .setup }, link := s.enterSetup.link } :=
  State.grantBuffers_eq (s.modOrder fun o => { o with service := .setup }).dropPolls

theorem State.pollTimer_enterSetup (s : State) : s.enterSetup.link.pollTimer = none :=
  State.grantBuffers_keeps (P := fun t => t.link.pollTimer = none) (fun _ _ _ _ kept => kept) (fun _ _ kept => kept) rfl

theorem State.cell_dropPolls (c : CellNo) (s : State) : s.dropPolls.cell c =
    { s.cell c with queue := (s.cell c).queue.filter fun e => !e.isPoll } := get_mapVec ..

/-- No POLL is left; what else is queued stays (R102). -/
theorem State.payloads_enterSetup (c : CellNo) (s : State) : (s.enterSetup.cell c).queue.map (·.payload) =
    ((s.cell c).queue.filter fun e => e.payload != .poll).map (·.payload) := by
  refine (State.queue_grantBuffers (g := (·.payload)) (fun _ _ => rfl) _ c).trans ?_
  rw [State.cell_dropPolls]
  rfl

theorem State.slot_taken_of_ne {n m : SlotNo} (other : m ≠ n) (kind : Nat) (img : SlotImage) (s : State) :
    (s.taken n kind img).slot m = s.slot m := (State.slot_setSlot n m _ s).trans (if_neg (Ne.symm other))

theorem exec_stopService_of_obstacle {s : State} {img : SlotImage} {n : SlotNo} {kind number : Nat}
    (ok : s.accepts .stopService img n) (obstacle : (s.taken n 0x07 img).stopObstacle = some (kind, number)) :
    exec (.stopService img) s = .next (s.answered n 0x07 img .busy (le 1 kind ++ le 2 number) []) :=
  exec_completes (k := .stopService) ok ok.1.2 (doStopService_of_obstacle obstacle)

theorem exec_startService_of_refused {s : State} {img : SlotImage} {n : SlotNo} {st : Status} {p : PocketNo}
    (ok : s.accepts .startService img n) (check : (s.taken n 0x06 img).startServiceCheck = some (st, p)) :
    exec (.startService img) s = .next (s.answered n 0x06 img st (le 2 p.val) []) := by
  have work := doStartService_of_refused (n := n) check
  exact exec_completes (k := .startService) ok ok.1.2 work

/-- Settles O21. -/
theorem layoutLockAndServiceState : Obligations.LayoutLockAndServiceState := by
  intro img n s
  refine ⟨fun ok => exec_completes (k := .lockLayout) ok ok.1.2 rfl, fun ok => ⟨fun p mismatch lowest => ?_,
    fun p agree bad lowest => ?_, fun agree good cs placed isState free busy => ?_⟩, fun ok => ?_⟩
  · exact exec_startService_of_refused ok (State.startServiceCheck_of_mismatch (s := s.taken n 0x06 img) mismatch lowest)
  · exact exec_startService_of_refused ok
      (State.startServiceCheck_of_fault (s := s.taken n 0x06 img) agree bad lowest)
  · rw [← State.enterService_eq isState free busy]
    have work := doStartService_of_passed (n := n) (s := s.taken n 0x06 img)
      (State.startServiceCheck_of_good (s := s.taken n 0x06 img) agree good)
    have done := exec_completes (k := .startService) (u := s.enterService) ok ok.1.2 work
    exact done
  · refine ⟨fun i x more isOpen => ?_, fun p free away lowest => ?_, fun free locked => ⟨fun r more listed => ?_,
      fun m quiet other long lowest => ?_, fun quiet short => ?_⟩⟩
    · exact exec_stopService_of_obstacle ok (State.stopObstacle_of_issue (s := s.taken n 0x07 img) isOpen)
    · exact exec_stopService_of_obstacle ok (State.stopObstacle_of_pocket (s := s.taken n 0x07 img) free away lowest)
    · exact exec_stopService_of_obstacle ok (State.stopObstacle_of_request (s := s.taken n 0x07 img) free locked listed)
    · obtain ⟨c, context, isLong⟩ := long
      refine exec_stopService_of_obstacle ok (State.stopObstacle_of_slot (s := s.taken n 0x07 img) free locked quiet ?_ ?_)
      · rw [State.slot_taken_of_ne other, context]
        exact isLong
      · intro k lower
        by_cases here : k = n
        · rw [here, State.slot_taken]
          rfl
        · rw [State.slot_taken_of_ne here]
          simpa [Option.any_eq_false] using lowest k lower here
    · have none : (s.taken n 0x07 img).stopObstacle = Option.none :=
        State.stopObstacle_of_none (s := s.taken n 0x07 img) free locked quiet fun k => by
          by_cases here : k = n
          · rw [here, State.slot_taken]
            rfl
          · rw [State.slot_taken_of_ne here]
            simpa [Option.any_eq_false] using short k here
      have work := doStopService_of_none (n := n) none
      rw [State.enterSetup_taken] at work
      have order : s.enterSetup.order = { s.order with service := .setup } := by rw [s.enterSetup_eq]
      have done := exec_completes (k := .stopService) (u := s.enterSetup) ok (by rw [order]; exact ok.1.2) work
      have payloads := s.payloads_enterSetup
      refine ⟨_, done, congrArg OrderBlock.service order, s.pollTimer_enterSetup, fun c e isIn => ?_, fun c => ?_, ?_⟩
      · have kept : e.payload ∈ (s.enterSetup.cell c).queue.map (·.payload) := List.mem_map_of_mem isIn
        rw [payloads] at kept
        obtain ⟨f, isKept, same⟩ := List.mem_map.mp kept
        rw [← same]
        simpa using (List.mem_filter.mp isKept).2
      · have length := congrArg List.length (payloads c)
        rw [List.length_map, List.length_map] at length
        exact length
      · exact congrArg (State.answered n 0x07 img .ok [] []) s.enterSetup_eq

end Sys2Proof.Machine
end

section
/-! The results that owners form (R180), what the end of a movement forms, and SET_DRAWER (R31, R32). -/

namespace Sys2Proof.Machine

/-! ## A result formed (R180) -/

/-- A context whose result is formed. -/
def Context.formed (c : Context) (output : Output) : Context := { c with work := .idle, output := some output }

section
variable {s : State} {n m : SlotNo} {c : Context} (st : Status) (result buffer : List Byte)

theorem State.slot_completeWith_of_ne (other : m ≠ n) : (s.completeWith n st result buffer).slot m = s.slot m := by
  unfold State.completeWith
  split
  · rfl
  · split
    · rfl
    · exact (State.slot_setSlot ..).trans (if_neg (Ne.symm other))

theorem State.writeOrder_completeWith :
    (s.completeWith n st result buffer).order.writeOrder = s.order.writeOrder := by
  unfold State.completeWith
  split
  · rfl
  · split <;> rfl

variable (context : (s.slot n).context = some c) (unfinished : c.output = none)
include context unfinished

theorem State.completeWith_of_open : s.completeWith n st result buffer =
    (s.setSlot n { s.slot n with context := some (c.formed ⟨st, s.clock, result, buffer⟩) }).modOrder
      fun o => { o with formedNow := n :: o.formedNow } := by
  unfold State.completeWith
  rw [context]
  dsimp only
  rw [unfinished]
  rfl

theorem State.slot_completeWith : (s.completeWith n st result buffer).slot n =
    { s.slot n with context := some (c.formed ⟨st, s.clock, result, buffer⟩) } := by
  rw [State.completeWith_of_open st result buffer context unfinished]
  exact (State.slot_setSlot ..).trans (if_pos rfl)

theorem State.formedNow_completeWith :
    (s.completeWith n st result buffer).order.formedNow = n :: s.order.formedNow := by
  rw [State.completeWith_of_open st result buffer context unfinished]
  rfl

theorem State.formedStatus_completeWith : (s.completeWith n st result buffer).formedStatus n = some st := by
  rw [State.formedStatus, State.slot_completeWith st result buffer context unfinished]
  rfl

theorem State.formedStatus_complete : (s.complete n st result).formedStatus n = some st :=
  State.formedStatus_completeWith st result [] context unfinished

omit context unfinished in
theorem State.formedStatus_settle : s.settle.formedStatus n = s.formedStatus n := rfl

omit context unfinished in
theorem State.work_of_context (context : (s.slot n).context = some c) : s.work n = c.work := by
  rw [State.work, context]
  rfl

/-! ## Movements that end a context (R15, R71, R72, R82, R161) -/

theorem State.formedStatus_finishMeasure (x : MeasureCtx) : (s.finishMeasure n x st).formedStatus n = some st :=
  State.formedStatus_completeWith (s := s.modTool x.tool (measureRelease x)) st _ _ context unfinished

theorem State.formedStatus_stowEnded (w : StowCtx) (outcome : MoveOutcome) :
    (s.stowEnded n w outcome).formedStatus n = some (insertionStatus outcome) :=
  State.formedStatus_completeWith (s := s.modTool w.tool (stowRelease w outcome)) _ _ _ context unfinished

theorem State.formedStatus_removeEnded (tool : Nat) {outcome : MoveOutcome} (failed : outcome ≠ .sensed) :
    (s.removeEnded n tool outcome).formedStatus n = some (removalStatus outcome) := by
  have done := State.formedStatus_completeWith (s := s.releaseBack tool) (removalStatus outcome) [] [] context unfinished
  cases outcome with
  | sensed => exact absurd rfl failed
  | _ => exact done

theorem State.formedStatus_storeEnded (x : MeasureCtx) (outcome : MoveOutcome) :
    (s.storeEnded n x outcome).formedStatus n = some .ok := State.formedStatus_finishMeasure _ context unfinished _

omit context unfinished in
theorem State.slot_withdrawCycle : (s.withdrawCycle n).slot m = s.slot m := by
  unfold State.withdrawCycle
  split <;> rfl

theorem State.formedStatus_fetchEnded (x : MeasureCtx) {outcome : MoveOutcome} (failed : outcome ≠ .sensed)
    (goesOn : x.pendingStatus = none) :
    (s.fetchEnded n x outcome).formedStatus n = some (removalStatus outcome) := by
  have done := State.formedStatus_finishMeasure (s := s.withdrawCycle n) (removalStatus outcome)
    (State.slot_withdrawCycle ▸ context) unfinished { x with fetch := none, fetchOutcome := some outcome }
  unfold State.fetchEnded
  dsimp only
  rw [goesOn]
  cases outcome with
  | sensed => exact absurd rfl failed
  | _ => exact done

theorem State.formedStatus_returnMove (r : ReturnCtx) (outcome : MoveOutcome) (settled : r.withdraw ≠ .pending) :
    (s.returnMove n r outcome).formedStatus n = some (insertionStatus outcome) := by
  unfold State.returnMove
  dsimp only
  rw [if_neg fun both => settled both.2, State.returnStep]
  dsimp only
  rw [if_neg settled]
  exact State.formedStatus_completeWith (s := s.modTool r.tool (returnRelease outcome)) _ _ _ context unfinished

end

/-! ## The withdrawal of an issue (R142) -/

theorem State.enterWithdrawing_of_queued {s : State} {i : IssueNo} {x : Issue} {st : Status}
    (isOpen : (s.issueRec i).issue = some x) (room : (s.cell x.cell).queue.length < 16)
    (standing : (s.cell x.cell).standing ≠ .cutOff) :
    s.enterWithdrawing i st =
      ((s.modIssue i fun x => { x with phase := .withdrawing, request := none, failure := some (x.failure.getD st) }).queueExchange
        x.cell (.withdraw (s.issueId i) x.tool x.slot) (.issue (s.issueId i))).1 := by
  have check (p : Payload) : (s.cell x.cell).queueCheck p = none := by
    rw [Cell.queueCheck, if_neg (by simpa [Config.maxExchanges] using room), if_neg fun cut => standing cut.1]
  unfold State.enterWithdrawing
  rw [isOpen]
  dsimp only
  generalize ht : (s.modIssue i fun x => { x.fail st with phase := .withdrawing, request := none }) = t
  have cell : t.cell x.cell = s.cell x.cell := by rw [← ht]; rfl
  have same : (s.modIssue i fun x => { x with phase := .withdrawing, request := none, failure := some (x.failure.getD st) }) = t := by
    rw [← ht]; rfl
  rw [same, State.queueExchange, cell, check]

theorem State.of_openIndex {s : State} {id : Nat} {i : IssueNo} (isOpen : s.openIndex id = some i) :
    s.issueId i = id ∧ (s.issueRec i).issue.isSome = true := by
  obtain ⟨index, checks⟩ := Option.filter_eq_some_iff.mp isOpen
  simp only [Bool.and_eq_true, beq_iff_eq] at checks
  have isIndex : i.val = id / 8 := by
    unfold asFin at index
    split at index
    · exact (Fin.val_eq_of_eq (Option.some.inj index)).symm
    · cases index
  refine ⟨?_, checks.2⟩
  rw [State.issueId, issueIdOf, isIndex, checks.1]
  omega

/-- A movement of an issue that failed (R137, R138). -/
theorem State.deliverMove_issue {s : State} {id : Nat} {i : IssueNo} (isOpen : s.openIndex id = some i) (outcome : MoveOutcome) :
    s.deliverMove (.issue id) outcome = s.pickEnded i outcome := by
  rw [State.deliverMove, isOpen]

end Sys2Proof.Machine
end

section
/-! SET_DRAWER (R31, R32): the change that the layout lock allows, and the queued requests that the new opening rule shuts out. -/

namespace Sys2Proof.Machine

/-! ## Requests shut out (R32) -/

/-- A queued request of a drawer that the opening rule of the drawer does not permit. -/
def Request.shutOut (d : Fin 16) (a : Attribute) (r : Request) : Bool :=
  decide (r.state = .queued) && decide (r.pocket.val / 32 = d.val) && !a.permits r.movement

theorem State.closedOut_eq {s : State} {d : Fin 16} {a : Attribute} (given : s.crib.drawers.get d = a) :
    s.closedOut d = s.crib.requests.filter (Request.shutOut d a) := by
  subst given
  refine List.filter_congr fun r _ => ?_
  have drawer : (drawerOf r.pocket == d) = decide (r.pocket.val / 32 = d.val) := by
    rw [Bool.eq_iff_iff]
    simp [drawerOf, Fin.ext_iff]
  rw [drawer]
  rfl

theorem State.requests_endClosed (s : State) (r : Request) :
    (s.endClosed r).crib.requests = s.crib.requests.filter fun q => q.number != r.number := by
  simp [State.endClosed, State.endRequest, State.modPocket]

theorem State.claim_endClosed (s : State) (r : Request) (p : PocketNo) :
    ((s.endClosed r).pocket p).claim = if r.pocket = p then none else (s.pocket p).claim := by
  have crib : (s.endClosed r).crib = (s.endRequest r).crib := by simp [State.endClosed]
  have pocket : (s.endClosed r).pocket p = (s.endRequest r).pocket p := by rw [State.pocket, crib]; rfl
  rw [pocket, State.endRequest, State.pocket_modPocket]
  split <;> rfl

theorem State.requests_endAllClosed (l : List Request) (s : State) : (l.foldl State.endClosed s).crib.requests =
    s.crib.requests.filter fun q => !(l.any fun r => q.number == r.number) := by
  induction l generalizing s with
  | nil => simp
  | cons r l ih =>
    rw [List.foldl_cons, ih, State.requests_endClosed, List.filter_filter]
    refine List.filter_congr fun q _ => ?_
    simp [Bool.and_comm, bne]

theorem State.claim_endAllClosed (l : List Request) (s : State) (p : PocketNo)
    (ends : (∃ r ∈ l, r.pocket = p) ∨ (s.pocket p).claim = none) : ((l.foldl State.endClosed s).pocket p).claim = none := by
  induction l generalizing s with
  | nil => simpa using ends
  | cons r l ih =>
    refine ih (s.endClosed r) ?_
    rw [State.claim_endClosed]
    rcases ends with ⟨q, isIn, here⟩ | none
    · rcases List.mem_cons.mp isIn with rfl | isIn
      · exact .inr (if_pos here)
      · exact .inl ⟨q, isIn, here⟩
    · right
      split
      · rfl
      · exact none

theorem State.drawers_endAllClosed (l : List Request) (s : State) :
    (l.foldl State.endClosed s).crib.drawers = s.crib.drawers := by
  have layout : (l.foldl State.endClosed s).crib.layoutPart = s.crib.layoutPart :=
    foldl_keeps (·.crib.layoutPart) _ (by simp) l s
  have field {β} (f : Crib → β) : f (l.foldl State.endClosed s).crib.layoutPart = f s.crib.layoutPart := congrArg f layout
  exact field (·.drawers)

/-- With request numbers distinct, the requests that are not shut out are left. -/
theorem filter_not_shutOut {requests : List Request} (distinct : (requests.map (·.number)).Nodup) (shut : Request → Bool) :
    (requests.filter fun q => !((requests.filter shut).any fun r => q.number == r.number)) =
      requests.filter fun q => !shut q := by
  refine List.filter_congr fun q hq => congrArg (!·) ?_
  rw [Bool.eq_iff_iff, List.any_eq_true]
  constructor
  · rintro ⟨r, isShut, same⟩
    obtain ⟨hr, out⟩ := List.mem_filter.mp isShut
    rwa [List.inj_on_of_nodup_map distinct hq hr (by simpa using same)]
  · exact fun out => ⟨q, List.mem_filter.mpr ⟨hq, out⟩, by simp⟩

/-! ## The work of SET_DRAWER (R31) -/

section
variable {img : SlotImage} {n : SlotNo} {s : State} {d : Fin 16} {a : Attribute}

theorem asAttribute_code (a : Attribute) : asAttribute a.code = some a := by cases a <;> rfl

theorem asAttribute_eq_none {v : Nat} (high : 3 < v) : asAttribute v = none := by
  match v, high with
  | _ + 4, _ => rfl

theorem Attribute.mayBecome_eq_false {old new : Attribute} :
    old.mayBecome new = false ↔ new ≠ old ∧ old ≠ .openAll ∧ new ≠ .closed := by
  simp [Attribute.mayBecome, and_assoc]

theorem doSetDrawer_of_badParam (bad : 15 < par1 img 0 ∨ 3 < par1 img 1) :
    doSetDrawer img n s = s.refuse n .badParam := by
  unfold doSetDrawer
  rcases bad with drawer | given
  · rw [asFin_eq_none drawer]
  · rw [asAttribute_eq_none given]
    split <;> simp_all

variable (drawer : par1 img 0 = d.val) (given : par1 img 1 = a.code)
include drawer given

theorem doSetDrawer_of_locked (locked : s.crib.layoutLock = true) (widens : (s.crib.drawers.get d).mayBecome a = false) :
    doSetDrawer img n s = s.refuse n .layoutLocked := by
  unfold doSetDrawer
  rw [drawer, given, asFin_val, asAttribute_code]
  exact if_pos ⟨locked, widens⟩

/-- The drawer has its new opening rule, and the requests that it shuts out are ended one after the other. -/
theorem doSetDrawer_of_allowed (allowed : ¬ (s.crib.layoutLock = true ∧ (s.crib.drawers.get d).mayBecome a = false)) :
    doSetDrawer img n s =
      ((s.crib.requests.filter (Request.shutOut d a)).foldl State.endClosed
        { s with crib := { s.crib with drawers := s.crib.drawers.set d.1 a d.2 } }).complete n .ok
        (le 1 d.val ++ le 1 (s.crib.drawers.get d).code ++ le 1 a.code ++
          le 1 (s.crib.requests.filter (Request.shutOut d a)).length) := by
  have out : (s.modCrib fun c => { c with drawers := c.drawers.set d.1 a d.2 }).closedOut d =
      s.crib.requests.filter (Request.shutOut d a) := State.closedOut_eq ((get_set ..).trans (if_pos rfl))
  unfold doSetDrawer
  rw [drawer, given, asFin_val, asAttribute_code]
  dsimp only
  rw [if_neg allowed, out]
  rfl

end

/-! ## What the owner of a request shut out forms (R15, R72, R78, R82, R137, R161) -/

theorem State.formedStatus_deliver_drawerClosed {u : State} {m : SlotNo} {c : Context}
    (context : (u.slot m).context = some c) (unfinished : c.output = none) :
    ((∃ w, c.work = .stow w) ∨ (∃ tool num, c.work = .remove tool num) →
      (u.deliverMove (.slot m) .drawerClosed).formedStatus m = some .drawerClosed) ∧
    (∀ x, c.work = .measure x → x.pendingStatus = none →
      (x.phase = .fetching → (u.deliverMove (.slot m) .drawerClosed).formedStatus m = some .drawerClosed) ∧
      (x.phase = .storing → (u.deliverMove (.slot m) .drawerClosed).formedStatus m = some .ok)) ∧
    (∀ r, c.work = .returning r → r.withdraw ≠ .pending →
      (u.deliverMove (.slot m) .drawerClosed).formedStatus m = some .drawerClosed) := by
  have work := State.work_of_context context
  unfold State.deliverMove
  dsimp only
  rw [work]
  refine ⟨?_, fun x isWork goesOn => ?_, fun r isWork settled => ?_⟩
  · rintro (⟨w, isWork⟩ | ⟨tool, num, isWork⟩) <;> rw [isWork]
    · exact State.formedStatus_stowEnded context unfinished w _
    · exact State.formedStatus_removeEnded context unfinished tool (by decide)
  · rw [isWork]
    dsimp only
    refine ⟨fun phase => ?_, fun phase => ?_⟩ <;> rw [State.measureMove, phase]
    · exact State.formedStatus_fetchEnded context unfinished x (by decide) goesOn
    · exact State.formedStatus_storeEnded context unfinished x _
  · rw [isWork]
    exact State.formedStatus_returnMove context unfinished r _ settled

/-! ## The order (R31, R32) -/

section
variable {img : SlotImage} {n : SlotNo} {s : State} {d : Fin 16} {a : Attribute} (ok : s.accepts .setDrawer img n)
  (drawer : par1 img 0 = d.val) (given : par1 img 1 = a.code)
  (allowed : ¬ (s.crib.layoutLock = true ∧ (s.crib.drawers.get d).mayBecome a = false))
include ok drawer given allowed

theorem exec_setDrawer_of_allowed {shut : List Request} (isShut : shut = s.crib.requests.filter (Request.shutOut d a)) :
    exec (.setDrawer img) s = .next (State.settle (State.complete n .ok
      (le 1 d.val ++ le 1 (s.crib.drawers.get d).code ++ le 1 a.code ++ le 1 shut.length)
      (shut.foldl State.endClosed
        { s.taken n 0x03 img with crib := { s.crib with drawers := s.crib.drawers.set d.1 a d.2 } }))) := by
  subst isShut
  have work := doSetDrawer_of_allowed (n := n) (s := s.taken n 0x03 img) drawer given allowed
  have accepted := State.takeOrder_accepted (doSetDrawer img) ok
  rw [show s.taken n OrderKind.setDrawer.code img = s.taken n 0x03 img from rfl, work] at accepted
  exact congrArg Host.Outcome.next accepted

theorem exec_setDrawer_of_none (none : s.crib.requests.filter (Request.shutOut d a) = []) :
    exec (.setDrawer img) s = .next (State.answered n 0x03 img .ok
      (le 1 d.val ++ le 1 (s.crib.drawers.get d).code ++ le 1 a.code ++ le 1 0) []
      { s with crib := { s.crib with drawers := s.crib.drawers.set d.1 a d.2 } }) := by
  have work := doSetDrawer_of_allowed (n := n) (s := s.taken n 0x03 img) drawer given allowed
  rw [show (s.taken n 0x03 img).crib.requests = s.crib.requests from rfl, none] at work
  exact exec_completes (k := .setDrawer)
    (u := { s with crib := { s.crib with drawers := s.crib.drawers.set d.1 a d.2 } }) ok ok.1.2 work

/-- The STOW of a request shut out ends in the step of the SET_DRAWER: both results are formed in it, the lower slot first. -/
theorem exec_setDrawer_of_stow {r : Request} {m : SlotNo} {w : StowCtx}
    (one : s.crib.requests.filter (Request.shutOut d a) = [r]) (owner : r.owner = .slot m) (other : m ≠ n)
    (working : s.working m (.stow w)) : ∃ t, exec (.setDrawer img) s = .next t ∧
      t.formedStatus m = some .drawerClosed ∧
      (t.slot n).context.bind (·.output) = some
        { status := .ok, stamp := s.clock
          result := le 1 d.val ++ le 1 (s.crib.drawers.get d).code ++ le 1 a.code ++ le 1 1, buffer := [] } ∧
      t.order.writeOrder = s.order.writeOrder ++ if m < n then [m, n] else [n, m] := by
  obtain ⟨⟨c, context, isWork, unfinished⟩, alone⟩ := working
  refine ⟨_, exec_setDrawer_of_allowed ok drawer given allowed one.symm, ?_⟩
  generalize isU : State.endRequest r
    { s.taken n 0x03 img with crib := { s.crib with drawers := s.crib.drawers.set d.1 a d.2 } } = u
  have order : u.order = (s.taken n 0x03 img).order := by rw [← isU]; rfl
  have slots (k : SlotNo) : u.slot k = (s.taken n 0x03 img).slot k := by rw [State.slot, order]; rfl
  have contextU : (u.slot m).context = some c := by rw [slots, State.slot_taken_of_ne other, context]
  have ends : State.endClosed
      { s.taken n 0x03 img with crib := { s.crib with drawers := s.crib.drawers.set d.1 a d.2 } } r =
      u.stowEnded m w .drawerClosed := by
    rw [State.endClosed, isU, owner, State.deliverMove, State.work_of_context contextU, isWork]
  rw [List.foldl_cons, List.foldl_nil, ends]
  have status := State.formedStatus_stowEnded contextU unfinished w .drawerClosed
  generalize isV : u.stowEnded m w .drawerClosed = v at status ⊢
  have contextV : (v.slot n).context = some (newContext 0x03 img) := by
    rw [← isV, State.stowEnded, State.complete, State.slot_completeWith_of_ne _ _ _ (Ne.symm other)]
    exact (congrArg Slot.context (slots n)).trans (by rw [State.slot_taken])
  have formed : v.order.formedNow = [m] := by
    rw [← isV]
    refine (State.formedNow_completeWith (s := u.modTool w.tool _) _ _ _ contextU unfinished).trans ?_
    change m :: u.order.formedNow = [m]
    rw [order]
    exact congrArg (m :: ·) alone
  have line : v.order.writeOrder = s.order.writeOrder := by
    rw [← isV]
    refine (State.writeOrder_completeWith _ _ _).trans ?_
    change u.order.writeOrder = _
    rw [order]
    rfl
  have clock : v.clock = s.clock := by
    simp [← isV, order]
  have completes := State.slot_completeWith .ok
    (le 1 d.val ++ le 1 (s.crib.drawers.get d).code ++ le 1 a.code ++ le 1 1) [] contextV rfl
  refine ⟨?_, ?_, ?_⟩
  · rw [State.formedStatus_settle, State.formedStatus, State.complete, State.slot_completeWith_of_ne _ _ _ other]
    exact status
  · change ((State.complete n .ok _ v).slot n).context.bind _ = _
    rw [State.complete]
    rw [show [r].length = 1 from rfl, completes, clock]
    rfl
  · change (State.complete n .ok _ v).order.writeOrder ++ (State.complete n .ok _ v).order.formedNow.foldr insertSlot [] = _
    rw [State.complete, State.writeOrder_completeWith, line, State.formedNow_completeWith _ _ _ contextV rfl, formed]
    refine congrArg _ ?_
    simp only [List.foldr_cons, List.foldr_nil, insertSlot]
    by_cases below : m < n
    · rw [if_pos below, if_neg (not_le.mpr below)]
    · rw [if_neg below, if_pos (not_lt.mp below)]

theorem exec_setDrawer_ends (distinct : (s.crib.requests.map (·.number)).Nodup) : ∃ t, exec (.setDrawer img) s = .next t ∧
    (∀ e : Fin 16, t.crib.drawers.get e = if e = d then a else s.crib.drawers.get e) ∧
    t.crib.requests = s.crib.requests.filter (fun r => !Request.shutOut d a r) ∧
    (∀ r ∈ s.crib.requests, Request.shutOut d a r = true → (t.pocket r.pocket).claim = none) ∧
    t.order.portPart = { s.order with series := none }.portPart ∧ t.presetter.stationPart = s.presetter.stationPart ∧
    t.board = s.board := by
  refine ⟨_, exec_setDrawer_of_allowed ok drawer given allowed rfl, ?_⟩
  generalize isU : ({ s.taken n 0x03 img with crib := { s.crib with drawers := s.crib.drawers.set d.1 a d.2 } } : State) = u
  have drawersU : u.crib.drawers = s.crib.drawers.set d.1 a d.2 := by rw [← isU]
  have requestsU : u.crib.requests = s.crib.requests := by rw [← isU]
  have restU : u.order.portPart = { s.order with series := none }.portPart ∧
      u.presetter.stationPart = s.presetter.stationPart ∧ u.board = s.board := by rw [← isU]; exact ⟨rfl, rfl, rfl⟩
  have drawers := State.drawers_endAllClosed (s.crib.requests.filter (Request.shutOut d a)) u
  have requests := State.requests_endAllClosed (s.crib.requests.filter (Request.shutOut d a)) u
  have claims (p : PocketNo) := State.claim_endAllClosed (s.crib.requests.filter (Request.shutOut d a)) u p
  have port := foldl_keeps (·.order.portPart) State.endClosed (by simp) (s.crib.requests.filter (Request.shutOut d a)) u
  have station :=
    foldl_keeps (·.presetter.stationPart) State.endClosed (by simp) (s.crib.requests.filter (Request.shutOut d a)) u
  have board := foldl_keeps (·.board) State.endClosed (by simp) (s.crib.requests.filter (Request.shutOut d a)) u
  rw [drawersU] at drawers
  rw [requestsU, filter_not_shutOut distinct] at requests
  generalize (s.crib.requests.filter (Request.shutOut d a)).foldl State.endClosed u = v at drawers requests claims port station board ⊢
  generalize le 1 d.val ++ le 1 (s.crib.drawers.get d).code ++ le 1 a.code ++ _ = result
  have crib : (v.complete n .ok result).settle.crib = v.crib := by simp
  refine ⟨fun e => ?_, ?_, fun r hr out => ?_, ?_, ?_, ?_⟩
  · rw [crib, drawers, get_set]
    simp only [eq_comm]
  · rw [crib, requests]
  · rw [State.pocket, crib]
    exact claims r.pocket (.inl ⟨r, List.mem_filter.mpr ⟨hr, out⟩, rfl⟩)
  · simpa using port.trans restU.1
  · simpa using station.trans restU.2.1
  · simpa using board.trans restU.2.2

end

/-- Settles O19. -/
theorem setDrawer : Obligations.SetDrawer := by
  intro img n s ok
  refine ⟨fun d a drawer given => ⟨fun locked differs notOpen notClosed => ?_, fun allowed => ?_⟩,
    fun bad => exec_refuses ok (doSetDrawer_of_badParam bad), fun u => ⟨fun m c context unfinished t isT => ?_,
      fun id i x isOpen isIssue room standing => ?_⟩⟩
  · exact exec_refuses ok (doSetDrawer_of_locked drawer given locked
      (Attribute.mayBecome_eq_false.mpr ⟨differs, notOpen, notClosed⟩))
  · have isAllowed : ¬ (s.crib.layoutLock = true ∧ (s.crib.drawers.get d).mayBecome a = false) := by
      rw [Attribute.mayBecome_eq_false]
      rintro ⟨locked, differs, notOpen, notClosed⟩
      simp [locked, differs, notOpen, notClosed] at allowed
    refine ⟨fun permits => ?_, fun shut isShut => ⟨?_, fun r m w one owner other working => ?_⟩, fun distinct => ?_⟩
    · refine exec_setDrawer_of_none ok drawer given isAllowed (List.filter_eq_nil_iff.mpr fun r hr => ?_)
      simp only [Request.shutOut, Bool.and_eq_true, decide_eq_true_eq, Bool.not_eq_true', not_and, Bool.not_eq_false]
      exact fun both => permits r hr both.1 both.2
    · exact exec_setDrawer_of_allowed ok drawer given isAllowed isShut
    · exact exec_setDrawer_of_stow ok drawer given isAllowed (isShut.symm.trans one) owner other working
    · obtain ⟨t, next, drawers, requests, claims, rest⟩ := exec_setDrawer_ends ok drawer given isAllowed distinct
      refine ⟨t, next, drawers, requests, fun r hr queued here denied => claims r hr ?_, rest⟩
      simp [Request.shutOut, queued, here, denied]
  · rw [isT]
    exact State.formedStatus_deliver_drawerClosed context unfinished
  · rw [State.deliverMove_issue isOpen, State.pickEnded, State.enterWithdrawing_of_queued isIssue room standing,
      (State.of_openIndex isOpen).1]

end Sys2Proof.Machine
end

section
/-! READ_TOOL, FIND and ENROL (R10 to R13, R17, R18). -/

namespace Sys2Proof.Machine

/-! ## READ_TOOL (R17) -/

/-- A part of a list put together from parts, cut out where the parts before it end. -/
theorem drop_take_flatten {parts : List (List Byte)} {k : Nat} (isPart : k < parts.length) :
    (parts.flatten.drop (parts.take k).flatten.length).take (parts.getD k []).length = parts.getD k [] := by
  induction parts generalizing k with
  | nil => simp at isPart
  | cons part parts ih =>
    cases k with
    | zero => exact List.take_left' rfl
    | succ k =>
      rw [List.take_succ_cons, List.flatten_cons, List.flatten_cons, List.length_append, ← List.drop_drop,
        List.drop_left]
      exact ih (Nat.lt_of_succ_lt_succ isPart)

/-- The fields of a record in the order of READ_TOOL. -/
def Tool.fields (x : Tool) : List (List Byte) :=
  [le 1 (presence [x.stateBefore.isSome, x.claim.isSome, x.last.isSome, x.home.isSome, x.geometry.isSome]),
    le 2 x.number, le 1 x.cls, le 1 x.state.code, optField 1 (x.stateBefore.map fun st => le 1 st.code),
    optField 2 (x.claim.map claimField), locationField x.location,
    optField 2 (x.last.map fun l => le 1 (addr l.1) ++ le 1 l.2), optField 2 (x.home.map fun p => le 2 p.val),
    le 4 x.nominalLength, le 4 x.nominalRadius, le 2 x.lengthTol, le 2 x.radiusTol,
    optField 14 (x.geometry.map (·.bytes)), flag x.outOfTol, le 1 x.lifeUnit.code, le 2 x.lifeLimit,
    le 2 x.lifeUsed, le 1 x.warnPercent, flag x.warningSent, flag x.lifeEnded, le 1 x.regrinds,
    le 1 x.regrindMax, le 2 x.issueCount, le 2 x.threshold]

/-- Parts put together from the left. -/
theorem foldl_append_eq_flatten (part : List Byte) (parts : List (List Byte)) :
    parts.foldl (· ++ ·) part = (part :: parts).flatten := by
  induction parts generalizing part with
  | nil => simp
  | cons q parts ih => rw [List.foldl_cons, ih, List.flatten_cons, List.flatten_cons, List.flatten_cons, List.append_assoc]

theorem Tool.bytes_eq (x : Tool) : x.bytes = x.fields.flatten := by
  rw [Tool.fields, ← foldl_append_eq_flatten]
  unfold Tool.bytes
  repeat rw [List.foldl_cons]
  rw [List.foldl_nil]

theorem length_optField {width : Nat} {v : Option (List Byte)} (fits : ∀ b, v = some b → b.length = width) :
    (optField width v).length = width := by
  cases v with
  | none => exact List.length_replicate
  | some b => exact fits b rfl

theorem length_claimField (owner : Owner) : (claimField owner).length = 2 := by
  cases owner <;> simp [claimField, length_le]

theorem length_locationField (loc : Location) : (locationField loc).length = 3 := by
  cases loc <;> simp [locationField, length_le]

theorem length_geometry (g : Geometry) : g.bytes.length = 14 := by simp [Geometry.bytes, leInt, length_le]

theorem length_flag (b : Bool) : (flag b).length = 1 := rfl

/-- The widths of the fields. -/
theorem Tool.length_fields (x : Tool) : x.fields.map (·.length) =
    [1, 2, 1, 1, 1, 2, 3, 2, 2, 4, 4, 2, 2, 14, 1, 1, 2, 2, 1, 1, 1, 1, 1, 2, 2] := by
  have before : (optField 1 (x.stateBefore.map fun st => le 1 st.code)).length = 1 :=
    length_optField fun b is => by obtain ⟨st, -, rfl⟩ := Option.map_eq_some_iff.mp is; exact length_le ..
  have claim : (optField 2 (x.claim.map claimField)).length = 2 :=
    length_optField fun b is => by obtain ⟨o, -, rfl⟩ := Option.map_eq_some_iff.mp is; exact length_claimField o
  have last : (optField 2 (x.last.map fun l => le 1 (addr l.1) ++ le 1 l.2)).length = 2 :=
    length_optField fun b is => by obtain ⟨l, -, rfl⟩ := Option.map_eq_some_iff.mp is; simp [length_le]
  have home : (optField 2 (x.home.map fun p => le 2 p.val)).length = 2 :=
    length_optField fun b is => by obtain ⟨p, -, rfl⟩ := Option.map_eq_some_iff.mp is; exact length_le ..
  have geometry : (optField 14 (x.geometry.map (·.bytes))).length = 14 :=
    length_optField fun b is => by obtain ⟨g, -, rfl⟩ := Option.map_eq_some_iff.mp is; exact length_geometry g
  simp only [Tool.fields, List.map_cons, List.map_nil, length_le, length_flag, length_locationField, before, claim, last, home,
    geometry]

theorem Tool.length_bytes (x : Tool) : x.bytes.length = 56 := by
  rw [x.bytes_eq, List.length_flatten, x.length_fields]
  rfl

/-- The field of an index, cut out at its offset. -/
theorem Tool.field_at (x : Tool) (k : Nat) {offset : Nat} (isField : k < 25)
    (place : ([1, 2, 1, 1, 1, 2, 3, 2, 2, 4, 4, 2, 2, 14, 1, 1, 2, 2, 1, 1, 1, 1, 1, 2, 2].take k).sum = offset) :
    (x.bytes.drop offset).take (x.fields.getD k []).length = x.fields.getD k [] := by
  have isPart : k < x.fields.length := isField
  have before : (x.fields.take k).flatten.length = offset := by
    rw [← place, List.length_flatten, List.map_take, x.length_fields]
  rw [x.bytes_eq, ← before]
  exact drop_take_flatten isPart

theorem doReadTool_of_zero {img : SlotImage} {n : SlotNo} {s : State} (zero : par2 img 0 = 0) :
    doReadTool img n s = s.refuse n .badParam := if_pos (by simp [goodTool, zero])

theorem doReadTool_of_tool {img : SlotImage} {n : SlotNo} {s : State} (number : par2 img 0 ≠ 0) :
    doReadTool img n s = match s.findTool (par2 img 0) with
      | none => s.refuse n .unknownTool
      | some x => s.complete n .ok x.bytes := if_neg (by simpa [goodTool] using number)

/-! ## FIND (R18) -/

theorem doFind_of_bad {img : SlotImage} {n : SlotNo} {s : State} (bad : par2 img 0 = 0 ∨ par2 img 4 % 512 = 0) :
    doFind img n s = s.refuse n .badParam := if_pos (bad.imp_left fun zero => by simp [goodTool, zero])

theorem doFind_of_good {img : SlotImage} {n : SlotNo} {s : State} {found : List Nat} (number : par2 img 0 ≠ 0)
    (states : par2 img 4 % 512 ≠ 0)
    (isFound : s.matching (par2 img 0) (par1 img 2) (parFlag img 3) (par2 img 4) = found) :
    doFind img n s = s.completeWith n .ok
      (le 2 (min (img.bufLength.toNat / 2) found.length) ++
        le 2 ((found.take (img.bufLength.toNat / 2)).getLast?.getD 0) ++ flag (img.bufLength.toNat / 2 < found.length))
      ((found.take (img.bufLength.toNat / 2)).flatMap (le 2)) := by
  have good : ¬ (goodTool (par2 img 0) = false ∨ par2 img 4 % 512 = 0) := by simp [goodTool, number, states]
  unfold doFind
  rw [if_neg good, isFound]
  dsimp only
  have more : min (img.bufLength.toNat / 2) found.length < found.length ↔ img.bufLength.toNat / 2 < found.length := by omega
  rw [List.length_take, decide_eq_decide.mpr more]

/-- Settles O26: the fields of the record one by one. -/
theorem readToolAndFind : Obligations.ReadToolAndFind := by
  intro img n s
  refine ⟨fun ok => ⟨fun zero => exec_refuses ok (doReadTool_of_zero zero), fun number unknown => ?_,
    fun x number found => ⟨?_, x.length_bytes, fun holds isHeld => ?_⟩⟩, fun ok => ⟨fun bad =>
      exec_refuses ok (doFind_of_bad bad), fun found number states isFound => ?_⟩⟩
  · have work := doReadTool_of_tool (n := n) (s := s.taken n 0x0A img) number
    rw [State.findTool_taken, unknown] at work
    exact exec_refuses ok work
  · have work := doReadTool_of_tool (n := n) (s := s.taken n 0x0A img) number
    rw [State.findTool_taken, found] at work
    exact exec_completes (k := .readTool) ok ok.1.2 work
  · have field (k : Nat) {bytes : List Byte} {offset : Nat} (isField : k < 25) (is : x.fields.getD k [] = bytes)
        (place : ([1, 2, 1, 1, 1, 2, 3, 2, 2, 4, 4, 2, 2, 14, 1, 1, 2, 2, 1, 1, 1, 1, 1, 2, 2].take k).sum = offset) :
        holds offset bytes := (isHeld offset bytes).mpr (is ▸ x.field_at k isField place)
    refine ⟨field 0 (by decide) rfl rfl, field 1 (by decide) rfl rfl, field 2 (by decide) rfl rfl, field 3 (by decide) rfl rfl,
      field 4 (by decide) ?_ rfl, field 5 (by decide) ?_ rfl, field 6 (by decide) ?_ rfl, field 7 (by decide) ?_ rfl,
      field 8 (by decide) ?_ rfl, field 9 (by decide) rfl rfl, field 10 (by decide) rfl rfl, field 11 (by decide) rfl rfl,
      field 12 (by decide) rfl rfl, field 13 (by decide) ?_ rfl, field 14 (by decide) ?_ rfl, field 15 (by decide) rfl rfl,
      field 16 (by decide) rfl rfl, field 17 (by decide) rfl rfl, field 18 (by decide) rfl rfl, field 19 (by decide) ?_ rfl,
      field 20 (by decide) ?_ rfl, field 21 (by decide) rfl rfl, field 22 (by decide) rfl rfl, field 23 (by decide) rfl rfl,
      field 24 (by decide) rfl rfl⟩
    all_goals simp only [Tool.fields, List.getD_cons_succ, List.getD_cons_zero]
    · cases x.stateBefore <;> rfl
    · rcases x.claim with _ | _ | _ <;> rfl
    · cases x.location <;> rfl
    · cases x.last <;> rfl
    · cases x.home <;> rfl
    · cases x.geometry <;> rfl
    · cases x.outOfTol <;> rfl
    · cases x.warningSent <;> rfl
    · cases x.lifeEnded <;> rfl
  · exact exec_completes (k := .find) ok ok.1.2 (doFind_of_good (s := s.taken n 0x0B img) number states isFound.symm)

end Sys2Proof.Machine
end

section
/-! ENROL (R10 to R13): its parameters, its checks and the derived fields of a new record. -/

namespace Sys2Proof.Machine

/-! ## The checks and the derived fields (R11, R12) -/

section
variable {x : Tool} {s : State}

theorem State.inService_iff : s.inService = true ↔ s.order.service = .service := by simp [State.inService]

theorem State.enrolCheck_of_fixed (place : (∃ p, x.location = .pocket p) ∨ ∃ c m, x.location = .cell c m)
    (service : s.order.service = .service) : s.enrolCheck x = some .wrongState := by
  unfold State.enrolCheck
  have running := State.inService_iff.mpr service
  rcases place with ⟨p, place⟩ | ⟨c, m, place⟩ <;> rw [place] <;> exact if_pos ⟨rfl, running⟩

theorem State.enrolCheck_of_movable
    (place : (∀ p, x.location ≠ .pocket p) ∧ (∀ c m, x.location ≠ .cell c m) ∨ s.order.service = .setup) :
    s.enrolCheck x =
      if (s.findTool x.number).isSome then some .toolExists
      else if 1024 ≤ s.tools.length then some .tableFull
      else match x.location with
        | .pocket p => if (s.pocket p).content.isSome ∨ (s.pocket p).claim.isSome then some .pocketTaken else none
        | .cell c m => if s.tools.any (fun y => y.occupies c m) then some .slotOccupied else none
        | .presetter =>
          if s.cycleBusy then some .stationBusy
          else if s.tools.any (fun y => y.location == .presetter) then some .stationOccupied
          else none
        | .loose => none := by
  unfold State.enrolCheck
  refine if_neg fun ⟨fixed, running⟩ => ?_
  rcases place with ⟨noPocket, noCell⟩ | setup
  · cases location : x.location with
    | pocket p => exact noPocket p location
    | cell c m => exact noCell c m location
    | _ => rw [location] at fixed; cases fixed
  · rw [State.inService_iff, setup] at running
    cases running

theorem Tool.state_enrolled_of_cell {c : CellNo} {m : Nat} (place : x.location = .cell c m) :
    x.enrolled.state = .out ∧ x.enrolled.last = some (c, m) ∧ x.enrolled.home = x.home := by
  have same : x.setFlags.location = x.location := rfl
  refine ⟨?_, ?_, ?_⟩
  · simp only [Tool.enrolled, Tool.derivedState, same, place]
  · simp only [Tool.enrolled, same, place]
  · simp only [Tool.enrolled, same, place]
    change (match x.home, Location.cell c m with
      | some h, _ => some h
      | none, .pocket p => some p
      | none, _ => none) = x.home
    cases x.home <;> rfl

theorem Tool.derivedState_of_away (away : ∀ c m, x.location ≠ .cell c m) : x.derivedState =
    if x.lifeEnded = true then .worn
    else if x.geometry = none then .unmeasured
    else if x.inTolerance = false then .quarantine
    else if ∃ p, x.location = .pocket p then .ready else .passed := by
  unfold Tool.derivedState
  simp only [Option.isNone_iff_eq_none]
  cases place : x.location with
  | cell c m => exact absurd place (away c m)
  | _ => simp

/-- The state of a new record that is no tool of a cell (R12). -/
theorem Tool.state_enrolled (away : ∀ c m, x.location ≠ .cell c m) : x.enrolled.last = none ∧ x.enrolled.state =
    if x.lifeLimit ≤ x.lifeUsed then .worn
    else if x.geometry = none then .unmeasured
    else if x.inTolerance = false then .quarantine
    else if ∃ p, x.location = .pocket p then .ready else .passed := by
  constructor
  · change (match x.location with | .cell c m => some (c, m) | _ => none) = none
    cases place : x.location with
    | cell c m => exact absurd place (away c m)
    | _ => rfl
  · have ended : decide (x.lifeLimit ≤ x.lifeUsed) = true ↔ x.lifeLimit ≤ x.lifeUsed := decide_eq_true_iff
    refine (Tool.derivedState_of_away (x := { x.setFlags with outOfTol := x.geometry.isSome && !x.inTolerance }) away).trans ?_
    exact if_congr ended rfl rfl

theorem Tool.home_enrolled {p : PocketNo} (place : x.location = .pocket p) : x.enrolled.home = some (x.home.getD p) := by
  have same : x.setFlags.location = x.location := rfl
  have home : x.setFlags.home = x.home := rfl
  simp only [Tool.enrolled, same, home, place]
  cases x.home <;> rfl

end

/-- Settles O24. -/
theorem enrolChecksAndDerivedState : Obligations.EnrolChecksAndDerivedState := by
  refine ⟨fun x s => ⟨State.enrolCheck_of_fixed, fun place => ?_⟩, fun x => ⟨rfl, rfl, rfl,
    fun c m place => Tool.state_enrolled_of_cell place, fun away => ?_, fun p place => Tool.home_enrolled place⟩⟩
  · rw [State.enrolCheck_of_movable place]
    refine ⟨fun known => if_pos known, fun unknown => ?_⟩
    rw [if_neg (by simp [unknown])]
    refine ⟨fun full => if_pos full, fun room => ?_⟩
    rw [if_neg (by omega)]
    refine ⟨fun p place => ?_, fun c m place => ?_, fun place => ?_, fun place => ?_⟩ <;> rw [place]
    · simp only [List.any_eq_true]
    · simp only [State.cycleBusy, List.any_eq_true, beq_iff_eq]
  · obtain ⟨last, state⟩ := Tool.state_enrolled away
    refine ⟨last, fun worn => by rw [state, if_pos worn], fun live => ?_⟩
    rw [state, if_neg (by omega)]
    refine ⟨fun absent => if_pos absent, fun measured => ?_⟩
    rw [if_neg (Option.isSome_iff_ne_none.mp measured)]
    refine ⟨fun outside => if_pos outside, fun inside p place => ?_, fun inside out => ?_⟩ <;> rw [if_neg (by simp [inside])]
    · exact if_pos ⟨p, place⟩
    · exact if_neg fun ⟨p, place⟩ => out p place

/-! ## The parameters (R10, R11) -/

section
variable {img : SlotImage}

theorem asFin_eq_some {n v : Nat} {i : Fin n} : asFin n v = some i ↔ v = i.val := by
  constructor
  · unfold asFin
    split
    · exact fun is => congrArg Fin.val (Option.some.inj is)
    · exact fun is => nomatch is
  · rintro rfl
    exact asFin_val i

theorem asFin_isSome {n v : Nat} : (asFin n v).isSome = true ↔ v < n := by
  unfold asFin
  split <;> simp [*]

theorem asCell_eq_some {a : Nat} {c : CellNo} : asCell a = some c ↔ a = c.val + 1 := by
  unfold asCell
  split
  · rename_i zero
    exact ⟨fun is => (nomatch is), fun is => absurd (zero.symm.trans is) (by omega)⟩
  · rename_i positive
    rw [asFin_eq_some]
    omega

/-- The place that a location field names (R10, R176). -/
theorem parLocation_eq_some {i : Nat} {loc : Location} : parLocation img i = some loc ↔
    (par1 img i = 0 ∧ ∃ p : PocketNo, par2 img (i + 1) = p.val ∧ loc = .pocket p) ∨
      (par1 img i = 1 ∧ ∃ c : CellNo, par1 img (i + 1) = c.val + 1 ∧ 1 ≤ par1 img (i + 2) ∧ par1 img (i + 2) ≤ 240 ∧
        loc = .cell c (par1 img (i + 2))) ∨
      (par1 img i = 2 ∧ loc = .presetter) ∨ (par1 img i = 3 ∧ loc = .loose) := by
  unfold parLocation
  generalize par1 img i = kind
  match kind with
  | 0 =>
    simp [Option.map_eq_some_iff, asFin_eq_some, eq_comm (a := loc)]
  | 1 =>
    simp only [Option.ite_none_right_eq_some, goodSlot_iff, Option.map_eq_some_iff, asCell_eq_some]
    constructor
    · rintro ⟨⟨low, high⟩, c, cell, rfl⟩
      exact .inr (.inl ⟨trivial, c, cell, low, high, rfl⟩)
    · rintro (⟨zero, -⟩ | ⟨-, c, cell, low, high, rfl⟩ | ⟨two, -⟩ | ⟨three, -⟩)
      · cases zero
      · exact ⟨⟨low, high⟩, c, cell, rfl⟩
      · cases two
      · cases three
  | 2 => simp [eq_comm]
  | 3 => simp [eq_comm]
  | kind + 4 => simp

theorem goodMeasure_iff {v : Int} : goodMeasure v = true ↔ -2097152 ≤ v ∧ v ≤ 2097151 := by
  simp [goodMeasure]

/-- The parameters beside the place, the unit and the percent are in their ranges (R10). -/
structure EnrolRanges (img : SlotImage) : Prop where
  number : par2 img 1 ≠ 0
  home : (par1 img 0).testBit 0 = true → par2 img 7 ≤ 511
  length : par4 img 9 ≤ 999999
  radius : par4 img 13 ≤ 999999
  geometry : (par1 img 0).testBit 1 = true → -2097152 ≤ parInt img 21 ∧ parInt img 21 ≤ 2097151 ∧
    -2097152 ≤ parInt img 25 ∧ parInt img 25 ≤ 2097151
  limit : 1 ≤ par2 img 30
  regrinds : par1 img 35 ≤ par1 img 36
  regrindMax : par1 img 36 ≤ 15

theorem enrolRanges_iff :
    (goodTool (par2 img 1) = true ∧ ((par1 img 0).testBit 0 → (asFin 512 (par2 img 7)).isSome) ∧ par4 img 9 ≤ 999999 ∧
      par4 img 13 ≤ 999999 ∧
      ((par1 img 0).testBit 1 → goodMeasure (parInt img 21) = true ∧ goodMeasure (parInt img 25) = true) ∧
      1 ≤ par2 img 30 ∧ par1 img 36 ≤ 15 ∧ par1 img 35 ≤ par1 img 36) ↔ EnrolRanges img := by
  simp only [goodTool, bne_iff_ne, asFin_isSome, goodMeasure_iff]
  constructor
  · rintro ⟨number, home, length, radius, geometry, limit, regrindMax, regrinds⟩
    exact ⟨number, fun bit => by have := home bit; omega, length, radius, fun bit => by have := geometry bit; omega, limit,
      regrinds, regrindMax⟩
  · rintro ⟨number, home, length, radius, geometry, limit, regrinds, regrindMax⟩
    exact ⟨number, fun bit => by have := home bit; omega, length, radius, fun bit => by have := geometry bit; omega, limit,
      regrindMax, regrinds⟩

/-- The record that the parameters give (R10). -/
theorem enrolParams_of_good {loc : Location} {unit : LifeUnit} {percent : Nat} (now : Stamp)
    (place : parLocation img 4 = some loc) (life : asUnit (par1 img 29) = some unit)
    (warn : asPercent (par1 img 32) = some percent) (ranges : EnrolRanges img) : enrolParams img now = some
      { number := par2 img 1, cls := par1 img 3, state := .unmeasured, stateBefore := none, claim := none
        location := loc, last := none, home := if (par1 img 0).testBit 0 then asFin 512 (par2 img 7) else none
        nominalLength := par4 img 9, nominalRadius := par4 img 13, lengthTol := par2 img 17
        radiusTol := par2 img 19
        geometry := optPar (par1 img 0) 1 { length := parInt img 21, radius := parInt img 25, stamp := now, generation := 0 }
        outOfTol := false, lifeUnit := unit, lifeLimit := par2 img 30, lifeUsed := par2 img 33
        warnPercent := percent, warningSent := false, lifeEnded := false, regrinds := par1 img 35
        regrindMax := par1 img 36, issueCount := par2 img 37 } := by
  unfold enrolParams
  rw [place, life, warn]
  exact if_pos (enrolRanges_iff.mpr ranges)

theorem enrolParams_isSome {now : Stamp} (given : (enrolParams img now).isSome = true) :
    (∃ loc, parLocation img 4 = some loc) ∧ par1 img 29 ≤ 1 ∧
      (par1 img 32 = 0 ∨ (50 ≤ par1 img 32 ∧ par1 img 32 ≤ 99)) ∧ EnrolRanges img := by
  unfold enrolParams at given
  cases place : parLocation img 4 with
  | none => rw [place] at given; cases given
  | some loc =>
    cases life : asUnit (par1 img 29) with
    | none => rw [place, life] at given; cases given
    | some unit =>
      cases warn : asPercent (par1 img 32) with
      | none => rw [place, life, warn] at given; cases given
      | some percent =>
        refine ⟨⟨loc, rfl⟩, ?_, ?_, ?_⟩
        · by_contra high
          rw [asUnit_eq_none (by omega)] at life
          cases life
        · by_contra outside
          rw [asPercent_eq_none (by omega)] at warn
          cases warn
        · rw [place, life, warn] at given
          by_contra bad
          dsimp only [Option.bind_eq_bind, Option.bind_some] at given
          rw [if_neg (mt enrolRanges_iff.mp bad)] at given
          cases given

end

/-! ## The work of ENROL (R11 to R13) -/

section
variable {img : SlotImage} {n : SlotNo} {s : State}

theorem doEnrol_of_none (none : enrolParams img s.clock = Option.none) : doEnrol img n s = s.refuse n .badParam := by
  unfold doEnrol
  rw [none]

variable {x : Tool} (params : enrolParams img s.clock = some x)
include params

theorem doEnrol_of_refused {st : Status} (check : s.enrolCheck x = some st) : doEnrol img n s = s.refuse n st := by
  unfold doEnrol
  rw [params]
  dsimp only
  rw [check]

theorem doEnrol_of_passed (check : s.enrolCheck x = none) : doEnrol img n s =
    ((s.modTools (putTool x.enrolled)).enrolPocket x.enrolled).complete n .ok
      (le 2 x.number ++ le 1 x.enrolled.state.code) := by
  unfold doEnrol
  rw [params]
  dsimp only
  rw [check]
  rfl

end

theorem State.enrolPocket_of_pocket {x : Tool} {p : PocketNo} (place : x.location = .pocket p) (s : State) :
    s.enrolPocket x.enrolled = s.changePocket p fun k =>
      { k with
        content := some x.number
        fault := if k.fault = .unknownItem ∧ k.sensor = .present then .clear else k.fault } := by
  have same : x.enrolled.location = .pocket p := place
  unfold State.enrolPocket
  rw [same]
  rfl

theorem State.enrolPocket_of_away {x : Tool} (away : ∀ p, x.location ≠ .pocket p) (s : State) : s.enrolPocket x.enrolled = s := by
  have same : x.enrolled.location = x.location := rfl
  unfold State.enrolPocket
  rw [same]
  split
  · exact absurd ‹_› (away _)
  · rfl

/-- Settles O23: the parameters, then the first check that fails, then the record put into the table. -/
theorem enrol : Obligations.Enrol := by
  intro img n s ok place good isPlace isGood
  have places (loc : Location) : place loc ↔ parLocation img 4 = some loc := by rw [isPlace, parLocation_eq_some]
  refine ⟨fun bad => exec_refuses ok (doEnrol_of_none ?_), fun loc unit home x isOk atPlace life homes isX => ?_⟩
  · by_contra given
    refine bad (isGood.mpr ?_)
    obtain ⟨⟨loc, located⟩, unit, percent, ranges⟩ := enrolParams_isSome (Option.isSome_iff_ne_none.mpr given)
    exact ⟨ranges.number, ⟨loc, (places loc).mpr located⟩, ranges.home, ranges.length, ranges.radius, ranges.geometry, unit,
      ranges.limit, percent, ranges.regrinds, ranges.regrindMax⟩
  · obtain ⟨number, -, homeRange, length, radius, geometry, -, limit, percent, regrinds, regrindMax⟩ := isGood.mp isOk
    have isHome : (if (par1 img 0).testBit 0 then asFin 512 (par2 img 7) else none) = home := by
      split at homes
      · rename_i present
        obtain ⟨p, isHome, value⟩ := Option.map_eq_some_iff.mp homes
        rw [if_pos present, isHome, ← value, asFin_val]
      · rename_i absent
        rw [if_neg absent, Option.map_eq_none_iff.mp homes]
    have warn : asPercent (par1 img 32) = some (if par1 img 32 = 0 then 90 else par1 img 32) := by
      refine asPercent_eq_some rfl ?_ ?_ <;> split <;> omega
    have params := enrolParams_of_good s.clock ((places loc).mp atPlace) (life ▸ asUnit_code unit) warn
      ⟨number, homeRange, length, radius, geometry, limit, regrinds, regrindMax⟩
    rw [isHome] at params
    have isX' : enrolParams img (s.taken n 0x08 img).clock = some x := isX ▸ params
    have sameLocation : x.location = loc := by rw [isX]
    refine ⟨fun st check => exec_refuses ok (doEnrol_of_refused isX' check), fun check => ?_⟩
    have work := doEnrol_of_passed (n := n) isX' check
    refine ⟨fun p isPocket => ?_, fun away => ?_⟩
    · rw [State.enrolPocket_of_pocket (sameLocation.trans isPocket)] at work
      exact exec_completes (k := .enrol) ok ok.1.2 work
    · rw [State.enrolPocket_of_away fun p isPocket => away p (sameLocation.symm.trans isPocket)] at work
      exact exec_completes (k := .enrol) ok ok.1.2 work

end Sys2Proof.Machine
end

section
/-! Claims and their release (R8, R9), requests made beside a slot taken (R36), and REMOVE (R14 to R16). -/

namespace Sys2Proof.Machine

/-! ## The release of a claim (R9) -/

section
variable {x y : Tool} {isReturn : Bool} {named : ToolState} {loc : Location}

theorem Tool.inTolerance_iff : x.inTolerance = true ↔ ∃ g, x.geometry = some g ∧
    (g.length - x.nominalLength).natAbs ≤ x.lengthTol ∧ (g.radius - x.nominalRadius).natAbs ≤ x.radiusTol := by
  unfold Tool.inTolerance
  cases x.geometry with
  | none => simp
  | some g => simp [Tool.sizesPass]

theorem Tool.meetsReady_iff : x.meetsReady = true ↔
    x.inTolerance = true ∧ x.lifeUsed < x.lifeLimit ∧ ∃ p, x.location = .pocket p := by
  unfold Tool.meetsReady
  cases x.location <;> simp

theorem Tool.release_astray (back : isReturn = false ∧ x.stateBefore = some .astray) :
    x.release isReturn named loc =
      { x with claim := none, stateBefore := none, state := .astray, location := .loose } := if_pos back

/-- A release that the first override does not take (R9). -/
theorem Tool.release_eq (free : ¬ (isReturn = false ∧ x.stateBefore = some .astray))
    (isY : y = { x with claim := none, stateBefore := none, location := loc, state := named }) :
    x.release isReturn named loc = if named = .ready ∧ y.meetsReady = false then y.insteadOfReady else y := by
  subst isY
  exact if_neg free

end

/-- The release of a claim by its two overrides (R9). -/
theorem Tool.release_cases (isReturn : Bool) (named : ToolState) (loc : Location) (x y : Tool)
    (isY : y = { x with claim := none, stateBefore := none, location := loc }) :
    (isReturn = false → x.stateBefore = some .astray →
      x.release isReturn named loc = { y with state := .astray, location := .loose }) ∧
    (isReturn = true ∨ x.stateBefore ≠ some .astray →
      (named ≠ .ready → x.release isReturn named loc = { y with state := named }) ∧
      (named = .ready →
        (x.lifeLimit ≤ x.lifeUsed → x.release isReturn named loc = { y with state := .worn }) ∧
        (x.lifeUsed < x.lifeLimit →
          (x.geometry = none → x.release isReturn named loc = { y with state := .unmeasured }) ∧
          (x.geometry.isSome = true → x.inTolerance = false →
            x.release isReturn named loc = { y with state := .quarantine, outOfTol := true }) ∧
          (x.inTolerance = true →
            (∀ p, loc = .pocket p → x.release isReturn named loc = { y with state := .ready }) ∧
            ((∀ p, loc ≠ .pocket p) → x.release isReturn named loc = { y with state := .passed }))))) := by
  refine ⟨fun back astray => by rw [Tool.release_astray ⟨back, astray⟩, isY], fun free => ?_⟩
  have notBack : ¬ (isReturn = false ∧ x.stateBefore = some .astray) := fun ⟨back, astray⟩ => by simp [back, astray] at free
  have released := Tool.release_eq (y := { y with state := named }) (x := x) (loc := loc) notBack (by rw [isY])
  have meets : ({ y with state := named } : Tool).meetsReady = true ↔
      x.inTolerance = true ∧ x.lifeUsed < x.lifeLimit ∧ ∃ p, loc = .pocket p := by
    rw [Tool.meetsReady_iff, isY]
    rfl
  refine ⟨fun other => released.trans (if_neg fun both => other both.1), ?_⟩
  rintro rfl
  have worse (fails : ¬ (x.inTolerance = true ∧ x.lifeUsed < x.lifeLimit ∧ ∃ p, loc = .pocket p)) :
      x.release isReturn .ready loc = ({ y with state := .ready } : Tool).insteadOfReady :=
    released.trans (if_pos ⟨rfl, Bool.eq_false_iff.mpr fun ready => fails (meets.mp ready)⟩)
  have life : y.lifeLimit = x.lifeLimit ∧ y.lifeUsed = x.lifeUsed := by rw [isY]; exact ⟨rfl, rfl⟩
  have geometry : y.geometry = x.geometry := by rw [isY]
  have tolerance : ({ y with state := .ready } : Tool).inTolerance = x.inTolerance := by rw [isY]; rfl
  refine ⟨fun worn => ?_, fun live => ⟨fun absent => ?_, fun measured outside => ?_, fun inside => ⟨fun p place => ?_,
    fun away => ?_⟩⟩⟩
  · rw [worse fun ready => by omega]
    exact if_pos (by rw [life.1, life.2]; exact worn)
  all_goals have notWorn : ¬ y.lifeLimit ≤ y.lifeUsed := by rw [life.1, life.2]; omega
  · have none : x.inTolerance = false := by rw [Tool.inTolerance, absent]
    rw [worse fun ready => by simp [none] at ready]
    exact (if_neg notWorn).trans (if_pos (by rw [geometry, absent]; rfl))
  · rw [worse fun ready => by simp [outside] at ready]
    refine (if_neg notWorn).trans ((if_neg ?_).trans (if_neg ?_))
    · rw [geometry]
      simpa using Option.isSome_iff_ne_none.mp measured
    · rw [tolerance, outside]
      simp
  · exact released.trans (if_neg fun both => by
      rw [meets.mpr ⟨inside, live, p, place⟩] at both
      simp at both)
  · rw [worse fun ready => ready.2.2.elim fun p place => away p place]
    refine (if_neg notWorn).trans ((if_neg ?_).trans (if_pos ?_))
    · rw [geometry]
      rw [Tool.inTolerance_iff] at inside
      obtain ⟨g, measured, -⟩ := inside
      simp [measured]
    · rw [tolerance, inside]

/-! ## Requests made beside a slot taken (R36) -/

section
variable (n : SlotNo) (kind : Nat) (img : SlotImage) (mv : Movement) (p : PocketNo) (tool : Option Nat) (owner : Owner) (s : State)

theorem State.placeRequest_taken : (s.taken n kind img).placeRequest mv p tool owner =
    ((s.placeRequest mv p tool owner).1.taken n kind img, (s.placeRequest mv p tool owner).2) := by
  unfold State.placeRequest
  dsimp only
  rw [apply_ite (State.taken n kind img)]
  rfl

theorem State.removalCheck_taken : (s.taken n kind img).removalCheck mv p = s.removalCheck mv p := rfl

theorem State.cribHasRoom_taken : (s.taken n kind img).cribHasRoom = s.cribHasRoom := rfl

theorem State.requestRemoval_taken : (s.taken n kind img).requestRemoval mv p owner =
    ((s.requestRemoval mv p owner).1.taken n kind img, (s.requestRemoval mv p owner).2) := by
  unfold State.requestRemoval
  rw [State.removalCheck_taken, State.cribHasRoom_taken, State.placeRequest_taken]
  cases s.removalCheck mv p with
  | some st => rfl
  | none => cases s.cribHasRoom <;> rfl

end

theorem State.cribHasRoom_iff {s : State} :
    s.cribHasRoom = true ↔ s.budgetCount < s.crib.lockBudget ∨ s.queuedCount < 16 := by
  unfold State.cribHasRoom
  exact (Bool.or_eq_true _ _).to_iff.trans (or_congr decide_eq_true_iff decide_eq_true_iff)

section
variable {s : State} {mv : Movement} {p : PocketNo} {owner : Owner}

theorem State.requestRemoval_of_denied {st : Status} (check : s.removalCheck mv p = some st) :
    s.requestRemoval mv p owner = (s, .denied st) := by
  unfold State.requestRemoval
  rw [check]

theorem State.requestRemoval_of_busy (check : s.removalCheck mv p = none) (full : s.cribHasRoom = false) :
    s.requestRemoval mv p owner = (s, .denied .cribBusy) := by
  unfold State.requestRemoval
  rw [check, full]
  rfl

theorem State.requestRemoval_of_room (check : s.removalCheck mv p = none) (room : s.cribHasRoom = true) :
    s.requestRemoval mv p owner =
      ((s.placeRequest mv p none owner).1, .made (s.placeRequest mv p none owner).2 p) := by
  unfold State.requestRemoval
  rw [check, room]
  rfl

theorem State.removalCheck_of_claimed (permits : (s.attributeOf p).permits mv = true)
    (claimed : (s.pocket p).claim.isSome = true) : s.removalCheck mv p = some .busy := by
  unfold State.removalCheck
  dsimp only
  rw [if_neg (by simp [permits]), if_pos claimed]

theorem State.removalCheck_of_stocked (permits : (s.attributeOf p).permits mv = true) (free : (s.pocket p).claim = none)
    (other : mv ≠ .clearOut) (stocked : (s.pocket p).stocked = true) : s.removalCheck mv p = none := by
  unfold State.removalCheck
  dsimp only
  rw [if_neg (by simp [permits]), if_neg (by simp [free]), if_neg other, if_pos stocked]

end

end Sys2Proof.Machine
end

section
/-! REMOVE (R14 to R16). -/

namespace Sys2Proof.Machine

theorem Tool.number_release (isReturn : Bool) (named : ToolState) (loc : Location) (x : Tool) :
    (x.release isReturn named loc).number = x.number := by
  unfold Tool.release Tool.insteadOfReady
  grind

theorem Attribute.permits_removeOut {a : Attribute} : a.permits .removeOut = false ↔ a = .closed := by
  cases a <;> simp [Attribute.permits]

/-! ## A claim taken and given back in one step (R8, R9) -/

section
variable {s : State} {t : Nat} {x : Tool} {owner : Owner}

theorem State.findTool_claimTool (found : s.findTool t = some x) :
    (s.claimTool t owner).findTool t = some (x.take owner) :=
  (State.modTool_of_found (f := Tool.take owner) (fun _ => rfl) found rfl).2.1

theorem State.findTool_claimTool_of_ne {m : Nat} (other : m ≠ t) : (s.claimTool t owner).findTool m = s.findTool m :=
  (State.findTool_modTool t m (Tool.take owner) s fun _ => rfl).trans (if_neg other)

theorem State.findTool_releaseBack (found : s.findTool t = some x) :
    (s.releaseBack t).findTool t = some (x.release false x.before x.location) :=
  (State.modTool_of_found (fun _ => Tool.number_release ..) found rfl).2.1

theorem State.findTool_releaseBack_of_ne {m : Nat} (other : m ≠ t) : (s.releaseBack t).findTool m = s.findTool m :=
  (State.findTool_modTool _ _ _ _ fun _ => Tool.number_release ..).trans (if_neg other)

theorem State.claimTool_taken (n : SlotNo) (kind : Nat) (img : SlotImage) (t : Nat) (owner : Owner) (s : State) :
    (s.taken n kind img).claimTool t owner = (s.claimTool t owner).taken n kind img := rfl

theorem State.releaseBack_taken (n : SlotNo) (kind : Nat) (img : SlotImage) (t : Nat) (s : State) :
    (s.taken n kind img).releaseBack t = (s.releaseBack t).taken n kind img := rfl

theorem State.findTool_claimTool_releaseBack (found : s.findTool t = some x) :
    ((s.claimTool t owner).releaseBack t).findTool t = some ((x.take owner).release false x.state x.location) :=
  State.findTool_releaseBack (State.findTool_claimTool found)

/-- A claim given back leaves the record as it was, but for a record ASTRAY and one READY that no longer meets its conditions. -/
theorem Tool.release_take (notAstray : x.state ≠ .astray) (ready : x.state = .ready → x.meetsReady = true) :
    (x.take owner).release false x.state x.location = { x with claim := none, stateBefore := none } := by
  have free : ¬ (false = false ∧ (x.take owner).stateBefore = some .astray) := by simp [Tool.take, notAstray]
  rw [Tool.release_eq free rfl]
  exact if_neg fun ⟨isReady, fails⟩ => Bool.false_ne_true (fails.symm.trans (ready isReady))

end

/-! ## The cases of REMOVE (R14, R15) -/

section
variable {img : SlotImage} {n : SlotNo} {s : State} {x : Tool} {p : PocketNo}

theorem doRemove_of_zero (zero : par2 img 0 = 0) : doRemove img n s = s.refuse n .badParam := if_pos (by simp [goodTool, zero])

section
variable (number : par2 img 0 ≠ 0)
include number

theorem doRemove_of_unknown (unknown : s.findTool (par2 img 0) = none) : doRemove img n s = s.refuse n .unknownTool := by
  unfold doRemove
  rw [if_neg (by simp [goodTool, number]), unknown]

variable (found : s.findTool (par2 img 0) = some x)
include found

theorem doRemove_of_claimed (claimed : x.state = .claimed) : doRemove img n s = s.refuse n .busy := by
  unfold doRemove
  rw [if_neg (by simp [goodTool, number]), found]
  exact if_pos claimed

variable (free : x.state ≠ .claimed)
include free

theorem doRemove_of_away (away : ∀ p, x.location ≠ .pocket p) :
    doRemove img n s = (s.dropTool (par2 img 0)).complete n .ok (removeResult (par2 img 0) x.state) := by
  unfold doRemove
  rw [if_neg (by simp [goodTool, number]), found]
  refine (if_neg free).trans ?_
  cases place : x.location with
  | pocket p => exact absurd place (away p)
  | _ => rfl

theorem doRemove_of_pocket (place : x.location = .pocket p) :
    doRemove img n s = if s.inService then s.removeFromPocket n (par2 img 0) p
      else ((s.dropTool (par2 img 0)).changePocket p fun k => { k with content := none }).complete n .ok
        (removeResult (par2 img 0) x.state) := by
  unfold doRemove
  rw [if_neg (by simp [goodTool, number]), found]
  refine (if_neg free).trans ?_
  rw [place]

end

variable {t num : Nat} {u : State} {st : Status}

theorem State.removeFromPocket_of_notStocked (bare : (s.pocket p).stocked = false) :
    s.removeFromPocket n t p = s.refuse n .notStocked := if_pos bare

section
variable (stocked : (s.pocket p).stocked = true)
include stocked

theorem State.removeFromPocket_of_closed (closed : s.attributeOf p = .closed) :
    s.removeFromPocket n t p = s.refuse n .drawerDenies :=
  (if_neg (by simp [stocked])).trans (if_pos (Attribute.permits_removeOut.mpr closed))

variable (opens : s.attributeOf p ≠ .closed)
include opens

theorem State.removeFromPocket_of_made
    (made : (s.claimTool t (.slot n)).requestRemoval .removeOut p (.slot n) = (u, .made num p)) :
    s.removeFromPocket n t p = u.setWork n (.remove t num) := by
  unfold State.removeFromPocket
  rw [if_neg (by simp [stocked]), if_neg fun denied => opens (Attribute.permits_removeOut.mp denied), made]

theorem State.removeFromPocket_of_denied
    (denied : (s.claimTool t (.slot n)).requestRemoval .removeOut p (.slot n) = (u, .denied st)) :
    s.removeFromPocket n t p = (u.releaseBack t).refuse n st := by
  unfold State.removeFromPocket
  rw [if_neg (by simp [stocked]), if_neg fun denied => opens (Attribute.permits_removeOut.mp denied), denied]

/-- A stocked pocket of a drawer that opens denies a REMOVE for another request's claim, or for want of room (R15, R36). -/
theorem State.requestRemoval_removeOut
    (why : st = .busy ∧ (s.pocket p).claim.isSome = true ∨
      st = .cribBusy ∧ (s.pocket p).claim = none ∧ s.crib.lockBudget ≤ s.budgetCount ∧ 16 ≤ s.queuedCount) :
    s.requestRemoval .removeOut p owner = (s, .denied st) := by
  have permits : (s.attributeOf p).permits .removeOut = true := by
    cases allowed : (s.attributeOf p).permits .removeOut with
    | false => exact absurd (Attribute.permits_removeOut.mp allowed) opens
    | true => rfl
  rcases why with ⟨rfl, claimed⟩ | ⟨rfl, unclaimed, budget, queue⟩
  · exact State.requestRemoval_of_denied (State.removalCheck_of_claimed permits claimed)
  · refine State.requestRemoval_of_busy (State.removalCheck_of_stocked permits unclaimed (nofun) stocked) ?_
    rw [Bool.eq_false_iff]
    intro room
    have := State.cribHasRoom_iff.mp room
    omega

end

end

/-- REMOVE of a tool in no pocket, or in a pocket in SETUP: its record goes, and with it the pocket's content. -/
theorem exec_remove_of_dropped {img : SlotImage} {n : SlotNo} {s u : State} {x : Tool} (ok : s.accepts .remove img n)
    (alone : u.order.formedNow = [])
    (done : doRemove img n (s.taken n 0x09 img) =
      (u.taken n 0x09 img).complete n .ok (removeResult (par2 img 0) x.state)) :
    exec (.remove img) s =
      .next (State.answered n 0x09 img .ok (le 2 (par2 img 0) ++ le 1 x.state.code) [] u) :=
  exec_completes (k := .remove) ok alone done

/-- Settles O25: claims and their release by the cases of R9, and REMOVE by the cases of its work. -/
theorem remove : Obligations.Remove := by
  unfold Obligations.Remove
  refine ⟨fun x owner => rfl, fun isReturn named loc x y inTolerance isY means => ?_, fun img n s ok => ⟨fun zero => ?_,
    fun number unknown => ?_, fun x number found => ⟨fun claimed => ?_, fun free => ⟨fun away => ?_, fun p place =>
      ⟨fun setup => ?_, fun service => ⟨fun bare => ?_, fun stocked closed => ?_, fun stocked opens =>
        ⟨fun u num made => ?_, fun st why => ?_⟩⟩⟩⟩⟩⟩⟩
  · have within : inTolerance ↔ x.inTolerance = true := means.trans Tool.inTolerance_iff.symm
    simp only [within, Bool.not_eq_true]
    exact Tool.release_cases isReturn named loc x y isY
  · exact exec_refuses (k := .remove) ok (doRemove_of_zero zero)
  · exact exec_refuses (k := .remove) ok (doRemove_of_unknown number unknown)
  · exact exec_refuses (k := .remove) ok (doRemove_of_claimed (s := s.taken n 0x09 img) number found claimed)
  · exact exec_remove_of_dropped ok ok.1.2 (doRemove_of_away (s := s.taken n 0x09 img) number found free away)
  · have work := doRemove_of_pocket (n := n) (s := s.taken n 0x09 img) number found free place
    rw [if_neg (by rw [State.inService_iff]; exact fun running => nomatch setup.symm.trans running)] at work
    exact exec_remove_of_dropped ok ok.1.2 work
  all_goals
    have work := doRemove_of_pocket (n := n) (s := s.taken n 0x09 img) number found free place
    rw [if_pos (State.inService_iff (s := s.taken n 0x09 img) |>.mpr service)] at work
  · exact exec_refuses (k := .remove) ok (work.trans (State.removeFromPocket_of_notStocked bare))
  · exact exec_refuses (k := .remove) ok (work.trans (State.removeFromPocket_of_closed stocked closed))
  · have alone : u.order.formedNow = [] := by
      have keeps := (State.requestRemoval_frame .removeOut p (.slot n) (s.claimTool (par2 img 0) (.slot n))).2.1
      rw [made] at keeps
      rw [keeps]
      exact ok.1.2
    have madeToo := State.requestRemoval_taken n 0x09 img .removeOut p (.slot n) (s.claimTool (par2 img 0) (.slot n))
    rw [made, ← State.claimTool_taken] at madeToo
    exact exec_starts (k := .remove) ok alone
      (work.trans (State.removeFromPocket_of_made (s := s.taken n 0x09 img) (p := p) stocked opens madeToo))
  · have denied := State.requestRemoval_removeOut (s := s.claimTool (par2 img 0) (.slot n)) (owner := .slot n) stocked opens why
    refine ⟨(s.claimTool (par2 img 0) (.slot n)).releaseBack (par2 img 0), ?_, rfl, fun m other => ?_,
      State.findTool_claimTool_releaseBack found, fun notAstray ready => ?_⟩
    · have deniedToo := State.requestRemoval_taken n 0x09 img .removeOut p (.slot n) (s.claimTool (par2 img 0) (.slot n))
      rw [denied, ← State.claimTool_taken] at deniedToo
      have refused := State.removeFromPocket_of_denied (s := s.taken n 0x09 img) (p := p) stocked opens deniedToo
      rw [State.claimTool_taken, State.releaseBack_taken] at refused
      exact exec_completes (k := .remove) ok ok.1.2 (work.trans refused)
    · rw [State.findTool_releaseBack_of_ne other, State.findTool_claimTool_of_ne other]
    · rw [State.findTool_claimTool_releaseBack found, Tool.release_take notAstray ready]

end Sys2Proof.Machine
end

section
/-! A link frame written on the line and read back (R84, R85). -/

namespace Sys2Proof.Machine

/-! ## Bits and bytes (R85) -/

@[simp] theorem length_natBits (n v : Nat) : (natBits n v).length = n := by
  induction n with
  | zero => rfl
  | succ n ih => rw [natBits, List.length_cons, ih]

/-- Bits read on from a value already read: the value moves up by their number. -/
theorem foldl_natBits (n v : Nat) : ∀ a,
    (natBits n v).foldl (fun (v : Nat) (b : Bool) => 2 * v + b.toNat) a = a * 2 ^ n + v % 2 ^ n := by
  induction n with
  | zero => intro a; simp [natBits, Nat.mod_one]
  | succ n ih =>
    intro a
    rw [natBits, List.foldl_cons, ih, Nat.mod_pow_succ, Nat.toNat_testBit, Nat.pow_succ]
    ring

theorem bitsNat_natBits {n v : Nat} (fits : v < 2 ^ n) : bitsNat (natBits n v) = v :=
  (foldl_natBits n v 0).trans (by rw [Nat.zero_mul, Nat.zero_add, Nat.mod_eq_of_lt fits])

theorem length_payloadBits (bytes : List Byte) : (payloadBits bytes).length = 8 * bytes.length := by
  induction bytes with
  | nil => rfl
  | cons b bytes ih => rw [payloadBits, List.flatMap_cons, List.length_append, length_natBits, ← payloadBits, ih,
      List.length_cons]; omega

/-- Payload bytes read back from their bits, whatever follows them. -/
theorem bitsBytes_payloadBits (bytes : List Byte) (rest : List Bool) :
    bitsBytes bytes.length (payloadBits bytes ++ rest) = bytes := by
  induction bytes with
  | nil => rfl
  | cons b bytes ih =>
    have front : payloadBits (b :: bytes) ++ rest = natBits 8 b.toNat ++ (payloadBits bytes ++ rest) := by
      rw [payloadBits, List.flatMap_cons, List.append_assoc, payloadBits]
    rw [List.length_cons, bitsBytes, front, List.take_left' (length_natBits ..), List.drop_left' (length_natBits ..), ih,
      bitsNat_natBits b.isLt, BitVec.ofNat_toNat, BitVec.setWidth_eq]

/-! ## Stuffing (R84) -/

theorem unstuffFrom_stuffFrom (bits : List Bool) : ∀ level run,
    unstuffFrom level run (stuffFrom level run bits) = some bits := by
  induction bits with
  | nil =>
    intro level run
    by_cases full : run = 5 <;> simp [stuffFrom, unstuffFrom, full]
  | cons b bits ih =>
    intro level run
    by_cases full : run = 5 <;> simp [stuffFrom, unstuffFrom, full, ih]

theorem unstuff_stuff (bits : List Bool) : unstuff (stuff bits) = some bits := unstuffFrom_stuffFrom bits true 0

/-! ## The fields of a frame (R85) -/

section
variable (f : LinkFrame)

theorem LinkFrame.length_body : f.body.length = 22 + 8 * f.payload.length := by
  simp only [LinkFrame.body, List.length_append, length_natBits, length_payloadBits]

/-- Header, payload and check after the start bit, as a receiver divides them. -/
theorem readBody_fields (fits : f.wf = true) : readBody (f.body ++ natBits 16 (crc f.body).toNat) = some f := by
  obtain ⟨⟨⟨⟨cls, source⟩, dest⟩, kind⟩, length⟩ : (((f.cls < 4 ∧ f.source < 32) ∧ f.dest < 32) ∧ f.kind < 32) ∧
      f.payload.length ≤ 24 := by simpa [LinkFrame.wf] using fits
  generalize isBits : f.body ++ natBits 16 (crc f.body).toNat = bits
  have clsBits : bits.take 2 = natBits 2 f.cls := by simp [← isBits, LinkFrame.body, natBits]
  have sourceBits : (bits.drop 2).take 5 = natBits 5 f.source := by simp [← isBits, LinkFrame.body, natBits]
  have destBits : (bits.drop 7).take 5 = natBits 5 f.dest := by simp [← isBits, LinkFrame.body, natBits]
  have kindBits : (bits.drop 12).take 5 = natBits 5 f.kind := by simp [← isBits, LinkFrame.body, natBits]
  have lengthBits : (bits.drop 17).take 5 = natBits 5 f.payload.length := by simp [← isBits, LinkFrame.body, natBits]
  have payload : bits.drop 22 = payloadBits f.payload ++ natBits 16 (crc f.body).toNat := by
    rw [← isBits]
    simp [LinkFrame.body, natBits]
  have body : bits.take (22 + 8 * f.payload.length) = f.body := by
    rw [← isBits, List.take_left' f.length_body]
  have check : bits.drop (22 + 8 * f.payload.length) = natBits 16 (crc f.body).toNat := by
    rw [← isBits, List.drop_left' f.length_body]
  have readLength : bitsNat ((bits.drop 17).take 5) = f.payload.length := by
    rw [lengthBits, bitsNat_natBits (by omega)]
  unfold readBody
  simp only [readLength]
  rw [body, check, clsBits, sourceBits, destBits, kindBits, payload, bitsBytes_payloadBits, bitsNat_natBits (n := 2) cls,
    bitsNat_natBits (n := 5) source, bitsNat_natBits (n := 5) dest, bitsNat_natBits (n := 5) kind,
    bitsNat_natBits (crc f.body).isLt]
  exact if_pos ⟨length, length_natBits .., f.length_body, rfl⟩

theorem parseLine_line (fits : f.wf = true) : parseLine f.line = some f := by
  have started : unstuff f.line = some (false :: (f.body ++ natBits 16 (crc f.body).toNat)) := unstuff_stuff f.bits
  unfold parseLine
  rw [started]
  exact readBody_fields f fits

theorem LinkFrame.length_bits : f.bits.length = 39 + 8 * f.payload.length := by
  rw [LinkFrame.bits, List.cons_append, List.length_cons, List.length_append, f.length_body, length_natBits]
  omega

end

/-- Settles O57: the stuffing and each field of the frame are read back as they were written. -/
theorem frameRoundTrip : Obligations.FrameRoundTrip := by
  unfold Obligations.FrameRoundTrip
  intro f fits
  refine ⟨parseLine_line f fits, fun acknowledged => rfl, ?_⟩
  rw [f.length_bits]
  simp only [ackField, endField, List.length_cons, List.length_nil, List.length_replicate]
  omega

end Sys2Proof.Machine
end

section
/-! A frame received on the link (R84, R90, R91). -/

namespace Sys2Proof.Machine

theorem State.gateAdmits_iff {s : State} {kind : Nat} : s.gateAdmits kind = true ↔ s.order.service = .service ∧
    (s.reports.stalled = true → kind = 0x11 ∨ kind = 0x12 ∨ kind = 0x13 ∨ kind = 0x17) := by
  unfold State.gateAdmits isAnswerKind
  rw [Bool.and_eq_true, State.inService_iff]
  refine and_congr_right fun _ => ?_
  cases s.reports.stalled <;> simp [or_assoc]

theorem State.acknowledges_iff {s : State} {c : CellNo} {f : LinkFrame} : s.acknowledges c f = true ↔
    f.dest = 0 ∧ s.link.state = .active ∧ (s.cell c).enabled = true ∧
      cellFrameLength f.kind = some f.payload.length ∧ ((s.cell c).standing = .cutOff → f.kind = 0x17) ∧
      s.link.rx.length < 8 ∧ s.order.service = .service ∧
      (s.reports.stalled = true → f.kind = 0x11 ∨ f.kind = 0x12 ∨ f.kind = 0x13 ∨ f.kind = 0x17) := by
  have standing : ((s.cell c).standing != .cutOff || f.kind == 0x17) = true ↔
      ((s.cell c).standing = .cutOff → f.kind = 0x17) := by
    rw [Bool.or_eq_true, bne_iff_ne, beq_iff_eq, imp_iff_not_or]
  have room : decide (s.link.rx.length < Config.maxRxFrames) = true ↔ s.link.rx.length < 8 := decide_eq_true_iff
  simp only [State.acknowledges, Bool.and_eq_true, standing, State.gateAdmits_iff, beq_iff_eq, room, LinkFrame.known,
    and_assoc]

section
variable {line : List Bool} {s : State} {f : LinkFrame} {c : CellNo}

theorem execFrameReceived_of_none (unread : parseLine line = none) :
    execFrameReceived line s = .next (s.driveSlot false) := by
  unfold execFrameReceived
  rw [unread]

theorem execFrameReceived_of_foreign (read : parseLine line = some f) (foreign : asCell f.source = none) :
    execFrameReceived line s = .next (s.driveSlot false) := by
  unfold execFrameReceived
  rw [read]
  dsimp only
  rw [foreign]

theorem execFrameReceived_of_cell (read : parseLine line = some f) (source : asCell f.source = some c) :
    execFrameReceived line s =
      if s.acknowledges c f then .next ((s.receive c f).driveSlot true) else .next (s.driveSlot false) := by
  unfold execFrameReceived
  rw [read]
  dsimp only
  rw [source]

end

/-- Settles O47: the frame is taken or dropped by the conditions of R90 and R91. -/
theorem frameReceived : Obligations.FrameReceived := by
  unfold Obligations.FrameReceived
  rintro line s dropped rfl
  refine ⟨execFrameReceived_of_none, fun f read => ⟨fun foreign => ?_, fun c good source means => ?_⟩⟩
  · exact execFrameReceived_of_foreign read (asCell_eq_none foreign)
  · have taken := execFrameReceived_of_cell (s := s) (c := c) read (by rw [source, asCell_addr])
    rw [← State.acknowledges_iff] at means
    refine ⟨fun isGood => ⟨(s.receive c f).driveSlot true, taken.trans (if_pos (means.mp isGood)), ?_, fun idle => ?_, rfl⟩,
      fun bad => taken.trans (if_neg fun acks => bad (means.mpr acks))⟩
    · exact Bool.or_true _
    · have attempt : ((s.receive c f).driveSlot true).link.attempt = none := idle
      rw [State.drivenLevels, attempt]
      rfl

end Sys2Proof.Machine
end

section
/-! A report handed to the Report Writer (R199, R201, R202). -/

namespace Sys2Proof.Machine

theorem modLast_append (f : Report → Report) (first : List Report) (last : Report) :
    modLast f (first ++ [last]) = first ++ [f last] := by
  induction first with
  | nil => rfl
  | cons r first ih =>
    cases first with
    | nil => rfl
    | cons x xs => exact congrArg (r :: ·) ih

/-- A report joins the hold queue HELD when it cannot be written at once (R199). -/
theorem State.held_iff (s : State) : (!s.reports.hold.isEmpty || s.reports.credit == 0 || !s.canAccess) =
    decide (s.reports.hold ≠ [] ∨ s.reports.credit = 0 ∨ s.order.portEnable = false ∨ s.order.halted = true) := by
  rw [Bool.eq_iff_iff, decide_eq_true_iff]
  simp only [State.canAccess, Bool.or_eq_true, Bool.not_eq_true', Bool.and_eq_false_iff, beq_iff_eq, or_assoc, Bool.not_eq_false',
    List.isEmpty_eq_false_iff, ne_eq]

/-- A CRIB_STATE entering STALL while no broadcast is on the line (R100, R202). -/
theorem State.enterStall_eq {s : State} (idle : ∀ a, s.link.attempt = some a → a.buffer ≠ 0) :
    s.enterStall =
      { s with
        reports := { s.reports with stalled := true }
        order := { s.order with cauStall := true }
        link :=
          { s.link with
            buffer0 := some { service := s.order.service, hold := s.link.holdTime }, broadcastTimer := none
            holdTimer := if s.link.holdTime = 0 then none else some s.link.holdTime } } := by
  have free : (s.link.attempt.any fun a => a.buffer == 0) = false := by
    cases attempt : s.link.attempt with
    | none => rfl
    | some a => simpa using idle a attempt
  unfold State.enterStall State.placeCribState
  simp only [State.modReports, State.modOrder, State.modLink, free, startTimer, if_true, Bool.false_eq_true, if_false]
  rfl

section
variable {r : Report} {s : State} {q : List Report}

/-- The queue with a report at its end, as R199 lets it join. -/
theorem State.handReport_of_room (room : s.reports.hold.length < 16) (isQueue : q = s.reports.hold ++
      [{ r with
         stamp := s.clock
         held := decide (s.reports.hold ≠ [] ∨ s.reports.credit = 0 ∨ s.order.portEnable = false ∨
           s.order.halted = true) }]) :
    s.handReport r =
      if 12 ≤ s.reports.hold.length + 1 ∧ s.reports.stalled = false then
        ({ s with reports := { s.reports with hold := q } } : State).enterStall
      else { s with reports := { s.reports with hold := q } } := by
  rw [isQueue, ← State.held_iff]
  exact if_pos room

theorem State.handReport_of_full {first : List Report} {last : Report} (isHold : s.reports.hold = first ++ [last])
    (full : 15 ≤ first.length) :
    s.handReport r = { s with reports := { s.reports with hold := first ++
      [Report.absorb { r with stamp := s.clock, held := !s.reports.hold.isEmpty || s.reports.credit == 0 || !s.canAccess } last] } } := by
  have length : ¬ s.reports.hold.length < Config.holdCapacity := by
    rw [isHold, List.length_append, List.length_singleton]
    show ¬ _ < 16
    omega
  rw [← modLast_append, ← isHold]
  exact if_neg length

end

/-- Settles O56: the report joins the queue, with the entry into STALL at the twelfth, or is absorbed into the last entry. -/
theorem reportHandedOver : Obligations.ReportHandedOver := by
  unfold Obligations.ReportHandedOver
  refine fun r s => ⟨fun room q isQueue => ⟨fun below => ?_, fun running high idle => ?_⟩, fun first last isHold full =>
    ⟨_, State.handReport_of_full isHold full, fun kinds stamp merged => ?_, fun bytes plain => ?_⟩⟩
  · rw [State.handReport_of_room room isQueue, if_neg]
    rintro ⟨high, running⟩
    rcases below with stalled | low
    · exact Bool.false_ne_true (running.symm.trans stalled)
    · omega
  · rw [State.handReport_of_room room isQueue, if_pos ⟨by omega, running⟩]
    exact State.enterStall_eq idle
  · simp only [Report.absorb, merged, addKind]
  · have empty : addKind 0 last.kind = 1#16 <<< last.kind.code := BitVec.zero_or
    simp only [Report.absorb, plain, empty]
    rfl

end Sys2Proof.Machine
end

section
/-! HOME (R52, R63). -/

namespace Sys2Proof.Machine

/-! ## The axis set (R52) -/

theorem asAxisSet_eq_none {v : Nat} (bad : v = 0 ∨ 3 < v) : asAxisSet v = none := by
  match v, bad with
  | 0, _ => rfl
  | _ + 4, _ => rfl

theorem asAxisSet_code (axes : AxisSet) (named : axes.z = true ∨ axes.x = true) : asAxisSet axes.code = some axes := by
  obtain ⟨z, x⟩ := axes
  cases z <;> cases x
  · simp at named
  all_goals rfl

theorem State.anyHoming_iff {s : State} {axes : AxisSet} :
    s.anyHoming axes = true ↔ ∃ a, axes.names a = true ∧ (s.axis a).state = .homing := by
  simp only [State.anyHoming, Bool.or_eq_true, Bool.and_eq_true, beq_iff_eq]
  constructor
  · rintro (z | x)
    · exact ⟨.z, z⟩
    · exact ⟨.x, x⟩
  · rintro ⟨a, named⟩
    cases a with
    | z => exact .inl named
    | x => exact .inr named

/-! ## A reference lost beside a slot taken (R63) -/

theorem State.loseReference_of_none {s : State} {cause : Nat} {axes : AxisSet} (absent : s.presetter.reference = none) :
    s.loseReference cause axes = s := by
  unfold State.loseReference
  rw [absent]

theorem State.loseReference_of_some {s : State} {cause : Nat} {axes : AxisSet} {r : Reference}
    (present : s.presetter.reference = some r) :
    s.loseReference cause axes = (s.modPresetter fun p => { p with reference := none }).handReport
      { Report.blank .referenceLost with
        code := cause
        detail := .plain (le 1 axes.code ++ le 2 r.generation ++ le 2 r.uses ++ s.presetter.axes.bytes) } := by
  unfold State.loseReference
  rw [present]

theorem State.loseReference_taken (n : SlotNo) (kind : Nat) (img : SlotImage) (cause : Nat) (axes : AxisSet) (s : State) :
    (s.taken n kind img).loseReference cause axes = (s.loseReference cause axes).taken n kind img := by
  cases reference : s.presetter.reference with
  | none => rw [State.loseReference_of_none reference, State.loseReference_of_none (s := s.taken n kind img) reference]
  | some r =>
    rw [State.loseReference_of_some reference, State.loseReference_of_some (s := s.taken n kind img) reference,
      ← State.handReport_taken]
    rfl

theorem State.handReport_modPresetter (f : Presetter → Presetter) (r : Report) (s : State) :
    (s.modPresetter f).handReport r = (s.handReport r).modPresetter f := by
  unfold State.handReport
  dsimp only
  rw [apply_ite (State.modPresetter f), apply_ite (State.modPresetter f)]
  rfl

theorem State.loseReference_eq {s u : State} {cause : Nat} {axes : AxisSet} (keeps : s.presetter.reference = none → u = s)
    (loses : ∀ r, s.presetter.reference = some r → u = s.handReport
      { Report.blank .referenceLost with
        code := cause
        detail := .plain (le 1 axes.code ++ le 2 r.generation ++ le 2 r.uses ++ s.presetter.axes.bytes) }) :
    s.loseReference cause axes = u.modPresetter fun p => { p with reference := none } := by
  cases reference : s.presetter.reference with
  | none =>
    have same : ({ s.presetter with reference := none } : Presetter) = s.presetter := by rw [← reference]
    rw [State.loseReference_of_none reference, keeps reference, State.modPresetter, same]
  | some r => rw [State.loseReference_of_some reference, State.handReport_modPresetter, loses r reference]

/-! ## The cases of HOME (R52) -/

section
variable {img : SlotImage} {n : SlotNo} {s : State} {axes : AxisSet}

theorem doHome_of_bad (bad : asAxisSet (par1 img 0) = none) : doHome img n s = s.refuseHome n .badParam := by
  unfold doHome
  rw [bad]

theorem doHome_of_axes (named : asAxisSet (par1 img 0) = some axes) : doHome img n s =
    if s.cycleBusy then s.refuseHome n .stationBusy
    else if s.anyHoming axes then s.refuseHome n .busy
    else ((s.loseReference 1 axes).startHoming axes).setWork n
      (.home axes s.presetter.z.state s.presetter.x.state (1000 * s.presetter.homeWindow)) := by
  unfold doHome
  rw [named]

theorem exec_home_of_refused {st : Status} (ok : s.accepts .home img n)
    (refused : doHome img n (s.taken n 0x0E img) = (s.taken n 0x0E img).refuseHome n st) :
    exec (.home img) s = .next (s.answered n 0x0E img st (le 2 0 ++ s.presetter.axes.bytes) []) :=
  exec_completes (k := .home) ok ok.1.2 refused

end

/-- Settles O29: the refusals of HOME in their order, and its start. -/
theorem homeOrder : Obligations.HomeOrder := by
  unfold Obligations.HomeOrder
  refine fun img n s ok => ⟨fun bad => ?_, fun axes code named => ?_⟩
  · exact exec_home_of_refused ok (doHome_of_bad (asAxisSet_eq_none bad))
  have work := doHome_of_axes (n := n) (s := s.taken n 0x0E img) (by rw [code, asAxisSet_code axes named])
  refine ⟨fun busy => ?_, fun idle homing => ?_, fun idle rest u keeps loses => ?_⟩
  · exact exec_home_of_refused ok (work.trans (if_pos busy))
  all_goals
    have idleNow : ¬ (s.taken n 0x0E img).cycleBusy = true := by
      show ¬ s.presetter.cycle.isSome = true
      rw [idle]
      exact Bool.false_ne_true
    rw [if_neg idleNow] at work
  · exact exec_home_of_refused ok (work.trans (if_pos (State.anyHoming_iff.mpr homing)))
  · have nowhere : ¬ (s.taken n 0x0E img).anyHoming axes = true := fun homing =>
      have ⟨a, isNamed, isHoming⟩ := State.anyHoming_iff.mp homing
      rest a isNamed isHoming
    have ⟨presetter, alone⟩ : u.presetter = s.presetter ∧ u.order.formedNow = [] := by
      cases reference : s.presetter.reference with
      | none =>
        rw [keeps reference]
        exact ⟨rfl, ok.1.2⟩
      | some r =>
        rw [loses r reference, State.formedNow_handReport]
        exact ⟨(State.handReport_frame _ s).2.2.2.1, ok.1.2⟩
    rw [if_neg nowhere, State.loseReference_taken, State.loseReference_eq keeps loses] at work
    refine exec_starts (k := .home) ok alone (work.trans (congrArg (State.setWork n
      (.home axes s.presetter.z.state s.presetter.x.state (1000 * s.presetter.homeWindow))) ?_))
    rw [← presetter]
    rfl

end Sys2Proof.Machine
end

section
/-! Orders that end in the step that started them, the start of a cycle and the soft limits (R54, R58, R59), and CALIBRATE (R64). -/

namespace Sys2Proof.Machine

/-! ## An order started (R180) -/

/-- The context of an order under way. -/
def startedContext (kind : Nat) (img : SlotImage) (work : Work) : Context := { newContext kind img with work := work, long := true }

section
variable {k : OrderKind} {img : SlotImage} {n : SlotNo} {s u : State} {st : Status}

theorem State.slot_started (n : SlotNo) (kind : Nat) (img : SlotImage) (work : Work) (s : State) :
    (s.started n kind img work).slot n = { state := .taken, context := some (startedContext kind img work) } :=
  (get_set ..).trans (if_pos rfl)

theorem State.work_started (n : SlotNo) (kind : Nat) (img : SlotImage) (work : Work) (s : State) :
    (s.started n kind img work).work n = work :=
  State.work_of_context (c := startedContext kind img work) (by rw [State.slot_started])

/-- An order whose work ends it in the step that started it. -/
theorem exec_ends {work : Work} {result buffer : List Byte} (ok : s.accepts k img n) (alone : u.order.formedNow = [])
    (done : orderWork k img n (s.taken n k.code img) = (u.started n k.code img work).completeWith n st result buffer) :
    exec (orderCommand k img) s = .next (State.ended n st result buffer (u.started n k.code img work)) := by
  have context : ((u.started n k.code img work).slot n).context = some (startedContext k.code img work) := by
    rw [State.slot_started]
  have settled := State.settle_completeWith st result buffer context rfl alone
  rw [exec_orderCommand, State.takeOrder_accepted _ ok, done, settled]

theorem exec_runs_on {work : Work} (ok : s.accepts k img n) (alone : u.order.formedNow = [])
    (started : orderWork k img n (s.taken n k.code img) = u.started n k.code img work) :
    exec (orderCommand k img) s = .next (u.started n k.code img work) :=
  exec_starts ok alone (started.trans (State.setWork_taken ..).symm)

end

/-! ## The start of a cycle (R58) -/

theorem State.startCycle_eq (n : SlotNo) (s : State) : s.startCycle n = { s with presetter := s.presetter.withCycle n } := by
  unfold State.startCycle State.modPresetter Presetter.withCycle
  cases seated : s.presetter.seated with
  | false => simp only [seated, if_false, Bool.false_eq_true]
  | true =>
    simp only [seated, if_true]
    rfl

theorem State.startCycle_started (n m : SlotNo) (kind : Nat) (img : SlotImage) (work : Work) (s : State) :
    (s.started n kind img work).startCycle m = ({ s with presetter := s.presetter.withCycle m } : State).started n kind img work :=
  State.startCycle_eq ..

theorem State.modPresetter_started (n : SlotNo) (kind : Nat) (img : SlotImage) (work : Work) (f : Presetter → Presetter)
    (s : State) : (s.started n kind img work).modPresetter f = (s.modPresetter f).started n kind img work := rfl

theorem Presetter.withCycle_of_seated {p : Presetter} {n : SlotNo} (seated : p.seated = true) : p.withCycle n =
    { p with
      z := { p.z with captures := [], bounce := none }, x := { p.x with captures := [], bounce := none }
      cycle := some { state := .touch, owner := n, seatTimer := none, touchTimer := some (1000 * p.touchWindow)
                      seatLength := p.seatWindow, touchLength := p.touchWindow, touches := p.touches
                      spreadLimit := p.spreadLimit } } := if_pos seated

theorem Presetter.withCycle_of_unseated {p : Presetter} {n : SlotNo} (unseated : p.seated = false) : p.withCycle n =
    { p with
      cycle := some { state := .seat, owner := n, seatTimer := some (1000 * p.seatWindow), touchTimer := none
                      seatLength := p.seatWindow, touchLength := p.touchWindow, touches := p.touches
                      spreadLimit := p.spreadLimit } } := if_neg (Bool.eq_false_iff.mp unseated)

/-! ## The soft limits (R54, R59) -/

theorem State.beyondLimit_iff {s : State} :
    s.presetter.beyondLimit = true ↔ ∃ a, (s.axis a).softLimit ≤ (s.axis a).counter.toNat := by
  simp only [Presetter.beyondLimit, Bool.or_eq_true, decide_eq_true_eq]
  constructor
  · rintro (z | x)
    · exact ⟨.z, z⟩
    · exact ⟨.x, x⟩
  · rintro ⟨a, beyond⟩
    cases a with
    | z => exact .inl beyond
    | x => exact .inr beyond

section
variable {s : State}

theorem State.cycleIn_iff {st : CycleState} : s.cycleIn st = true ↔ ∃ c, s.presetter.cycle = some c ∧ c.state = st := by
  simp only [State.cycleIn, Option.any_eq_true, beq_iff_eq]

theorem State.enforceLimits_of_within (within : ¬ (s.cycleIn .touch = true ∧ s.presetter.beyondLimit = true)) :
    s.enforceLimits = s := by
  have check : s.checkLimits = (s, none) := if_neg within
  unfold State.enforceLimits
  rw [check]
  cases s.presetter.cycle <;> rfl

/-- The outcome of a cycle in TOUCH that a fault ends (R59). -/
def Presetter.faulted (p : Presetter) (fault : Status) : CycleOutcome :=
  { fault := some fault, zCaptures := p.z.captures, xCaptures := p.x.captures, means := none, axes := p.axes }

theorem Presetter.captured_of_touch {p : Presetter} {c : Cycle} (cycle : p.cycle = some c) (touch : c.state = .touch) :
    p.captured = (p.z.captures, p.x.captures) := by
  simp [Presetter.captured, cycle, touch]

theorem State.enforceLimits_of_beyond {c : Cycle} (cycle : s.presetter.cycle = some c) (touch : c.state = .touch)
    (beyond : s.presetter.beyondLimit = true) :
    s.enforceLimits = (s.modPresetter fun p => { p with cycle := none }).deliverCycle c.owner
      (s.presetter.faulted .overtravel) := by
  have check : s.checkLimits = (s.modPresetter fun p => { p with cycle := none }, some (s.presetter.faulted .overtravel)) := by
    unfold State.checkLimits State.endCycle
    rw [if_pos ⟨State.cycleIn_iff.mpr ⟨c, cycle, touch⟩, beyond⟩, Presetter.captured_of_touch cycle touch]
    rfl
  unfold State.enforceLimits
  rw [check, cycle]

end

section
variable {s u : State} {n : SlotNo} (started : u.presetter = s.presetter.withCycle n)
include started

theorem State.beyondLimit_withCycle : u.presetter.beyondLimit = s.presetter.beyondLimit := by
  rw [started]
  unfold Presetter.withCycle
  split <;> rfl

/-- A cycle just started is ended by no soft limit while it is in SEAT or the counters are below. -/
theorem State.enforceLimits_withCycle_of_within
    (within : s.presetter.seated = false ∨ ∀ a, (s.axis a).counter.toNat < (s.axis a).softLimit) :
    u.enforceLimits = u := by
  refine State.enforceLimits_of_within ?_
  rintro ⟨touching, beyond⟩
  obtain ⟨c, cycle, touch⟩ := State.cycleIn_iff.mp touching
  rw [State.beyondLimit_withCycle started, State.beyondLimit_iff] at beyond
  rcases within with unseated | below
  · rw [started, Presetter.withCycle_of_unseated unseated] at cycle
    cases cycle
    exact nomatch touch
  · obtain ⟨a, high⟩ := beyond
    exact absurd high (Nat.not_le.mpr (below a))

/-- A cycle that starts in TOUCH with a counter at its soft limit ends OVERTRAVEL at once. -/
theorem State.enforceLimits_withCycle_of_beyond (seated : s.presetter.seated = true)
    (beyond : ∃ a, (s.axis a).softLimit ≤ (s.axis a).counter.toNat) :
    u.enforceLimits = (u.modPresetter fun p => { p with cycle := none }).deliverCycle n
      ((s.presetter.withCycle n).faulted .overtravel) := by
  have cycle := congrArg Presetter.cycle started
  rw [Presetter.withCycle_of_seated seated] at cycle
  rw [State.enforceLimits_of_beyond cycle rfl
    ((State.beyondLimit_withCycle started).trans (State.beyondLimit_iff.mpr beyond)), started]

end

theorem Presetter.faulted_withCycle {p : Presetter} {n : SlotNo} (seated : p.seated = true) (fault : Status) :
    (p.withCycle n).faulted fault = { fault := some fault, zCaptures := [], xCaptures := [], means := none, axes := p.axes } := by
  rw [Presetter.withCycle_of_seated seated]
  rfl

/-! ## The cases of CALIBRATE (R64) -/

theorem State.bothHomed_iff {s : State} : s.bothHomed = true ↔ ∀ a, (s.axis a).state = .homed := by
  simp only [State.bothHomed, Bool.and_eq_true, beq_iff_eq]
  refine ⟨fun ⟨z, x⟩ a => ?_, fun all => ⟨all .z, all .x⟩⟩
  cases a with
  | z => exact z
  | x => exact x

theorem State.toolAtPresetter_iff {s : State} : s.toolAtPresetter = true ↔ ∃ x ∈ s.tools, x.location = .presetter := by
  simp only [State.toolAtPresetter, List.any_eq_true, beq_iff_eq]

section
variable {s : State} {n : SlotNo} {st : Status}

theorem State.calibrateCheck_of_noMaster (absent : s.presetter.masterLength = 0 ∨ s.presetter.masterRadius = 0) :
    s.calibrateCheck = some .noMaster := if_pos absent

theorem State.calibrateCheck_of_master (present : ¬ (s.presetter.masterLength = 0 ∨ s.presetter.masterRadius = 0)) :
    s.calibrateCheck =
      if s.bothHomed = false then some .axisNotHomed
      else if s.cycleBusy then some .stationBusy
      else if s.toolAtPresetter then some .stationOccupied
      else none := if_neg present

theorem doCalibrate_of_refused (check : s.calibrateCheck = some st) : doCalibrate n s = s.refuseRecord n st emptyCalibrate := by
  unfold doCalibrate
  rw [check]

theorem doCalibrate_of_accepted (check : s.calibrateCheck = none) : doCalibrate n s =
    ((s.setWork n (.calibrate s.presetter.masterLength s.presetter.masterRadius)).startCycle n).enforceLimits := by
  unfold doCalibrate
  rw [check]

theorem exec_calibrate_of_refused {img : SlotImage} (ok : s.accepts .calibrate img n)
    (check : (s.taken n 0x0F img).calibrateCheck = some st) :
    exec (.calibrate img) s =
      .next (s.answered n 0x0F img st (le 2 39) (List.replicate 29 0 ++ s.presetter.axes.bytes)) :=
  exec_completes (k := .calibrate) ok ok.1.2 (doCalibrate_of_refused check)

end

theorem length_axesBytes (v : AxesView) : v.bytes.length = 10 := by
  simp only [AxesView.bytes, List.length_append, length_le]

/-- A CALIBRATE whose cycle a fault ended before any capture. -/
theorem State.calibrateOutcome_faulted {s : State} {n : SlotNo} {ml mr : Nat} {fault : Status} {axes : AxesView} :
    s.calibrateOutcome n ml mr { fault := some fault, zCaptures := [], xCaptures := [], means := none, axes := axes } =
      s.completeWith n fault (le 2 39) (List.replicate 29 0 ++ axes.bytes) := by
  have record : calibrateRecord
      { fault := some fault, zCaptures := [], xCaptures := [], means := none, axes := axes } none =
      List.replicate 29 0 ++ axes.bytes := rfl
  unfold State.calibrateOutcome State.completeRecord
  dsimp only
  rw [record, List.length_append, List.length_replicate, length_axesBytes]
  rfl

theorem State.deliverCycle_of_calibrate {s : State} {n : SlotNo} {ml mr : Nat} (work : s.work n = .calibrate ml mr)
    (o : CycleOutcome) : s.deliverCycle n o = s.calibrateOutcome n ml mr o := by
  unfold State.deliverCycle
  rw [work]

/-- Settles O30: the checks of CALIBRATE in their order, its start, and its end at a soft limit. -/
theorem calibrateOrder : Obligations.CalibrateOrder := by
  unfold Obligations.CalibrateOrder
  rintro img n s ok empty rfl
  refine ⟨fun absent => ?_, fun length radius => ?_⟩
  · exact exec_calibrate_of_refused ok (State.calibrateCheck_of_noMaster absent)
  have check := State.calibrateCheck_of_master (s := s.taken n 0x0F img) fun absent => absent.elim length radius
  refine ⟨fun ⟨a, unhomed⟩ => ?_, fun homed => ?_⟩
  · have notBoth : (s.taken n 0x0F img).bothHomed = false :=
      Bool.eq_false_iff.mpr fun both => unhomed (State.bothHomed_iff.mp both a)
    exact exec_calibrate_of_refused ok (check.trans (if_pos notBoth))
  have both : ¬ (s.taken n 0x0F img).bothHomed = false := fun notBoth =>
    Bool.false_ne_true (notBoth.symm.trans (State.bothHomed_iff.mpr homed))
  rw [if_neg both] at check
  refine ⟨fun busy => exec_calibrate_of_refused ok (check.trans (if_pos busy)), fun idle occupied => ?_, fun idle free => ?_⟩
  all_goals
    have idleNow : ¬ (s.taken n 0x0F img).cycleBusy = true := by
      show ¬ s.presetter.cycle.isSome = true
      rw [idle]
      exact Bool.false_ne_true
    rw [if_neg idleNow] at check
  · exact exec_calibrate_of_refused ok (check.trans (if_pos (State.toolAtPresetter_iff.mpr occupied)))
  · have empty : ¬ (s.taken n 0x0F img).toolAtPresetter = true := fun occupied =>
      have ⟨x, isIn, place⟩ := State.toolAtPresetter_iff.mp occupied
      free x isIn place
    have work := doCalibrate_of_accepted (n := n) (check.trans (if_neg empty))
    rw [State.setWork_taken, State.startCycle_started] at work
    refine ⟨fun within => ?_, fun seated beyond => ?_⟩
    · rw [State.enforceLimits_withCycle_of_within (s := s) rfl within] at work
      exact exec_runs_on (k := .calibrate) ok ok.1.2 work
    · rw [State.enforceLimits_withCycle_of_beyond (s := s) rfl seated beyond, Presetter.faulted_withCycle seated,
        State.modPresetter_started, State.deliverCycle_of_calibrate (State.work_started ..),
        State.calibrateOutcome_faulted] at work
      exact exec_ends (k := .calibrate) ok ok.1.2 work

end Sys2Proof.Machine
end

section
/-! The checks of MEASURE and its start (R69, R70). -/

namespace Sys2Proof.Machine

/-! ## The checks in their order (R69) -/

/-- The states of a record that a MEASURE takes (R69). -/
def Tool.measurable (x : Tool) : Prop :=
  x.state = .unmeasured ∨ x.state = .passed ∨ x.state = .ready ∨ x.state = .quarantine

section
variable {s : State} {x : Tool} {r : Reference}

theorem State.measureCheck_of_claimed (claimed : x.state = .claimed) : s.measureCheck x = some .busy := if_pos claimed

theorem State.measureCheck_of_wrongState (wrong : x.state = .out ∨ x.state = .returning ∨ x.state = .astray ∨ x.state = .worn) :
    s.measureCheck x = some .wrongState := by
  unfold State.measureCheck
  rcases wrong with state | state | state | state <;> simp [state]

section
variable (good : x.measurable)
include good

theorem State.measureCheck_of_measurable : s.measureCheck x =
    if s.bothHomed = false then some .axisNotHomed
    else match s.presetter.reference with
      | none => some .noReference
      | some r =>
        if Config.maxUses ≤ r.uses then some .referenceStale
        else if s.cycleBusy then some .stationBusy
        else if s.tools.any (fun y => y.location == .presetter && y.number != x.number) then some .stationOccupied
        else if s.presetter.seated = true ∧ x.location ≠ .presetter then some .stationOccupied
        else none := by
  have free : x.state ≠ .claimed := by
    rcases good with state | state | state | state <;> simp [state]
  exact (if_neg free).trans (if_neg (not_not_intro good))

theorem State.measureCheck_of_unhomed (unhomed : ∃ a, (s.axis a).state ≠ .homed) :
    s.measureCheck x = some .axisNotHomed := by
  obtain ⟨a, unhomed⟩ := unhomed
  rw [State.measureCheck_of_measurable good]
  exact if_pos (Bool.eq_false_iff.mpr fun both => unhomed (State.bothHomed_iff.mp both a))

variable (homed : ∀ a, (s.axis a).state = .homed)
include homed

theorem State.measureCheck_of_noReference (absent : s.presetter.reference = none) :
    s.measureCheck x = some .noReference := by
  rw [State.measureCheck_of_measurable good, State.bothHomed_iff.mpr homed, absent]
  exact if_neg Bool.noConfusion

variable (present : s.presetter.reference = some r)
include present

theorem State.measureCheck_of_reference : s.measureCheck x =
    if 256 ≤ r.uses then some .referenceStale
    else if s.cycleBusy then some .stationBusy
    else if s.tools.any (fun y => y.location == .presetter && y.number != x.number) then some .stationOccupied
    else if s.presetter.seated = true ∧ x.location ≠ .presetter then some .stationOccupied
    else none := by
  rw [State.measureCheck_of_measurable good, State.bothHomed_iff.mpr homed, present]
  exact if_neg Bool.noConfusion

variable (fresh : r.uses < 256)
include fresh

theorem State.measureCheck_of_busy (busy : s.presetter.cycle.isSome = true) : s.measureCheck x = some .stationBusy := by
  rw [State.measureCheck_of_reference good homed present, if_neg (Nat.not_le.mpr fresh)]
  exact if_pos busy

variable (idle : s.presetter.cycle = none)
include idle

theorem State.measureCheck_of_idle : s.measureCheck x =
    if s.tools.any (fun y => y.location == .presetter && y.number != x.number) then some .stationOccupied
    else if s.presetter.seated = true ∧ x.location ≠ .presetter then some .stationOccupied
    else none := by
  have notBusy : ¬ s.cycleBusy = true := by
    rw [State.cycleBusy, idle]
    exact Bool.false_ne_true
  rw [State.measureCheck_of_reference good homed present, if_neg (Nat.not_le.mpr fresh), if_neg notBusy]

theorem State.measureCheck_of_occupied
    (occupied : (∃ y ∈ s.tools, y.location = .presetter ∧ y.number ≠ x.number) ∨
      (s.presetter.seated = true ∧ x.location ≠ .presetter)) : s.measureCheck x = some .stationOccupied := by
  rw [State.measureCheck_of_idle good homed present fresh idle]
  split
  · rfl
  · rename_i free
    refine if_pos (occupied.resolve_left fun other => free ?_)
    simpa using other

theorem State.measureCheck_eq_none (free : ∀ y ∈ s.tools, y.location = .presetter → y.number = x.number)
    (seat : s.presetter.seated = true → x.location = .presetter) : s.measureCheck x = none := by
  rw [State.measureCheck_of_idle good homed present fresh idle]
  refine (if_neg ?_).trans (if_neg fun ⟨seated, away⟩ => away (seat seated))
  simpa using free

end

end

/-! ## The cases of MEASURE (R69) -/

section
variable {img : SlotImage} {n : SlotNo} {s : State} {x : Tool} {st : Status}

theorem doMeasure_of_zero (zero : par2 img 0 = 0) : doMeasure img n s = s.refuseRecord n .badParam emptyMeasure :=
  if_pos (by simp [goodTool, zero])

theorem doMeasure_of_unknown (number : par2 img 0 ≠ 0) (unknown : s.findTool (par2 img 0) = none) :
    doMeasure img n s = s.refuseRecord n .unknownTool emptyMeasure := by
  unfold doMeasure
  rw [if_neg (by simp [goodTool, number]), unknown]

theorem doMeasure_of_refused (number : par2 img 0 ≠ 0) (found : s.findTool (par2 img 0) = some x)
    (check : s.measureCheck x = some st) : doMeasure img n s = s.refuseRecord n st emptyMeasure := by
  unfold doMeasure
  rw [if_neg (by simp [goodTool, number]), found]
  dsimp only
  rw [check]

theorem doMeasure_of_accepted (number : par2 img 0 ≠ 0) (found : s.findTool (par2 img 0) = some x)
    (check : s.measureCheck x = none) : doMeasure img n s = s.startMeasure n x := by
  unfold doMeasure
  rw [if_neg (by simp [goodTool, number]), found]
  dsimp only
  rw [check]

theorem exec_measure_of_refused (ok : s.accepts .measure img n)
    (refused : doMeasure img n (s.taken n 0x10 img) = (s.taken n 0x10 img).refuseRecord n st emptyMeasure) :
    exec (.measure img) s =
      .next (s.answered n 0x10 img st (le 2 70) (List.replicate 60 0 ++ s.presetter.axes.bytes)) :=
  exec_completes (k := .measure) ok ok.1.2 refused

end

/-- Settles O31: the checks of MEASURE in their order. -/
theorem measureChecks : Obligations.MeasureChecks := by
  unfold Obligations.MeasureChecks
  intro img n s x refusedWith ok means
  refine ⟨fun zero => ?_, fun number unknown => ?_, fun number found => ?_⟩
  · exact (means _).mpr (exec_measure_of_refused ok (doMeasure_of_zero zero))
  · exact (means _).mpr (exec_measure_of_refused ok (doMeasure_of_unknown number unknown))
  have refuses {st : Status} (check : s.measureCheck x = some st) : refusedWith st :=
    (means st).mpr (exec_measure_of_refused ok (doMeasure_of_refused (s := s.taken n 0x10 img) number found check))
  refine ⟨fun claimed => refuses (State.measureCheck_of_claimed claimed),
    fun wrong => refuses (State.measureCheck_of_wrongState wrong), fun good =>
    ⟨fun unhomed => refuses (State.measureCheck_of_unhomed good unhomed), fun homed =>
      ⟨fun absent => refuses (State.measureCheck_of_noReference good homed absent), fun r present =>
        ⟨fun stale => refuses ?_, fun fresh =>
          ⟨fun busy => refuses (State.measureCheck_of_busy good homed present fresh busy), fun idle =>
            ⟨fun other => refuses (State.measureCheck_of_occupied good homed present fresh idle (.inl other)),
              fun seated away =>
                refuses (State.measureCheck_of_occupied good homed present fresh idle (.inr ⟨seated, away⟩))⟩⟩⟩⟩⟩⟩
  exact (State.measureCheck_of_reference good homed present).trans (if_pos stale)

end Sys2Proof.Machine
end

section
/-! A MEASURE that passes its checks (R70). -/

namespace Sys2Proof.Machine

/-- The record found under a number has it. -/
theorem State.number_of_findTool {s : State} {t : Nat} {x : Tool} (found : s.findTool t = some x) : x.number = t := by
  have same := List.find?_some found
  exact beq_iff_eq.mp same

/-- A request denied changes nothing (R36). -/
theorem State.eq_of_requestRemoval_denied {s u : State} {mv : Movement} {p : PocketNo} {owner : Owner} {st : Status}
    (denied : s.requestRemoval mv p owner = (u, .denied st)) : u = s := by
  unfold State.requestRemoval at denied
  split at denied
  · exact (congrArg Prod.fst denied).symm
  · split at denied
    · exact nomatch congrArg Prod.snd denied
    · exact (congrArg Prod.fst denied).symm

/-! ## The release of a MEASURE that is not evaluated (R71) -/

theorem measureRelease_of_none {m : MeasureCtx} (none : m.evaluation = none) (y : Tool) :
    measureRelease m y = y.release false y.before y.location := by
  unfold measureRelease
  rw [none]

theorem State.modTool_measureRelease_of_none {m : MeasureCtx} (none : m.evaluation = none) (s : State) :
    s.modTool m.tool (measureRelease m) = s.releaseBack m.tool := by
  rw [State.releaseBack, funext (measureRelease_of_none none)]

theorem State.finishMeasure_of_none {n : SlotNo} {m : MeasureCtx} {st : Status} {s : State} (none : m.evaluation = none) :
    s.finishMeasure n m st = (s.releaseBack m.tool).completeRecord n st ((s.releaseBack m.tool).measureRecord m) := by
  rw [State.finishMeasure, State.modTool_measureRelease_of_none none]

theorem State.finishMeasure_started {n : SlotNo} {m : MeasureCtx} {st : Status} (none : m.evaluation = none) (kind : Nat)
    (img : SlotImage) (work : Work) (s : State) :
    (s.started n kind img work).finishMeasure n m st = ((s.releaseBack m.tool).started n kind img work).completeWith n st
      (le 2 ((s.releaseBack m.tool).measureRecord m).length) ((s.releaseBack m.tool).measureRecord m) :=
  State.finishMeasure_of_none none

theorem State.finishMeasure_taken {n : SlotNo} {m : MeasureCtx} {st : Status} (none : m.evaluation = none) (kind : Nat)
    (img : SlotImage) (s : State) :
    (s.taken n kind img).finishMeasure n m st = ((s.releaseBack m.tool).taken n kind img).completeWith n st
      (le 2 ((s.releaseBack m.tool).measureRecord m).length) ((s.releaseBack m.tool).measureRecord m) :=
  State.finishMeasure_of_none none

/-! ## The start by the tool's location (R70) -/

section
variable {n : SlotNo} {x : Tool} {s u : State} {p : PocketNo}

theorem State.startMeasure_of_loose (place : x.location = .loose) : s.startMeasure n x =
    ((s.claimTool x.number (.slot n)).setWork n (.measure (newMeasure x.number .loose .seating))).startCycle n := by
  unfold State.startMeasure
  rw [place]

theorem State.startMeasure_of_presetter {phase : MeasurePhase} (place : x.location = .presetter)
    (isPhase : phase = if s.presetter.seated then .touching else .seating) : s.startMeasure n x =
    (((s.claimTool x.number (.slot n)).setWork n (.measure (newMeasure x.number .presetter phase))).startCycle
      n).enforceLimits := by
  unfold State.startMeasure
  rw [place, isPhase]

section
variable (place : x.location = .pocket p)
include place

theorem State.startMeasure_of_made {num : Nat}
    (made : (s.claimTool x.number (.slot n)).requestRemoval .fetch p (.slot n) = (u, .made num p)) : s.startMeasure n x =
    (u.setWork n (.measure { newMeasure x.number (.pocket p) .fetching with fetch := some num, fetchMade := some num })).startCycle
      n := by
  unfold State.startMeasure
  rw [place]
  dsimp only
  rw [made]

theorem State.startMeasure_of_denied {st : Status}
    (denied : (s.claimTool x.number (.slot n)).requestRemoval .fetch p (.slot n) = (u, .denied st)) :
    s.startMeasure n x = u.finishMeasure n (newMeasure x.number (.pocket p) .fetching) st := by
  unfold State.startMeasure
  rw [place]
  dsimp only
  rw [denied]

end

end

theorem State.deliverCycle_of_measure {s : State} {n : SlotNo} {m : MeasureCtx} (work : s.work n = .measure m)
    (o : CycleOutcome) : s.deliverCycle n o = s.measureCycleOutcome n m o := by
  unfold State.deliverCycle
  rw [work]

/-- A MEASURE in TOUCHING whose cycle a fault ended (R75). -/
theorem State.measureCycleOutcome_faulted {s : State} {n : SlotNo} {m : MeasureCtx} {o : CycleOutcome} {fault : Status}
    (touching : m.phase = .touching) (faulted : o.fault = some fault) :
    s.measureCycleOutcome n m o = s.finishMeasure n { m with outcome := some o } fault := by
  unfold State.measureCycleOutcome
  rw [touching]
  dsimp only
  rw [faulted]
  rfl

/-- Settles O32: the start of a MEASURE by the location of its tool. -/
theorem measureStarts : Obligations.MeasureStarts := by
  unfold Obligations.MeasureStarts
  intro img n s x r ok number found good homed present fresh idle free
  have isNumber := (State.number_of_findTool found).symm
  rw [isNumber] at found
  have starts (seat : s.presetter.seated = true → x.location = .presetter) :
      doMeasure img n (s.taken n 0x10 img) = (s.taken n 0x10 img).startMeasure n x := by
    refine doMeasure_of_accepted number (isNumber ▸ found) ?_
    exact State.measureCheck_eq_none (s := s.taken n 0x10 img) good homed present fresh idle free seat
  refine ⟨fun place unseated => ?_, fun place unseated => ?_, fun place seated below => ?_, fun place seated beyond m isM => ?_,
    fun p place unseated => ?_⟩
  · have work := (starts (by simp [unseated])).trans (State.startMeasure_of_loose place)
    rw [State.claimTool_taken, State.setWork_taken, State.startCycle_started] at work
    exact exec_runs_on (k := .measure) ok ok.1.2 work
  · have phase : MeasurePhase.seating = if (s.taken n 0x10 img).presetter.seated then .touching else .seating :=
      (if_neg (Bool.eq_false_iff.mp unseated)).symm
    have work := (starts fun _ => place).trans (State.startMeasure_of_presetter place phase)
    rw [State.claimTool_taken, State.setWork_taken, State.startCycle_started,
      State.enforceLimits_withCycle_of_within (s := s) rfl (.inl unseated)] at work
    exact exec_runs_on (k := .measure) ok ok.1.2 work
  · have phase : MeasurePhase.touching = if (s.taken n 0x10 img).presetter.seated then .touching else .seating :=
      (if_pos seated).symm
    have work := (starts fun _ => place).trans (State.startMeasure_of_presetter place phase)
    rw [State.claimTool_taken, State.setWork_taken, State.startCycle_started,
      State.enforceLimits_withCycle_of_within (s := s) rfl (.inr below)] at work
    exact exec_runs_on (k := .measure) ok ok.1.2 work
  · have phase : MeasurePhase.touching = if (s.taken n 0x10 img).presetter.seated then .touching else .seating :=
      (if_pos seated).symm
    have work := (starts fun _ => place).trans (State.startMeasure_of_presetter place phase)
    rw [State.claimTool_taken, State.setWork_taken, State.startCycle_started,
      State.enforceLimits_withCycle_of_beyond (s := s) rfl seated beyond, Presetter.faulted_withCycle seated,
      State.modPresetter_started, State.deliverCycle_of_measure (State.work_started ..),
      State.measureCycleOutcome_faulted (by rfl) (by rfl), State.finishMeasure_started (by rfl)] at work
    subst isM
    generalize isEnd : State.releaseBack _ _ = t at work
    have ends := exec_ends (k := .measure) ok (isEnd ▸ ok.1.2) work
    refine ⟨t, ends, by rw [← isEnd]; rfl, fun k other => ?_, ?_⟩
    · rw [← isEnd]
      exact (State.findTool_releaseBack_of_ne other).trans (State.findTool_claimTool_of_ne other)
    · rw [← isEnd, ← place]
      exact State.findTool_claimTool_releaseBack found
  · have begins := starts fun seated => nomatch unseated.symm.trans seated
    refine ⟨fun u num made => ?_, fun u st denied => ?_⟩
    · have madeToo := State.requestRemoval_taken n 0x10 img .fetch p (.slot n) (s.claimTool x.number (.slot n))
      rw [made, ← State.claimTool_taken] at madeToo
      have work := begins.trans (State.startMeasure_of_made place madeToo)
      have keeps := State.requestRemoval_frame .fetch p (.slot n) (s.claimTool x.number (.slot n))
      rw [made] at keeps
      obtain ⟨-, order, -, presetter, -⟩ := keeps
      rw [State.setWork_taken, State.startCycle_started, presetter] at work
      exact exec_runs_on (k := .measure) ok (order.symm ▸ ok.1.2) work
    · obtain rfl := State.eq_of_requestRemoval_denied denied
      have deniedToo := State.requestRemoval_taken n 0x10 img .fetch p (.slot n) (s.claimTool x.number (.slot n))
      rw [denied, ← State.claimTool_taken] at deniedToo
      have work := begins.trans (State.startMeasure_of_denied place deniedToo)
      rw [State.claimTool_taken, State.finishMeasure_taken (by rfl)] at work
      generalize isEnd : State.releaseBack _ _ = t at work
      have ends := exec_completes (k := .measure) (u := t) ok (isEnd ▸ ok.1.2) work
      refine ⟨_, t, ends, by rw [← isEnd]; rfl, fun ready => ?_⟩
      have notAstray : x.state ≠ .astray := by
        rcases good with state | state | state | state <;> simp [state]
      rw [← isEnd]
      exact (State.findTool_claimTool_releaseBack found).trans (congrArg some (Tool.release_take notAstray ready))

end Sys2Proof.Machine
end

section
/-! Insertion requests made beside a slot taken (R33, R34, R36), and STOW (R81). -/

namespace Sys2Proof.Machine

/-! ## Insertion requests (R33, R34, R36) -/

/-- The destination of an insertion of a tool (R33, R34). -/
def State.destination (s : State) (mv : Movement) (tool : Nat) : Option PocketNo :=
  if mv = .store then s.storePocket ((s.findTool tool).bind (·.home)) else s.returnPocket

section
variable {s u : State} {mv : Movement} {tool : Nat} {owner : Owner} {p : PocketNo} {st : Status}

theorem State.requestInsertion_of_noRoom (nowhere : s.destination mv tool = none) :
    s.requestInsertion mv tool owner = (s, .denied .noRoom) := by
  unfold State.requestInsertion
  dsimp only
  rw [← State.destination, nowhere]

theorem State.requestInsertion_of_pocket (place : s.destination mv tool = some p) :
    s.requestInsertion mv tool owner = if s.cribHasRoom then
        ((s.placeRequest mv p (some tool) owner).1, .made (s.placeRequest mv p (some tool) owner).2 p)
      else (s, .denied .cribBusy) := by
  unfold State.requestInsertion
  dsimp only
  rw [← State.destination, place]

theorem State.destination_taken (n : SlotNo) (kind : Nat) (img : SlotImage) :
    (s.taken n kind img).destination mv tool = s.destination mv tool := rfl

theorem State.requestInsertion_taken (n : SlotNo) (kind : Nat) (img : SlotImage) :
    (s.taken n kind img).requestInsertion mv tool owner =
      ((s.requestInsertion mv tool owner).1.taken n kind img, (s.requestInsertion mv tool owner).2) := by
  cases place : s.destination mv tool with
  | none =>
    rw [State.requestInsertion_of_noRoom place,
      State.requestInsertion_of_noRoom ((State.destination_taken n kind img).trans place)]
  | some p =>
    rw [State.requestInsertion_of_pocket place,
      State.requestInsertion_of_pocket ((State.destination_taken n kind img).trans place), State.cribHasRoom_taken,
      State.placeRequest_taken]
    cases s.cribHasRoom <;> rfl

/-- A request denied changes nothing (R36). -/
theorem State.eq_of_requestInsertion_denied (denied : s.requestInsertion mv tool owner = (u, .denied st)) : u = s := by
  cases place : s.destination mv tool with
  | none =>
    rw [State.requestInsertion_of_noRoom place] at denied
    exact (congrArg Prod.fst denied).symm
  | some p =>
    rw [State.requestInsertion_of_pocket place] at denied
    split at denied
    · exact nomatch congrArg Prod.snd denied
    · exact (congrArg Prod.fst denied).symm

theorem State.order_of_requestInsertion {answer : RequestAnswer} (asked : s.requestInsertion mv tool owner = (u, answer)) :
    u.order = s.order := by
  have keeps := State.requestInsertion_frame mv tool owner s
  rw [asked] at keeps
  exact keeps.2.1

end

/-! ## The cases of STOW (R81) -/

section
variable {s u : State} {img : SlotImage} {n : SlotNo} {x : Tool} {st : Status}

theorem stowCheck_of_claimed (claimed : x.state = .claimed) : stowCheck x = some .busy := if_pos claimed

theorem stowCheck_of_place (free : x.state ≠ .claimed) (notLoose : x.location ≠ .loose) (notThere : x.location ≠ .presetter) :
    stowCheck x = some .wrongState := (if_neg free).trans (if_pos fun place => place.elim notLoose notThere)

theorem stowCheck_of_state (wrong : x.state = .ready ∨ x.state = .out ∨ x.state = .returning ∨ x.state = .astray) :
    stowCheck x = some .wrongState := by
  unfold stowCheck
  rcases wrong with state | state | state | state <;> simp [state]

theorem stowCheck_eq_none
    (good : x.state = .unmeasured ∨ x.state = .passed ∨ x.state = .quarantine ∨ x.state = .worn)
    (place : x.location = .loose ∨ x.location = .presetter) : stowCheck x = none := by
  have free : x.state ≠ .claimed := by
    rcases good with state | state | state | state <;> simp [state]
  exact (if_neg free).trans ((if_neg (not_not_intro place)).trans (if_neg (not_not_intro good)))

theorem doStow_of_zero (zero : par2 img 0 = 0) : doStow img n s = s.refuse n .badParam := if_pos (by simp [goodTool, zero])

section
variable (number : par2 img 0 ≠ 0)
include number

theorem doStow_of_unknown (unknown : s.findTool (par2 img 0) = none) : doStow img n s = s.refuse n .unknownTool := by
  unfold doStow
  rw [if_neg (by simp [goodTool, number]), unknown]

variable (found : s.findTool (par2 img 0) = some x)
include found

theorem doStow_of_refused (check : stowCheck x = some st) : doStow img n s = s.refuse n st := by
  unfold doStow
  rw [if_neg (by simp [goodTool, number]), found]
  dsimp only
  rw [check]

theorem doStow_of_accepted (check : stowCheck x = none) : doStow img n s = s.startStow n x := by
  unfold doStow
  rw [if_neg (by simp [goodTool, number]), found]
  dsimp only
  rw [check]

end

variable {mv : Movement} (isMv : mv = if x.state = .passed then .store else .returnPut)
include isMv

theorem State.startStow_of_made {num : Nat} {p : PocketNo}
    (made : (s.claimTool x.number (.slot n)).requestInsertion mv x.number (.slot n) = (u, .made num p)) :
    s.startStow n x = u.setWork n (.stow { tool := x.number, movement := mv, request := num, pocket := p }) := by
  unfold State.startStow
  dsimp only
  rw [← isMv, made]

theorem State.startStow_of_denied
    (denied : (s.claimTool x.number (.slot n)).requestInsertion mv x.number (.slot n) = (u, .denied st)) :
    s.startStow n x = (u.releaseBack x.number).refuse n st := by
  unfold State.startStow
  dsimp only
  rw [← isMv, denied]

end

/-- Settles O33: the checks of STOW in their order, and its request made or denied. -/
theorem stowOrder : Obligations.StowOrder := by
  unfold Obligations.StowOrder
  refine fun img n s ok => ⟨fun zero => ?_, fun number unknown => ?_, fun x number found =>
    ⟨fun claimed => ?_, fun free notLoose notThere => ?_, fun wrong => ?_, fun good place mv passed other =>
      ⟨fun u num p made => ?_, fun u st denied => ?_⟩⟩⟩
  · exact exec_refuses (k := .stow) ok (doStow_of_zero zero)
  · exact exec_refuses (k := .stow) ok (doStow_of_unknown (s := s.taken n 0x11 img) number unknown)
  · exact exec_refuses (k := .stow) ok
      (doStow_of_refused (s := s.taken n 0x11 img) number found (stowCheck_of_claimed claimed))
  · exact exec_refuses (k := .stow) ok
      (doStow_of_refused (s := s.taken n 0x11 img) number found (stowCheck_of_place free notLoose notThere))
  · exact exec_refuses (k := .stow) ok
      (doStow_of_refused (s := s.taken n 0x11 img) number found (stowCheck_of_state wrong))
  all_goals
    have isMv : mv = if x.state = .passed then Movement.store else .returnPut := by
      split
      · exact passed ‹_›
      · exact other ‹_›
    have begins := doStow_of_accepted (n := n) (s := s.taken n 0x11 img) number found (stowCheck_eq_none good place)
    have answer := State.requestInsertion_taken (s := s.claimTool x.number (.slot n)) (mv := mv) (tool := x.number)
      (owner := .slot n) n 0x11 img
  · rw [made, ← State.claimTool_taken] at answer
    have work := begins.trans (State.startStow_of_made isMv answer)
    have order := State.order_of_requestInsertion made
    exact exec_starts (k := .stow) ok (order ▸ ok.1.2) work
  · obtain rfl := State.eq_of_requestInsertion_denied denied
    rw [denied, ← State.claimTool_taken] at answer
    have work := begins.trans (State.startStow_of_denied isMv answer)
    rw [State.claimTool_taken, State.releaseBack_taken] at work
    have isX := State.number_of_findTool found
    rw [← isX] at found
    generalize isEnd : State.releaseBack _ _ = t at work
    refine ⟨t, exec_completes (k := .stow) (u := t) ok (isEnd ▸ ok.1.2) work, by rw [← isEnd]; rfl, ?_⟩
    have unready : x.state ≠ .astray ∧ x.state ≠ .ready := by
      rcases good with state | state | state | state <;> simp [state]
    rw [← isEnd]
    exact (State.findTool_claimTool_releaseBack found).trans
      (congrArg some (Tool.release_take unready.1 fun ready => absurd ready unready.2))

end Sys2Proof.Machine
end

section
/-! RETURN (R159, R160). -/

namespace Sys2Proof.Machine

/-! ## An exchange queued beside a slot taken (R94) -/

theorem State.modCell_taken (n : SlotNo) (kind : Nat) (img : SlotImage) (c : CellNo) (f : Cell → Cell) (s : State) :
    (s.taken n kind img).modCell c f = (s.modCell c f).taken n kind img := rfl

theorem State.queueExchange_taken (n : SlotNo) (kind : Nat) (img : SlotImage) (c : CellNo) (p : Payload) (owner : ExchangeOwner)
    (s : State) : (s.taken n kind img).queueExchange c p owner =
      ((s.queueExchange c p owner).1.taken n kind img, (s.queueExchange c p owner).2) := by
  have cell : (s.taken n kind img).cell c = s.cell c := rfl
  have new : (s.taken n kind img).newExchange p owner = s.newExchange p owner := rfl
  unfold State.queueExchange
  rw [cell, new, State.modCell_taken, State.grantBuffers_taken]
  cases (s.cell c).queueCheck p <;> rfl

theorem State.order_queueExchange (c : CellNo) (p : Payload) (owner : ExchangeOwner) (s : State) :
    (s.queueExchange c p owner).1.order = s.order := (State.queueExchange_frame c p owner s).2.1

/-! ## The withdraw of a RETURN (R160) -/

section
variable {s : State} {n : SlotNo} {r : ReturnCtx}

theorem State.queueReturnWithdraw_of_none (nowhere : r.withdrawTo = none) :
    s.queueReturnWithdraw n r = (s, { r with withdraw := .notSent }) := by
  unfold State.queueReturnWithdraw
  rw [nowhere]

theorem State.queueReturnWithdraw_of_some {c : CellNo} {m : Nat} (target : r.withdrawTo = some (c, m)) (tries : r.tries = 0)
    (silent : r.acknowledged = false) : s.queueReturnWithdraw n r =
      ((s.queueExchange c (.withdraw 0xFF r.tool m) (.slot n)).1,
        { r with withdraw := if (s.queueExchange c (.withdraw 0xFF r.tool m) (.slot n)).2.isNone then .pending
                  else .unconfirmed }) := by
  unfold State.queueReturnWithdraw
  rw [target]
  dsimp only
  generalize s.queueExchange c (.withdraw 0xFF r.tool m) (.slot n) = answer
  obtain ⟨t, refusal⟩ := answer
  cases refusal with
  | none => simp [← tries, ← silent]
  | some _ => rfl

end

/-! ## The cases of RETURN (R159) -/

section
variable {s u : State} {img : SlotImage} {n : SlotNo} {x : Tool} {st : Status}

theorem returnCheck_of_claimed (claimed : x.state = .claimed) : returnCheck x = some .busy := if_pos claimed

theorem returnCheck_of_state (free : x.state ≠ .claimed)
    (here : ¬ (x.state = .returning ∨ x.state = .out ∨ x.state = .astray)) : returnCheck x = some .wrongState :=
  (if_neg free).trans (if_pos here)

theorem returnCheck_eq_none (away : x.state = .returning ∨ x.state = .out ∨ x.state = .astray) : returnCheck x = none := by
  have free : x.state ≠ .claimed := by
    rcases away with state | state | state <;> simp [state]
  exact (if_neg free).trans (if_neg (not_not_intro away))

theorem doReturnTool_of_zero (zero : par2 img 0 = 0) : doReturnTool img n s = s.refuse n .badParam :=
  if_pos (by simp [goodTool, zero])

section
variable (number : par2 img 0 ≠ 0)
include number

theorem doReturnTool_of_unknown (unknown : s.findTool (par2 img 0) = none) :
    doReturnTool img n s = s.refuse n .unknownTool := by
  unfold doReturnTool
  rw [if_neg (by simp [goodTool, number]), unknown]

variable (found : s.findTool (par2 img 0) = some x)
include found

theorem doReturnTool_of_refused (check : returnCheck x = some st) : doReturnTool img n s = s.refuse n st := by
  unfold doReturnTool
  rw [if_neg (by simp [goodTool, number]), found]
  dsimp only
  rw [check]

theorem doReturnTool_of_accepted (check : returnCheck x = none) : doReturnTool img n s = s.startReturn n x := by
  unfold doReturnTool
  rw [if_neg (by simp [goodTool, number]), found]
  dsimp only
  rw [check]

end

/-- The claim of a RETURN that is denied given back (R159). -/
def State.returnBack (t : Nat) (s : State) : State := s.modTool t fun y => y.release true y.before y.location

theorem State.returnBack_taken (kind : Nat) (t : Nat) :
    (s.taken n kind img).returnBack t = (s.returnBack t).taken n kind img := rfl

/-- The claim of a RETURN given back in the step that took it. -/
theorem State.findTool_claimTool_returnBack {t : Nat} {owner : Owner} (found : s.findTool t = some x) (unready : x.state ≠ .ready) :
    ((s.claimTool t owner).returnBack t).findTool t = some { x with claim := none, stateBefore := none } := by
  have released := (State.modTool_of_found (f := fun y => y.release true y.before y.location)
    (fun _ => Tool.number_release ..) (State.findTool_claimTool (owner := owner) found) rfl).2.1
  have back : (x.take owner).release true x.state x.location = { x with claim := none, stateBefore := none } := by
    have notBack : ¬ (true = false ∧ (x.take owner).stateBefore = some .astray) := fun both => Bool.noConfusion both.1
    rw [Tool.release_eq notBack rfl]
    exact if_neg fun both => unready both.1
  exact released.trans (congrArg some back)

theorem State.startReturn_of_denied
    (denied : (s.claimTool x.number (.slot n)).requestInsertion .returnPut x.number (.slot n) = (u, .denied st)) :
    s.startReturn n x = (u.returnBack x.number).refuse n st := by
  unfold State.startReturn
  rw [denied]
  rfl

/-- The context of a RETURN as it starts (R159). -/
def newReturn (x : Tool) (num : Nat) (p : PocketNo) : ReturnCtx :=
  { tool := x.number, stateBefore := x.state, request := num, pocket := p, opened := false, outcome := none
    withdrawTo := x.withdrawTarget x.state, withdraw := .notSent, tries := 0, acknowledged := false, released := none }

theorem State.startReturn_of_made {num : Nat} {p : PocketNo} {v : State} {r : ReturnCtx}
    (made : (s.claimTool x.number (.slot n)).requestInsertion .returnPut x.number (.slot n) = (u, .made num p))
    (withdrawn : u.queueReturnWithdraw n (newReturn x num p) = (v, r)) : s.startReturn n x = v.setWork n (.returning r) := by
  unfold State.startReturn
  rw [made]
  dsimp only
  rw [← newReturn, withdrawn]

end

/-- Settles O34: the checks of RETURN in their order, its request denied or made, and its withdraw. -/
theorem returnOrder : Obligations.ReturnOrder := by
  unfold Obligations.ReturnOrder
  refine fun img n s ok => ⟨fun zero => ?_, fun number unknown => ?_, fun x number found =>
    ⟨fun claimed => ?_, fun free notReturning notOut notAstray => ?_, fun away =>
      ⟨fun u st denied => ?_, fun u num p made target isTarget v withdraw nowhere sent => ?_⟩⟩⟩
  · exact exec_refuses (k := .returnTool) ok (doReturnTool_of_zero zero)
  · exact exec_refuses (k := .returnTool) ok (doReturnTool_of_unknown (s := s.taken n 0x13 img) number unknown)
  · exact exec_refuses (k := .returnTool) ok
      (doReturnTool_of_refused (s := s.taken n 0x13 img) number found (returnCheck_of_claimed claimed))
  · exact exec_refuses (k := .returnTool) ok (doReturnTool_of_refused (s := s.taken n 0x13 img) number found
      (returnCheck_of_state free fun away => by simp_all))
  all_goals
    have begins := doReturnTool_of_accepted (n := n) (s := s.taken n 0x13 img) number found (returnCheck_eq_none away)
    have answer := State.requestInsertion_taken (s := s.claimTool x.number (.slot n)) (mv := .returnPut) (tool := x.number)
      (owner := .slot n) n 0x13 img
  · obtain rfl := State.eq_of_requestInsertion_denied denied
    rw [denied, ← State.claimTool_taken] at answer
    have work := begins.trans (State.startReturn_of_denied answer)
    rw [State.claimTool_taken, State.returnBack_taken] at work
    rw [← State.number_of_findTool found] at found
    generalize isEnd : State.returnBack _ _ = t at work
    refine ⟨t, exec_completes (k := .returnTool) (u := t) ok (isEnd ▸ ok.1.2) work, by rw [← isEnd]; rfl, ?_⟩
    rw [← isEnd]
    exact State.findTool_claimTool_returnBack found (by rcases away with state | state | state <;> simp [state])
  · rw [made, ← State.claimTool_taken] at answer
    replace isTarget : target = x.withdrawTarget x.state := by
      rw [isTarget]
      unfold Tool.withdrawTarget
      rcases away with state | state | state
      · rw [state]
        rfl
      · rw [state]
        cases x.location <;> rfl
      · rw [state]
        rfl
    have order := State.order_of_requestInsertion made
    have withdrawn : (u.taken n 0x13 img).queueReturnWithdraw n (newReturn x num p) =
        (v.taken n 0x13 img, { newReturn x num p with withdraw := withdraw }) ∧ v.order = u.order := by
      cases place : target with
      | none =>
        obtain ⟨rfl, rfl⟩ := nowhere place
        exact ⟨State.queueReturnWithdraw_of_none (isTarget.symm.trans place), rfl⟩
      | some way =>
        obtain ⟨c, m⟩ := way
        obtain ⟨rfl, rfl⟩ := sent c m place
        refine ⟨?_, State.order_queueExchange ..⟩
        rw [State.queueReturnWithdraw_of_some (isTarget.symm.trans place) rfl rfl, State.queueExchange_taken]
        rfl
    have work := begins.trans (State.startReturn_of_made answer withdrawn.1)
    rw [isTarget]
    exact exec_starts (k := .returnTool) ok (withdrawn.2.trans order ▸ ok.1.2) work

end Sys2Proof.Machine
end

section
/-! ISSUE (R132, R133, R143). -/

namespace Sys2Proof.Machine

/-! ## What queueing an exchange rests on (R94, R96) -/

section
variable {s t : State} {c : CellNo} {p : Payload} {owner : ExchangeOwner}

theorem State.queueExchange_refused {r : QueueRefusal} (refused : (s.cell c).queueCheck p = some r) :
    s.queueExchange c p owner = (s, some r) := by
  unfold State.queueExchange
  rw [refused]

theorem State.queueExchange_taken_in (accepted : (s.cell c).queueCheck p = none) :
    s.queueExchange c p owner =
      ((s.modCell c fun x => { x with queue := insertExchange (s.newExchange p owner) x.queue }).grantBuffers, none) := by
  unfold State.queueExchange
  rw [accepted]

theorem State.eq_of_queueExchange_refused {r : QueueRefusal} (refused : s.queueExchange c p owner = (t, some r)) : t = s := by
  cases check : (s.cell c).queueCheck p with
  | some r =>
    rw [State.queueExchange_refused check] at refused
    exact (congrArg Prod.fst refused).symm
  | none =>
    rw [State.queueExchange_taken_in check] at refused
    exact nomatch congrArg Prod.snd refused

/-- Queueing rests on the link and the clock alone, and changes the link alone. -/
theorem State.queueExchange_congr (link : t.link = s.link) (clock : t.clock = s.clock) : t.queueExchange c p owner =
    ({ t with link := (s.queueExchange c p owner).1.link }, (s.queueExchange c p owner).2) := by
  have cell : t.cell c = s.cell c := by rw [State.cell, link, State.cell]
  have new : t.newExchange p owner = s.newExchange p owner := by rw [State.newExchange, link, clock, State.newExchange]
  cases check : (s.cell c).queueCheck p with
  | some r => rw [State.queueExchange_refused check, State.queueExchange_refused (cell ▸ check), ← link]
  | none =>
    rw [State.queueExchange_taken_in check, State.queueExchange_taken_in (cell ▸ check), State.grantBuffers_eq, new]
    have same := State.grantBuffers_congr
      (s := t.modCell c fun x => { x with queue := insertExchange (s.newExchange p owner) x.queue })
      (t := s.modCell c fun x => { x with queue := insertExchange (s.newExchange p owner) x.queue })
      (by simp only [State.modCell, State.modLink, link]) clock
    rw [same]
    rfl

theorem State.queueExchange_started (n : SlotNo) (kind : Nat) (img : SlotImage) (work : Work) :
    (s.started n kind img work).queueExchange c p owner =
      ((s.queueExchange c p owner).1.started n kind img work, (s.queueExchange c p owner).2) := by
  have own := State.queueExchange_congr (s := s) (c := c) (p := p) (owner := owner) rfl rfl
  rw [State.queueExchange_congr (s := s) (t := s.started n kind img work) rfl rfl]
  generalize s.queueExchange c p owner = answer at own
  obtain ⟨v, refusal⟩ := answer
  have only : v = { s with link := v.link } := congrArg Prod.fst own
  rw [only]
  rfl

end

/-! ## The request that an ISSUE makes (R132) -/

section
variable {img : SlotImage} {n : SlotNo} {c : CellNo}

theorem issueAsk_eq_none (bad : par1 img 0 = 0 ∨ 24 < par1 img 0 ∨ par1 img 1 = 0 ∨ 240 < par1 img 1 ∨ 1 < par1 img 2 ∨
    (par1 img 2 = 0 ∧ par2 img 3 = 0) ∨ (par1 img 2 = 1 ∧ 255 < par2 img 3)) : issueAsk img n = none := by
  have inside (outside : par1 img 0 = 0 ∨ 24 < par1 img 0) : issueAsk img n = none := by
    unfold issueAsk
    rw [asCell_eq_none outside]
    rfl
  rcases bad with zero | high | rest
  · exact inside (.inl zero)
  · exact inside (.inr high)
  unfold issueAsk
  cases asCell (par1 img 0) with
  | none => rfl
  | some c =>
    by_cases slot : goodSlot (par1 img 1) = false
    · exact if_pos slot
    obtain ⟨low, high⟩ := goodSlot_iff.mp (Bool.not_eq_false _ ▸ slot)
    refine (if_neg slot).trans ?_
    rcases rest with zero | above | mode | ⟨byNumber, zero⟩ | ⟨byClass, above⟩
    · omega
    · omega
    · match par1 img 2, mode with
      | _ + 2, _ => rfl
    · rw [byNumber, zero]
      rfl
    · rw [byClass]
      exact if_neg (Nat.not_le.mpr above)

theorem issueAsk_eq_some {a : Ask} (cell : par1 img 0 = c.val + 1) (low : 1 ≤ par1 img 1) (high : par1 img 1 ≤ 240)
    (mode : (par1 img 2 = 0 ∧ par2 img 3 ≠ 0 ∧ a = ⟨c, par1 img 1, .order n, none, par2 img 3⟩) ∨
      (par1 img 2 = 1 ∧ par2 img 3 ≤ 255 ∧ a = ⟨c, par1 img 1, .order n, some (par2 img 3), 0⟩)) :
    issueAsk img n = some a := by
  have slot : ¬ goodSlot (par1 img 1) = false := by simp [goodSlot_iff.mpr ⟨low, high⟩]
  unfold issueAsk
  rw [cell, asCell_addr]
  rcases mode with ⟨mode, number, rfl⟩ | ⟨mode, cls, rfl⟩
  · simp [slot, mode, goodTool, number]
  · simp [slot, mode, cls]

end

/-! ## The issue opened (R133) -/

section
variable {s v : State} {a : Ask} {t : Nat} {i : IssueNo} {y : Tool} {n : SlotNo} {img : SlotImage}

/-- The tool claimed for a new issue, and its record filled (R133). -/
def State.withIssue (a : Ask) (t : Nat) (i : IssueNo) (y : Tool) (s : State) : State :=
  (s.claimTool t (.issue (s.issueId i))).modIssues fun m =>
    { m with records :=
        m.records.set i.1 { m.records.get i with issue := some (newIssue a t (y.pocket?.getD 0) s.clock) } i.2 }

theorem State.issueRec_withIssue : (s.withIssue a t i y).issueRec i =
    { s.issueRec i with issue := some (newIssue a t (y.pocket?.getD 0) s.clock) } :=
  (get_set ..).trans (if_pos rfl)

/-- An order's issue opened: its offer queued, or the issue closed at once (R133). -/
theorem State.openIssue_of_order {full : Option QueueRefusal} (origin : a.origin = .order n) (free : s.freeIssue = some i)
    (found : s.findTool t = some y)
    (queued : ((s.withIssue a t i y).setWork n (.issue (s.issueId i))).queueExchange a.cell
      (offerPayload (s.issueId i) a.slot y) (.issue (s.issueId i)) = (v, full)) :
    s.openIssue a t = if full = none then v else v.closeFailed i .noAnswer .notSent := by
  unfold State.withIssue at queued
  unfold State.openIssue
  rw [free, found]
  dsimp only
  rw [origin]
  dsimp only
  rw [queued]
  cases full <;> rfl

theorem State.withIssue_taken (kind : Nat) :
    (s.taken n kind img).withIssue a t i y = (s.withIssue a t i y).taken n kind img := rfl

end

/-! ## A result beside a record freed (R143) -/

theorem State.modIssues_completeWith (f : IssueManager → IssueManager) (n : SlotNo) (st : Status) (result buffer : List Byte) (s : State) :
    (s.completeWith n st result buffer).modIssues f = (s.modIssues f).completeWith n st result buffer := by
  have slot : (s.modIssues f).slot n = s.slot n := rfl
  unfold State.completeWith
  rw [slot]
  cases (s.slot n).context with
  | none => rfl
  | some c =>
    dsimp only
    cases c.output <;> rfl

/-- The close of an issue that an order opened (R143, R144). -/
theorem State.closeIssue_of_order {s : State} {i : IssueNo} {x y : Issue} {n : SlotNo} (result : Status)
    (isOpen : (s.issueRec i).issue = some x) (closed : y = { x with closed := some s.clock }) (origin : y.origin = .order n) :
    s.closeIssue i result = ((s.modTool y.tool (closeRelease y result)).freeRecord i).completeWith n result
      ((s.modTool y.tool (closeRelease y result)).issueResult (s.issueId i) y) [] := by
  rw [State.closeIssue_eq result isOpen closed, origin]
  exact State.modIssues_completeWith ..

/-- An issue that an order opened closes in the step that opened it: its claim given back, its record free. -/
theorem State.closeFailed_withIssue {s : State} {a : Ask} {t : Nat} {i : IssueNo} {y : Tool} {n : SlotNo} {kind : Nat}
    {img : SlotImage} {work : Work} (origin : a.origin = .order n) :
    ∃ (u : State) (result : List Byte), ((s.withIssue a t i y).started n kind img work).closeFailed i .noAnswer .notSent =
        (u.started n kind img work).completeWith n .noAnswer result [] ∧
      (u.issueRec i).issue = none ∧ u.link = s.link ∧ u.crib = s.crib ∧ u.reports = s.reports ∧ u.order = s.order := by
  have isOpen : (((s.withIssue a t i y).started n kind img work).issueRec i).issue =
      some (newIssue a t (y.pocket?.getD 0) s.clock) := congrArg IssueRecord.issue State.issueRec_withIssue
  have marked := congrArg IssueRecord.issue ((State.issueRec_modIssue i i
    (fun z => { z with withdraw := .notSent, failure := some .noAnswer })
    ((s.withIssue a t i y).started n kind img work)).trans (if_pos rfl))
  rw [isOpen] at marked
  have result : ((((s.withIssue a t i y).started n kind img work).issueRec i).issue.bind (·.failure)).getD .noAnswer =
      .noAnswer := by
    rw [isOpen]
    rfl
  unfold State.closeFailed
  dsimp only
  rw [result, State.closeIssue_of_order .noAnswer marked rfl origin]
  refine ⟨(((s.withIssue a t i y).modIssue i fun z => { z with withdraw := .notSent, failure := some .noAnswer }).modTool t
    (closeRelease { newIssue a t (y.pocket?.getD 0) s.clock with
      withdraw := .notSent, failure := some .noAnswer, closed := some s.clock } .noAnswer)).freeRecord i, _, rfl, ?_,
    rfl, rfl, rfl, rfl⟩
  rw [State.issueRec_freeRecord, if_pos rfl]

/-! ## The cases of ISSUE (R132) -/

section
variable {s : State} {img : SlotImage} {n : SlotNo} {a : Ask} {r : Reason}

theorem doIssue_of_bad (bad : issueAsk img n = none) : doIssue img n s = s.refuse n .badParam := by
  unfold doIssue
  rw [bad]

variable (asks : issueAsk img n = some a)
include asks

theorem doIssue_of_refused (check : s.acceptCheck a = some r) : doIssue img n s = s.refuse n r.toStatus := by
  unfold doIssue State.acceptIssue
  rw [asks]
  dsimp only
  rw [check]

theorem doIssue_of_unselected (check : s.acceptCheck a = none) (unselected : s.selectTool a = .error r) :
    doIssue img n s = s.refuse n r.toStatus := by
  unfold doIssue State.acceptIssue
  rw [asks]
  dsimp only
  rw [check]
  dsimp only
  rw [unselected]

theorem doIssue_of_selected {t : Nat} (check : s.acceptCheck a = none) (selected : s.selectTool a = .ok t) :
    doIssue img n s = s.openIssue a t := by
  unfold doIssue State.acceptIssue
  rw [asks]
  dsimp only
  rw [check]
  dsimp only
  rw [selected]

end

/-- Settles O35: the field checks of ISSUE, the checks and the selection of R128, and the issue opened or closed at once. -/
theorem issueOrder : Obligations.IssueOrder := by
  unfold Obligations.IssueOrder
  refine fun img n s ok => ⟨fun bad => ?_, fun c a cell low high mode => ?_⟩
  · exact exec_refuses (k := .issue) ok (doIssue_of_bad (issueAsk_eq_none bad))
  have asks := issueAsk_eq_some (n := n) cell low high mode
  have fields : a.origin = .order n ∧ a.cell = c ∧ a.slot = par1 img 1 := by
    rcases mode with ⟨-, -, rfl⟩ | ⟨-, -, rfl⟩ <;> exact ⟨rfl, rfl, rfl⟩
  obtain ⟨origin, isCell, isSlot⟩ := fields
  refine ⟨fun r check => ?_, fun r check unselected => ?_, fun t y i v full check selected found free queued => ?_⟩
  · exact exec_refuses (k := .issue) ok (doIssue_of_refused (s := s.taken n 0x12 img) asks check)
  · exact exec_refuses (k := .issue) ok (doIssue_of_unselected (s := s.taken n 0x12 img) asks check unselected)
  have work := doIssue_of_selected (s := s.taken n 0x12 img) asks check selected
  replace queued : (s.withIssue a t i y).queueExchange a.cell (offerPayload (s.issueId i) a.slot y) (.issue (s.issueId i)) =
      (v, full) := by
    rw [isCell, isSlot]
    exact queued
  have queuedNow := State.queueExchange_started (s := s.withIssue a t i y) (c := a.cell)
    (p := offerPayload (s.issueId i) a.slot y) (owner := .issue (s.issueId i)) n 0x12 img (.issue (s.issueId i))
  rw [queued, ← State.setWork_taken, ← State.withIssue_taken] at queuedNow
  have opens := State.openIssue_of_order (s := s.taken n 0x12 img) origin free found queuedNow
  refine ⟨fun accepted => ?_, fun refused => ?_⟩
  · have order := State.order_queueExchange a.cell (offerPayload (s.issueId i) a.slot y) (.issue (s.issueId i))
      (s.withIssue a t i y)
    rw [queued] at order
    exact exec_runs_on (k := .issue) ok (order ▸ ok.1.2) (work.trans (opens.trans (if_pos accepted)))
  · obtain ⟨reason, isReason⟩ := Option.ne_none_iff_exists'.mp refused
    obtain rfl := State.eq_of_queueExchange_refused (isReason ▸ queued)
    obtain ⟨u, result, closes, freed, link, crib, reports, order⟩ :=
      State.closeFailed_withIssue (s := s) (t := t) (i := i) (y := y) (kind := 0x12) (img := img)
        (work := .issue (s.issueId i)) origin
    exact ⟨u, result, exec_ends (k := .issue) ok (order ▸ ok.1.2) (work.trans (opens.trans ((if_neg refused).trans closes))),
      freed, link, crib, reports⟩

end Sys2Proof.Machine
end

section
/-! CLEAR_FAULT (R45, R46). -/

namespace Sys2Proof.Machine

section
variable {s u : State} {img : SlotImage} {n : SlotNo} {p : PocketNo}

theorem doClearFault_of_high (high : 512 ≤ par2 img 0) : doClearFault img n s = s.refuse n .badParam := by
  unfold doClearFault
  rw [asFin_eq_none high]

variable (isPocket : par2 img 0 = p.val)
include isPocket

theorem doClearFault_of_pocket : doClearFault img n s =
    if (s.pocket p).fault = .clear then s.refuse n .wrongState
    else if (s.pocket p).claim.isSome then s.refuse n .busy
    else s.clearFaultOf n p := by
  unfold doClearFault
  rw [isPocket, asFin_val]

theorem doClearFault_of_faulty (faulty : (s.pocket p).fault ≠ .clear) (free : (s.pocket p).claim = none) :
    doClearFault img n s = s.clearFaultOf n p := by
  rw [doClearFault_of_pocket isPocket, if_neg faulty, if_neg (by simp [free])]

end

/-! ## The cases by fault and sensor (R45, R46) -/

section
variable {s u : State} {n : SlotNo} {p : PocketNo}

theorem State.clearFaultOf_of_jam (jam : (s.pocket p).fault = .lockJam) : s.clearFaultOf n p =
    if (s.pocket p).lock = .jammed then (s.sendRelock p).setWork n (.clearRelock p) else s.refuse n .busy := by
  unfold State.clearFaultOf
  dsimp only
  rw [jam]

theorem State.clearFaultOf_of_absent (fault : (s.pocket p).fault = .forced ∨ (s.pocket p).fault = .unknownItem)
    (absent : (s.pocket p).sensor = .absent) : s.clearFaultOf n p = s.clearNow n p := by
  unfold State.clearFaultOf
  dsimp only
  rw [absent]
  rcases fault with fault | fault <;> rw [fault]

theorem State.clearFaultOf_of_forced (fault : (s.pocket p).fault = .forced) (present : (s.pocket p).sensor = .present) :
    s.clearFaultOf n p = s.refuse n .wrongState := by
  unfold State.clearFaultOf
  dsimp only
  rw [fault, present]

section
variable (fault : (s.pocket p).fault = .unknownItem) (present : (s.pocket p).sensor = .present)
include fault present

theorem State.clearFaultOf_of_made {num : Nat} (made : s.requestRemoval .clearOut p (.slot n) = (u, .made num p)) :
    s.clearFaultOf n p = u.setWork n (.clearOut p num) := by
  unfold State.clearFaultOf
  dsimp only
  rw [fault, present]
  dsimp only
  rw [made]

theorem State.clearFaultOf_of_denied {st : Status} (denied : s.requestRemoval .clearOut p (.slot n) = (u, .denied st)) :
    s.clearFaultOf n p = u.refuse n st := by
  unfold State.clearFaultOf
  dsimp only
  rw [fault, present]
  dsimp only
  rw [denied]

end

/-- An unclaimed pocket with an unknown item passes the checks of a CLEAR_OUT (R36). -/
theorem State.removalCheck_clearOut (fault : (s.pocket p).fault = .unknownItem) (present : (s.pocket p).sensor = .present)
    (free : (s.pocket p).claim = none) (empty : (s.pocket p).content = none) : s.removalCheck .clearOut p = none := by
  have permits : (s.attributeOf p).permits .clearOut = true := by cases s.attributeOf p <;> rfl
  unfold State.removalCheck
  dsimp only
  rw [if_neg (by simp [permits]), if_neg (by simp [free]), if_pos rfl, if_pos ⟨fault, present, empty⟩]

theorem State.clearNow_eq : s.clearNow n p =
    (s.modPocket p fun k => { k with fault := .clear, stamp := s.clock }).complete n .ok (le 1 0) := by
  have clear : ((s.changePocket p fun k => { k with fault := .clear }).pocket p).fault = .clear :=
    congrArg Pocket.fault ((State.pocket_changePocket ..).trans (if_pos rfl))
  unfold State.clearNow State.clearResult
  dsimp only
  rw [clear]
  rfl

theorem State.requestRemoval_clearOut_of_full (check : s.removalCheck .clearOut p = none) (budget : s.crib.lockBudget ≤ s.budgetCount)
    (queue : 16 ≤ s.queuedCount) {owner : Owner} : s.requestRemoval .clearOut p owner = (s, .denied .cribBusy) := by
  refine State.requestRemoval_of_busy check (Bool.eq_false_iff.mpr fun room => ?_)
  have := State.cribHasRoom_iff.mp room
  omega

end

/-- Settles O38: CLEAR_FAULT by the fault, the lock and the sensor of its pocket. -/
theorem clearFaultOrder : Obligations.ClearFaultOrder := by
  unfold Obligations.ClearFaultOrder
  refine fun img n s ok => ⟨fun high => ?_, fun p isPocket => ⟨fun clear => ?_, fun faulty claimed => ?_, fun free =>
    ⟨fun jam jammed => ?_, fun jam closing => ?_, fun fault absent => ?_, fun fault present => ?_, fun fault present empty =>
      ⟨fun u num made => ?_, fun budget queue => ?_⟩⟩⟩⟩
  · exact exec_refuses (k := .clearFault) ok (doClearFault_of_high high)
  · exact exec_refuses (k := .clearFault) ok
      ((doClearFault_of_pocket (s := s.taken n 0x16 img) isPocket).trans (if_pos clear))
  · exact exec_refuses (k := .clearFault) ok
      ((doClearFault_of_pocket (s := s.taken n 0x16 img) isPocket).trans ((if_neg faulty).trans (if_pos claimed)))
  all_goals
    have work (faulty : (s.pocket p).fault ≠ .clear) :=
      doClearFault_of_faulty (n := n) (s := s.taken n 0x16 img) isPocket faulty free
  · have waits := State.clearFaultOf_of_jam (n := n) (s := s.taken n 0x16 img) jam
    rw [if_pos (by exact jammed)] at waits
    exact exec_starts (k := .clearFault) ok ok.1.2 ((work (by simp [jam])).trans waits)
  · have busy := State.clearFaultOf_of_jam (n := n) (s := s.taken n 0x16 img) jam
    rw [if_neg (by exact fun jammed => nomatch closing.symm.trans jammed)] at busy
    exact exec_refuses (k := .clearFault) ok ((work (by simp [jam])).trans busy)
  · have clears := (State.clearFaultOf_of_absent (n := n) (s := s.taken n 0x16 img) fault absent).trans State.clearNow_eq
    have faulty : (s.pocket p).fault ≠ .clear := by
      rcases fault with fault | fault <;> simp [fault]
    exact exec_completes (k := .clearFault) (u := s.modPocket p fun k => { k with fault := .clear, stamp := s.clock }) ok ok.1.2
      ((work faulty).trans clears)
  · exact exec_refuses (k := .clearFault) ok ((work (by simp [fault])).trans
      (State.clearFaultOf_of_forced (s := s.taken n 0x16 img) fault present))
  all_goals have answer := State.requestRemoval_taken n 0x16 img .clearOut p (.slot n) s
  · rw [made] at answer
    have order := (State.requestRemoval_frame .clearOut p (.slot n) s).2.1
    rw [made] at order
    exact exec_starts (k := .clearFault) ok (order ▸ ok.1.2) ((work (by simp [fault])).trans
      (State.clearFaultOf_of_made (s := s.taken n 0x16 img) fault present answer))
  · rw [State.requestRemoval_clearOut_of_full (State.removalCheck_clearOut fault present free empty) budget queue] at answer
    exact exec_refuses (k := .clearFault) ok ((work (by simp [fault])).trans
      (State.clearFaultOf_of_denied (s := s.taken n 0x16 img) fault present answer))

end Sys2Proof.Machine
end

section
/-! SCAN (R190, R191). -/

namespace Sys2Proof.Machine

/-! ## The list as it is written (R183, R190) -/

/-- A list that a SCAN writes: whole entries of one size from the start index on, rising. -/
def ScanEntries (start size : Nat) (entries : List ScanEntry) : Prop :=
  (∀ e ∈ entries, e.2.length = size ∧ start ≤ e.1) ∧ (entries.map (·.1)).Pairwise (· < ·)

/-- A list of entries by a rising key. -/
theorem ScanEntries.of_map {α : Type} {start size : Nat} {l : List α} {key : α → Nat} {bytes : α → List Byte}
    (rising : l.Pairwise fun a b => key a < key b) (reaches : ∀ a ∈ l, start ≤ key a) (length : ∀ a, (bytes a).length = size) :
    ScanEntries start size (l.map fun a => (key a, bytes a)) := by
  refine ⟨fun e isIn => ?_, ?_⟩
  · obtain ⟨a, member, rfl⟩ := List.mem_map.mp isIn
    exact ⟨length a, reaches a member⟩
  · rw [List.map_map, List.pairwise_map]
    exact rising

theorem exec_scan_of_entries {img : SlotImage} {n : SlotNo} {s : State} {start size : Nat} {extra : List Byte}
    {entries : List ScanEntry} (ok : s.accepts .scan img n)
    (scans : doScan img n (s.taken n 0x15 img) = (s.taken n 0x15 img).writeScan n start size img.bufLength.toNat extra entries) :
    exec (.scan img) s = .next (s.answered n 0x15 img .ok
      (le 2 (min (img.bufLength.toNat / size) entries.length) ++
        le 2 ((((entries.take (img.bufLength.toNat / size)).getLast?).map fun e => e.1 + 1).getD start) ++
        flag (img.bufLength.toNat / size < entries.length) ++ extra)
      ((entries.take (img.bufLength.toNat / size)).flatMap (·.2))) := by
  have more : decide (min (img.bufLength.toNat / size) entries.length < entries.length) =
      decide (img.bufLength.toNat / size < entries.length) := by
    rw [decide_eq_decide]
    omega
  unfold State.writeScan at scans
  dsimp only at scans
  rw [List.length_take, more] at scans
  exact exec_completes (k := .scan) ok ok.1.2 scans

/-! ## POCKETS -/

theorem State.scanPockets_eq (start : Nat) (s : State) : s.scanPockets start =
    ((List.finRange 512).filter fun p => decide (start ≤ p.val) &&
      (decide ((s.pocket p).fault ≠ .clear) || decide ((s.pocket p).lock ≠ .locked) ||
        ((s.pocket p).sensor == .present) != (s.pocket p).content.isSome)).map fun p =>
      (p.val, fit 16 (le 1 (presence [(s.pocket p).content.isSome, (s.pocket p).claim.isSome]) ++ le 2 p.val ++
        le 2 ((s.pocket p).content.getD 0) ++ le 1 (s.pocket p).sensor.code ++ le 1 (s.pocket p).lock.code ++
        le 1 (s.pocket p).fault.code ++ le 2 ((s.pocket p).claim.getD 0) ++ le 4 (s.pocket p).stamp.toNat)) := by
  unfold State.scanPockets State.pocketsWhere indices
  refine congrArg _ (List.filter_congr fun p _ => ?_)
  rw [Bool.eq_iff_iff]
  simp only [Pocket.away, Pocket.mismatch, Bool.and_eq_true, Bool.or_eq_true, decide_eq_true_eq, bne_iff_ne]

theorem scanEntries_scanPockets (start : Nat) (s : State) : ScanEntries start 16 (s.scanPockets start) := by
  refine ScanEntries.of_map (List.Pairwise.filter _ (List.pairwise_lt_finRange 512)) (fun p isIn => ?_) fun p => length_fit ..
  have picked := (List.mem_filter.mp isIn).2
  simp only [Bool.and_eq_true, decide_eq_true_eq] at picked
  exact picked.1

/-! ## CELLS -/

theorem scanEntries_scanCells (start : Nat) (s : State) : ScanEntries start 16 (s.scanCells start) := by
  refine ScanEntries.of_map (List.Pairwise.filter _ ?_) (fun c isIn => ?_) fun c => length_fit ..
  · exact (List.pairwise_lt_finRange 24).imp fun less => Nat.succ_lt_succ less
  · simpa using (List.mem_filter.mp isIn).2

/-! ## ISSUES -/

/-- The bytes of one open issue, each field at its place (R191, log 14). -/
theorem Issue.scanBytes_eq (stamp : Option Stamp → List Byte)
    (isStamp : ∀ t, stamp t = match t with | some t => le 4 t.toNat | none => List.replicate 4 0) (id : Nat) (x : Issue) :
    x.scanBytes id = fit 48 (le 1 (presence [x.failure.isSome, x.request.isSome, x.opened.isSome, x.unlocked.isSome,
        x.removed.isSome, x.closed.isSome]) ++ le 1 id ++ le 2 x.tool ++
      le 1 (x.cell.val + 1) ++ le 1 x.slot ++ x.origin.bytes ++
      flag x.byClass.isSome ++ le 1 (x.byClass.getD 0) ++ le 1 x.phase.code ++ le 1 x.offer.code ++
      flag x.cancelPending ++ le 2 ((x.failure.map fun st : Status => st.code).getD 0) ++ le 2 x.pocket.val ++
      le 2 (x.request.getD 0) ++ le 1 x.tries ++ le 1 x.deferrals ++ le 2 x.losses ++ le 1 x.withdraw.code ++
      stamp x.opened ++ stamp x.unlocked ++ stamp x.removed ++ stamp x.closed) := by
  have same (t : Option Stamp) : stampField t = stamp t := by
    rw [isStamp]
    cases t <;> rfl
  simp only [Issue.scanBytes, Issue.stamps, List.flatMap_cons, List.flatMap_nil, same, List.append_assoc, List.append_nil]
  rfl

theorem State.scanIssues_eq (start : Nat) (s : State) : s.scanIssues start =
    (List.finRange 32).filterMap fun i => if i.val < start then none else
      (s.issueRec i).issue.map fun x => (i.val, x.scanBytes (s.issueId i)) := by
  unfold State.scanIssues State.openIssues
  rw [List.filter_filterMap, List.map_filterMap]
  refine List.filterMap_congr fun i _ => ?_
  cases (s.issueRec i).issue with
  | none => simp
  | some x => by_cases low : i.val < start <;> simp [Option.filter, low]

theorem scanEntries_scanIssues (start : Nat) (s : State) : ScanEntries start 48 (s.scanIssues start) := by
  refine ScanEntries.of_map (key := fun p : IssueNo × Issue => p.1.val) (List.Pairwise.filter _ ?_) (fun p isIn => ?_)
    fun p => length_fit ..
  · refine (List.pairwise_lt_finRange 32).filterMap _ fun i j less p isP q isQ => ?_
    obtain ⟨x, -, rfl⟩ := Option.map_eq_some_iff.mp isP
    obtain ⟨y, -, rfl⟩ := Option.map_eq_some_iff.mp isQ
    exact less
  · simpa using (List.mem_filter.mp isIn).2

/-! ## REQUESTS -/

theorem insertByPocket_eq (r : Request) (l : List Request) :
    insertByPocket r l = l.orderedInsert (fun q r => q.pocket ≤ r.pocket) r := by
  induction l with
  | nil => rfl
  | cons q l ih => rw [insertByPocket, List.orderedInsert_cons, ih]

/-- The requests not QUEUED, in pocket order. -/
theorem foldr_insertByPocket (l : List Request) :
    l.foldr insertByPocket [] = l.insertionSort fun q r => q.pocket ≤ r.pocket := by
  induction l with
  | nil => rfl
  | cons r l ih => rw [List.foldr_cons, ih, insertByPocket_eq, List.insertionSort_cons]

theorem perm_foldr_insertByPocket (l : List Request) : (l.foldr insertByPocket []).Perm l := by
  rw [foldr_insertByPocket]
  exact List.perm_insertionSort _ l

theorem pairwise_foldr_insertByPocket (l : List Request) :
    (l.foldr insertByPocket []).Pairwise fun q r => q.pocket ≤ r.pocket := by
  rw [foldr_insertByPocket]
  have total : Std.Total fun q r : Request => q.pocket ≤ r.pocket := ⟨fun q r => le_total q.pocket r.pocket⟩
  have trans : IsTrans Request fun q r => q.pocket ≤ r.pocket := ⟨fun _ _ _ => le_trans⟩
  exact List.pairwise_insertionSort _ l

/-- The bytes of one request, each field at its place (R191, log 14). -/
theorem State.requestBytes_eq (stamp : Option Stamp → List Byte)
    (isStamp : ∀ t, stamp t = match t with | some t => le 4 t.toNat | none => List.replicate 4 0) (pos : Nat) (r : Request)
    (s : State) :
    s.requestBytes pos r = fit 20 (le 1 (presence [r.tool.isSome, r.state == .queued, r.window.isSome, r.outcome.isSome]) ++
      le 2 r.number ++ le 1 r.movement.code ++ le 2 r.pocket.val ++ le 2 (r.tool.getD 0) ++ claimField r.owner ++
      le 1 r.state.code ++ flag r.movement.inserts ++ le 1 (if r.state == .queued then pos else 0) ++
      stamp (r.window.map fun w => s.clock + BitVec.ofNat 32 w) ++
      le 1 ((r.outcome.map fun o : MoveOutcome => o.code).getD 0)) := by
  have same (t : Option Stamp) : stampField t = stamp t := by
    rw [isStamp]
    cases t <;> rfl
  simp only [State.requestBytes, same, Option.isSome_map]

theorem scanEntries_scanRequests (start : Nat) (s : State) : ScanEntries start 20 (s.scanRequests start) := by
  refine ScanEntries.of_map (key := fun p : Request × Nat => p.2) (List.Pairwise.filter _ ?_) (fun p isIn => ?_)
    fun p => length_fit ..
  · rw [← List.pairwise_map, List.zipIdx_map_snd]
    exact List.pairwise_lt_range'
  · simpa using (List.mem_filter.mp isIn).2

end Sys2Proof.Machine
end

section
/-! SCAN settled by its four lists (R190, R191). -/

namespace Sys2Proof.Machine

section
variable {img : SlotImage} {n : SlotNo} {s : State}

theorem doScan_pockets (kind : par1 img 0 = 0) (start : par2 img 1 ≤ 511) : doScan img n s =
    s.writeScan n (par2 img 1) 16 img.bufLength.toNat [] (s.scanPockets (par2 img 1)) := by
  unfold doScan
  dsimp only
  rw [kind]
  exact if_pos start

theorem doScan_issues (kind : par1 img 0 = 1) (start : par2 img 1 ≤ 31) : doScan img n s =
    s.writeScan n (par2 img 1) 48 img.bufLength.toNat [] (s.scanIssues (par2 img 1)) := by
  unfold doScan
  dsimp only
  rw [kind]
  exact if_pos start

theorem doScan_cells (kind : par1 img 0 = 2) (start : 1 ≤ par2 img 1 ∧ par2 img 1 ≤ 24) : doScan img n s =
    s.writeScan n (par2 img 1) 16 img.bufLength.toNat [] (s.scanCells (par2 img 1)) := by
  unfold doScan
  dsimp only
  rw [kind]
  exact if_pos start

theorem doScan_requests (kind : par1 img 0 = 3) (start : par2 img 1 ≤ 23) : doScan img n s =
    s.writeScan n (par2 img 1) 20 img.bufLength.toNat (le 1 s.crib.lockBudget ++ le 2 s.budgetCount ++ le 1 s.queuedCount)
      (s.scanRequests (par2 img 1)) := by
  unfold doScan
  dsimp only
  rw [kind]
  exact if_pos start

theorem doScan_of_bad (bad : 3 < par1 img 0 ∨ (par1 img 0 = 0 ∧ 511 < par2 img 1) ∨ (par1 img 0 = 1 ∧ 31 < par2 img 1) ∨
    (par1 img 0 = 2 ∧ (par2 img 1 = 0 ∨ 24 < par2 img 1)) ∨ (par1 img 0 = 3 ∧ 23 < par2 img 1)) :
    doScan img n s = s.refuse n .badParam := by
  unfold doScan
  dsimp only
  rcases bad with kind | ⟨kind, high⟩ | ⟨kind, high⟩ | ⟨kind, outside⟩ | ⟨kind, high⟩
  · match par1 img 0, kind with
    | _ + 4, _ => rfl
  all_goals
    rw [kind]
    exact if_neg (by omega)

end

/-- Settles O37: SCAN writes each list from its start index on, or refuses the kind or the start. -/
theorem scanOrder : Obligations.ScanOrder := by
  unfold Obligations.ScanOrder
  rintro img n s ok start writes stamp rfl isStamp means
  have written {size : Nat} {extra : List Byte} {entries : List ScanEntry} (rising : ScanEntries (par2 img 1) size entries)
      (scans : doScan img n (s.taken n 0x15 img) =
        (s.taken n 0x15 img).writeScan n (par2 img 1) size img.bufLength.toNat extra entries) :
      writes size extra entries := (means ..).mpr ⟨rising.1, rising.2, exec_scan_of_entries ok scans⟩
  refine ⟨fun kind first => ?_, fun kind first => ?_, fun kind low high => ?_, fun kind first => ?_, fun bad => ?_⟩
  · rw [← State.scanPockets_eq]
    exact written (scanEntries_scanPockets _ s) (doScan_pockets kind first)
  · have scan := written (scanEntries_scanIssues _ s) (doScan_issues kind first)
    rw [State.scanIssues_eq] at scan
    refine cast (congrArg _ (List.filterMap_congr fun i _ => ?_)) scan
    refine ite_congr rfl (fun _ => rfl) fun _ => Option.map_congr fun x _ => ?_
    rw [Issue.scanBytes_eq stamp isStamp]
    cases x.origin <;> rfl
  · exact written (scanEntries_scanCells _ s) (doScan_cells kind ⟨low, high⟩)
  · refine ⟨(s.crib.requests.filter fun r => r.state != .queued).foldr insertByPocket [], perm_foldr_insertByPocket _,
      pairwise_foldr_insertByPocket _, ?_⟩
    have scan := written (scanEntries_scanRequests _ s) (doScan_requests kind first)
    refine cast (congrArg _ (List.map_congr_left fun p _ => ?_)) scan
    rw [State.requestBytes_eq stamp isStamp]
    cases p.1.owner <;> rfl
  · exact exec_refuses (k := .scan) ok (doScan_of_bad bad)

end Sys2Proof.Machine
end

section
/-! Requests made and started (R22, R29, R33 to R37). -/

namespace Sys2Proof.Machine

theorem Pocket.vacant_iff {k : Pocket} : k.vacant = true ↔
    k.content = none ∧ k.sensor = .absent ∧ k.claim = none ∧ k.lock = .locked ∧ k.fault = .clear := by
  simp only [Pocket.vacant, Bool.and_eq_true, Option.isNone_iff_eq_none, beq_iff_eq, and_assoc]

theorem Pocket.stocked_iff {k : Pocket} :
    k.stocked = true ↔ k.content.isSome = true ∧ k.sensor = .present ∧ k.fault = .clear := by
  simp only [Pocket.stocked, Bool.and_eq_true, beq_iff_eq, and_assoc]

theorem Attribute.permits_iff (a : Attribute) (mv : Movement) : a.permits mv = true ↔
    mv = .clearOut ∨ a = .openAll ∨ (a = .issueOnly ∧ mv ≠ .returnPut) ∨
      (a = .returnOnly ∧ (mv = .returnPut ∨ mv = .fetch ∨ mv = .removeOut)) := by
  cases a <;> cases mv <;> simp [Attribute.permits]

/-! ## Destinations (R33, R34) -/

section
variable {s : State} {p : PocketNo}

/-- A pocket that a STORE may take (R33). -/
def State.storable (s : State) (p : PocketNo) : Bool := (s.pocket p).vacant && (s.attributeOf p).permits .store

/-- A pocket that a RETURN_PUT may take in a drawer by its opening rule (R34). -/
def State.returnable (s : State) (a : Attribute) (p : PocketNo) : Bool := (s.pocket p).vacant && s.attributeOf p == a

theorem State.storable_iff : s.storable p = true ↔ (s.pocket p).vacant = true ∧ (s.attributeOf p).permits .store = true :=
  (Bool.and_eq_true ..).to_iff

theorem State.returnable_iff {a : Attribute} :
    s.returnable a p = true ↔ (s.pocket p).vacant = true ∧ s.attributeOf p = a := by
  rw [State.returnable, Bool.and_eq_true, beq_iff_eq]

theorem State.storePocket_of_home (fits : s.storable p = true) : s.storePocket (some p) = some p := by
  have kept : (some p).filter s.storable = some p := if_pos fits
  unfold State.storable at kept
  unfold State.storePocket
  dsimp only
  rw [kept]

/-- Where no home pocket fits, a STORE takes the lowest that does. -/
theorem State.storePocket_of_away {home : Option PocketNo} (away : ∀ h, home = some h → s.storable h = false) :
    s.storePocket home = (indices s.storable).head? := by
  have dropped : home.filter s.storable = none := by
    cases home with
    | none => rfl
    | some h => exact if_neg (Bool.eq_false_iff.mp (away h rfl))
  unfold State.storable at dropped ⊢
  unfold State.storePocket
  dsimp only
  rw [dropped]

theorem State.returnPocket_eq : s.returnPocket =
    ((indices (s.returnable .returnOnly)).head?).orElse fun _ => (indices (s.returnable .openAll)).head? := rfl

end

/-! ## The checks of a removal (R36) -/

section
variable {s : State} {p : PocketNo} {mv : Movement} {owner : Owner}

theorem State.removalCheck_of_denied (denied : (s.attributeOf p).permits mv = false) :
    s.removalCheck mv p = some .drawerDenies := if_pos denied

theorem State.removalCheck_of_free (permits : (s.attributeOf p).permits mv = true) (free : (s.pocket p).claim = none) :
    s.removalCheck mv p = if mv = .clearOut then
        if (s.pocket p).fault = .unknownItem ∧ (s.pocket p).sensor = .present ∧ (s.pocket p).content = none then none
        else some .wrongState
      else if (s.pocket p).stocked then none else some .notStocked :=
  (if_neg (by simp [permits])).trans (if_neg (by simp [free]))

/-- A removal that passes its checks: refused for want of room, or made (R36). -/
theorem State.requestRemoval_of_checked (check : s.removalCheck mv p = none) :
    (s.crib.lockBudget ≤ s.budgetCount → 16 ≤ s.queuedCount → s.requestRemoval mv p owner = (s, .denied .cribBusy)) ∧
    (s.budgetCount < s.crib.lockBudget ∨ s.queuedCount < 16 → ∃ u num,
      s.requestRemoval mv p owner = (u, .made num p) ∧ s.requestMade u num mv p none owner) := by
  refine ⟨fun budget queue => State.requestRemoval_of_busy check ?_, fun room => ?_⟩
  · exact Bool.eq_false_iff.mpr fun room => by have := State.cribHasRoom_iff.mp room; omega
  · exact ⟨_, _, State.requestRemoval_of_room check (State.cribHasRoom_iff.mpr room), State.requestMade_placeRequest ..⟩

/-- An insertion with a destination: refused for want of room, or made (R36). -/
theorem State.requestInsertion_of_destination {tool : Nat} (place : s.destination mv tool = some p) :
    (s.crib.lockBudget ≤ s.budgetCount → 16 ≤ s.queuedCount →
      s.requestInsertion mv tool owner = (s, .denied .cribBusy)) ∧
    (s.budgetCount < s.crib.lockBudget ∨ s.queuedCount < 16 → ∃ u num,
      s.requestInsertion mv tool owner = (u, .made num p) ∧ s.requestMade u num mv p (some tool) owner) := by
  rw [State.requestInsertion_of_pocket place]
  refine ⟨fun budget queue => if_neg fun room => ?_, fun room => ?_⟩
  · have := State.cribHasRoom_iff.mp room
    omega
  · exact ⟨_, _, if_pos (State.cribHasRoom_iff.mpr room), State.requestMade_placeRequest ..⟩

end

/-! ## Requests started (R37) -/

section
variable {s : State}

theorem State.nextToStart_eq_none :
    s.nextToStart = none ↔ ∀ r ∈ s.crib.requests, ¬ (r.state = .queued ∧ (s.attributeOf r.pocket).permits r.movement = true) := by
  simp only [State.nextToStart, List.find?_eq_none, Bool.and_eq_true, beq_iff_eq]

/-- Once nothing starts, the budget is used up or no request could start. -/
theorem State.of_startOne_fixed (fixed : s.startOne = s) :
    s.crib.lockBudget ≤ s.budgetCount ∨ s.nextToStart = none := by
  by_contra starts
  obtain ⟨below, next⟩ : s.budgetCount < s.crib.lockBudget ∧ s.nextToStart ≠ none := by
    rw [not_or, Nat.not_le] at starts
    exact starts
  obtain ⟨r, isNext⟩ := Option.ne_none_iff_exists'.mp next
  rw [State.startOne_of_next below isNext] at fixed
  have listed : s.crib.requests.map (fun q => if q.number = r.number then { q with state := .opening } else q) =
      s.crib.requests := congrArg (fun t : State => t.crib.requests) fixed
  rw [← List.map_id s.crib.requests, List.map_map, List.map_inj_left] at listed
  have same := listed r (List.mem_of_find?_eq_some isNext)
  have queued := List.find?_some isNext
  simp only [Function.comp_id, if_true, id] at same
  rw [← same] at queued
  simp at queued

theorem State.repeat_startOne_fixed (n : Nat) (s : State) (enough : s.queuedCount ≤ n) :
    (repeatStep State.startOne n s).startOne = repeatStep State.startOne n s := by
  induction n generalizing s with
  | zero => exact s.startOne_progress.resolve_right (by omega)
  | succ n ih =>
    rcases s.startOne_progress with fixed | less
    · rw [repeatStep_fixed fixed, fixed]
    · exact ih s.startOne (by omega)

theorem State.startQueued_fixed (s : State) : s.startQueued.startOne = s.startQueued :=
  State.repeat_startOne_fixed _ s le_rfl

end

/-- Settles O41: the tests, destinations and checks of a request, the request made, and the starts of queued requests. -/
theorem requestsMade : Obligations.RequestsMade := by
  unfold Obligations.RequestsMade
  refine ⟨fun k => ⟨Pocket.vacant_iff, Pocket.stocked_iff⟩, Attribute.permits_iff, fun s => ⟨fun fits home means => ?_,
    fun fits means => ?_, fun mv p owner removal => ⟨fun denied => ?_, fun permits claimed => ?_, fun permits free =>
      ⟨fun other bare => ?_, fun good => ?_, fun clear bad => ?_⟩⟩, fun mv tool owner dest isDest => ?_,
    fun startable means => ⟨fun before r after below split starts early t isT => ?_, fun stops => ?_⟩, ?_⟩⟩
  · replace means (p : PocketNo) : fits p ↔ s.storable p = true := (means p).trans State.storable_iff.symm
    simp only [means, Bool.not_eq_true]
    refine ⟨fun h isHome holds => isHome ▸ State.storePocket_of_home holds, fun away => ?_⟩
    rw [State.storePocket_of_away away]
    exact ⟨fun p => head?_indices_eq_some, head?_indices_eq_none⟩
  · replace means (a : Attribute) (p : PocketNo) : fits a p ↔ s.returnable a p = true :=
      (means a p).trans State.returnable_iff.symm
    simp only [means, Bool.not_eq_true, State.returnPocket_eq]
    refine ⟨fun p holds below => by rw [head?_indices_eq_some holds below]; rfl, fun none => ?_⟩
    rw [head?_indices_eq_none none, Option.orElse_none]
    exact ⟨fun p => head?_indices_eq_some, head?_indices_eq_none⟩
  · exact State.requestRemoval_of_denied (State.removalCheck_of_denied denied)
  · exact State.requestRemoval_of_denied (State.removalCheck_of_claimed permits claimed)
  · refine State.requestRemoval_of_denied ((State.removalCheck_of_free permits free).trans ((if_neg other).trans (if_neg ?_)))
    simp [bare]
  · refine State.requestRemoval_of_checked ((State.removalCheck_of_free permits free).trans ?_)
    rcases good with ⟨other, stocked⟩ | ⟨clear, item⟩
    · exact (if_neg other).trans (if_pos stocked)
    · exact (if_pos clear).trans (if_pos item)
  · exact State.requestRemoval_of_denied ((State.removalCheck_of_free permits free).trans ((if_pos clear).trans (if_neg bad)))
  · have place : s.destination mv tool = dest := by
      rcases isDest with ⟨rfl, isDest⟩ | ⟨rfl, isDest⟩ <;> rw [isDest] <;> rfl
    exact ⟨fun nowhere => State.requestInsertion_of_noRoom (place.trans nowhere),
      fun p isPocket => State.requestInsertion_of_destination (place.trans isPocket)⟩
  · have next : s.nextToStart = some r := by
      rw [State.nextToStart, List.find?_eq_some_iff_append]
      refine ⟨by simpa using (means r).mp starts, before, after, split, fun q isEarly => ?_⟩
      simpa [imp_iff_not_or] using (means q).not.mp (early q isEarly)
    have started : s.startOne = t := (State.startOne_of_next below next).trans isT.symm
    exact ⟨started, s.startQueued_startOne.trans (congrArg State.startQueued started)⟩
  · have fixed : s.startOne = s := State.startOne_of_none (stops.imp_right fun none =>
      State.nextToStart_eq_none.mpr fun r isIn => (means r).not.mp (none r isIn))
    exact ⟨fixed, repeatStep_fixed fixed _⟩
  · refine (State.of_startOne_fixed s.startQueued_fixed).imp_right fun none r isIn queued => ?_
    have drawers : s.startQueued.attributeOf r.pocket = s.attributeOf r.pocket := by
      obtain ⟨-, -, -, -, -, -, -, -, -, layout⟩ := s.startQueued_frame
      have same : s.startQueued.crib.drawers = s.crib.drawers := congrArg (·.drawers) layout
      rw [State.attributeOf, same, State.attributeOf]
    exact Bool.eq_false_iff.mpr fun permits => State.nextToStart_eq_none.mp none r isIn ⟨queued, drawers ▸ permits⟩

end Sys2Proof.Machine
end

section
/-! The lock table (R23, R24, R39, R41, R42). -/

namespace Sys2Proof.Machine

/-! ## Claims and requests of one pocket -/

section
variable {s : State} {p : PocketNo} {r : Request}

theorem State.crib_settle : s.settle.crib = s.crib := rfl

theorem State.crib_handReport (x : Report) : (s.handReport x).crib = s.crib :=
  have ⟨_, _, crib, _⟩ := State.handReport_frame x s
  crib

theorem State.crib_deliverMove (owner : Owner) (outcome : MoveOutcome) : (s.deliverMove owner outcome).crib = s.crib :=
  have ⟨_, crib, _⟩ := State.deliverMove_frame owner outcome s
  crib

theorem State.crib_deliverOpened (owner : Owner) : (s.deliverOpened owner).crib = s.crib :=
  have ⟨_, _, crib, _⟩ := State.deliverOpened_frame owner s
  crib

theorem State.crib_complete (n : SlotNo) (st : Status) (result : List Byte) : (s.complete n st result).crib = s.crib :=
  have ⟨_, _, crib, _⟩ := State.complete_frame n st result s
  crib

theorem State.pocket_of_crib {t : State} (crib : t.crib = s.crib) (q : PocketNo) : t.pocket q = s.pocket q :=
  congrArg (fun c : Crib => c.pockets.get q) crib

theorem State.pocket_setLock_self (lock : Lock) :
    (s.setLock p lock).pocket p = { s.pocket p with lock := lock, confirm := none, stamp := s.clock } :=
  (State.pocket_changePocket ..).trans (if_pos rfl)

theorem State.pocket_jam_self :
    (s.jam p).pocket p = { s.pocket p with lock := .jammed, fault := .lockJam, confirm := none, stamp := s.clock } :=
  (State.pocket_changePocket ..).trans (if_pos rfl)

theorem State.pocket_jam_of_ne {q : PocketNo} (other : q ≠ p) : (s.jam p).pocket q = s.pocket q :=
  (State.pocket_changePocket ..).trans (if_neg (Ne.symm other))

theorem State.requests_endRequest :
    (s.endRequest r).crib.requests = s.crib.requests.filter fun q => q.number != r.number := rfl

theorem State.pocket_endRequest_self : (s.endRequest r).pocket r.pocket = { s.pocket r.pocket with claim := none } :=
  (State.pocket_modPocket r.pocket r.pocket _ _).trans (if_pos rfl)

theorem State.pocket_endRequest_of_ne {q : PocketNo} (other : q ≠ r.pocket) : (s.endRequest r).pocket q = s.pocket q :=
  (State.pocket_modPocket r.pocket q _ _).trans (if_neg (Ne.symm other))

/-- The claim of a pocket and the requests at it agree (R35). -/
def State.agreesAt (s : State) (p : PocketNo) : Prop :=
  ∀ q ∈ s.crib.requests, q.pocket = p ↔ (s.pocket p).claim = some q.number

section
variable (agrees : s.agreesAt p)
include agrees

theorem State.pocket_of_requestAt (found : s.requestAt p = some r) : r.pocket = p :=
  have ⟨isIn, claim⟩ := State.of_requestAt found
  (agrees r isIn).mpr claim

/-- Where the claim names no request, none is at the pocket. -/
theorem State.none_at_of_requestAt (none : s.requestAt p = none) : ∀ q ∈ s.crib.requests, q.pocket ≠ p := by
  intro q isIn atP
  have claim := (agrees q isIn).mp atP
  rw [State.requestAt, claim, Option.bind_some, State.findRequest, List.find?_eq_none] at none
  exact none q isIn (beq_self_eq_true _)

/-- Once the request that the claim names has left, none is at the pocket. -/
theorem State.none_at_of_ended (found : s.requestAt p = some r) :
    ∀ q ∈ s.crib.requests.filter (fun q => q.number != r.number), q.pocket ≠ p ∧ q.number ≠ r.number := by
  intro q isIn
  obtain ⟨isIn, other⟩ := List.mem_filter.mp isIn
  have differ : q.number ≠ r.number := by simpa using other
  refine ⟨fun atP => differ ?_, differ⟩
  exact Option.some.inj (((agrees q isIn).mp atP).symm.trans (State.of_requestAt found).2)

end

/-! ## Starts leave other pockets alone (R37) -/

theorem State.repeatStep_keeps_prop {P : State → Prop} {f : State → State} (keeps : ∀ s, P s → P (f s)) (n : Nat) {s : State}
    (holds : P s) : P (repeatStep f n s) := by
  induction n generalizing s with
  | zero => exact holds
  | succ n ih => exact ih (keeps s holds)

/-- A pocket that no listed request is at, and a property of requests that does not look at their state. -/
theorem State.startOne_keeps_pocket {Q : Request → Prop} (blind : ∀ q st, Q q → Q { q with state := st })
    (away : ∀ q ∈ s.crib.requests, q.pocket ≠ p ∧ Q q) :
    s.startOne.pocket p = s.pocket p ∧ ∀ q ∈ s.startOne.crib.requests, q.pocket ≠ p ∧ Q q := by
  by_cases starts : s.budgetCount < s.crib.lockBudget ∧ s.nextToStart ≠ none
  · obtain ⟨below, next⟩ := starts
    obtain ⟨r, next⟩ := Option.ne_none_iff_exists'.mp next
    rw [State.startOne_of_next below next]
    refine ⟨?_, fun q isIn => ?_⟩
    · have elsewhere := (away r (List.mem_of_find?_eq_some next)).1
      exact (State.pocket_changePocket r.pocket p _ _).trans (if_neg elsewhere)
    · obtain ⟨q, listed, rfl⟩ := List.mem_map.mp isIn
      obtain ⟨elsewhere, holds⟩ := away q listed
      split
      · exact ⟨elsewhere, blind q _ holds⟩
      · exact ⟨elsewhere, holds⟩
  · rw [State.startOne_of_none]
    · exact ⟨rfl, away⟩
    · rw [not_and_or, Nat.not_lt, not_not] at starts
      exact starts

theorem State.startQueued_keeps_pocket {Q : Request → Prop} (blind : ∀ q st, Q q → Q { q with state := st })
    (away : ∀ q ∈ s.crib.requests, q.pocket ≠ p ∧ Q q) :
    s.startQueued.pocket p = s.pocket p ∧ ∀ q ∈ s.startQueued.crib.requests, q.pocket ≠ p ∧ Q q :=
  State.repeatStep_keeps_prop (P := fun t => t.pocket p = s.pocket p ∧ ∀ q ∈ t.crib.requests, q.pocket ≠ p ∧ Q q)
    (fun _ ⟨same, away⟩ => have ⟨kept, still⟩ := State.startOne_keeps_pocket blind away
      ⟨kept.trans same, still⟩) _ ⟨rfl, away⟩

end

/-! ## A jam (R24, R41, R42) -/

section
variable {s : State} {p : PocketNo} {r : Request}

/-- The Crib Controller after a lock confirm window has expired. -/
def State.jammed (p : PocketNo) (s : State) : State :=
  match s.requestAt p with
  | none => s.jam p
  | some r => (s.jam p).endRequest r

theorem State.crib_jamOpening : (s.jamOpening p).crib = (s.jammed p).crib := by
  unfold State.jamOpening State.jammed
  dsimp only
  cases s.requestAt p with
  | none => rfl
  | some r => exact (State.crib_handReport _).trans (State.crib_deliverMove ..)

theorem State.crib_jamClosing : (s.jamClosing p).crib = (s.jammed p).crib := by
  unfold State.jamClosing State.jammed
  dsimp only
  cases s.requestAt p with
  | some r => exact State.crib_handReport _
  | none =>
    cases s.relockOf p with
    | none => exact State.crib_handReport _
    | some n => exact State.crib_complete ..

theorem State.pocket_jammed (agrees : s.agreesAt p) :
    (s.jammed p).pocket p = { s.pocket p with
      lock := .jammed, fault := .lockJam, confirm := none, stamp := s.clock
      claim := if (s.requestAt p).isSome then none else (s.pocket p).claim } ∧
    ∀ q, q ≠ p → (s.jammed p).pocket q = s.pocket q := by
  unfold State.jammed
  cases found : s.requestAt p with
  | none => exact ⟨State.pocket_jam_self, fun q other => State.pocket_jam_of_ne other⟩
  | some r =>
    obtain rfl := State.pocket_of_requestAt agrees found
    refine ⟨?_, fun q other => (State.pocket_endRequest_of_ne other).trans (State.pocket_jam_of_ne other)⟩
    dsimp only
    rw [State.pocket_endRequest_self, State.pocket_jam_self]
    rfl

theorem State.requests_jammed (found : s.requestAt p = some r) :
    (s.jammed p).crib.requests = s.crib.requests.filter fun q => q.number != r.number := by
  unfold State.jammed
  rw [found]
  rfl

theorem execLockConfirm_of_idle (notOpening : (s.pocket p).lock ≠ .opening) (notClosing : (s.pocket p).lock ≠ .closing) :
    execLockConfirmWindowExpires p s = .next s := by
  unfold execLockConfirmWindowExpires
  dsimp only
  cases lock : (s.pocket p).lock with
  | opening => exact absurd lock notOpening
  | closing => exact absurd lock notClosing
  | _ => rfl

section
variable {w : Nat} (runs : (s.pocket p).confirm = some w)
include runs

theorem execLockConfirm_of_opening (opening : (s.pocket p).lock = .opening) :
    execLockConfirmWindowExpires p s = .next (s.jamOpening p).settle := by
  unfold execLockConfirmWindowExpires
  dsimp only
  rw [opening, runs]

theorem execLockConfirm_of_closing (closing : (s.pocket p).lock = .closing) :
    execLockConfirmWindowExpires p s = .next (s.jamClosing p).settle := by
  unfold execLockConfirmWindowExpires
  dsimp only
  rw [closing, runs]

theorem exec_jam (moves : (s.pocket p).lock = .opening ∨ (s.pocket p).lock = .closing) :
    ∃ t, exec (.lockConfirmWindowExpires p) s = .next t ∧ t.crib = (s.jammed p).crib := by
  rcases moves with opening | closing
  · exact ⟨_, execLockConfirm_of_opening runs opening, State.crib_jamOpening⟩
  · exact ⟨_, execLockConfirm_of_closing runs closing, State.crib_jamClosing⟩

end

end

/-! ## Confirmations (R24, R39, R41) -/

section
variable {s : State} {p : PocketNo} {r : Request}

theorem execReleased_of_opening (opening : (s.pocket p).lock = .opening) :
    execReleasedConfirmation p s = .next (s.confirmReleased p).settle := if_pos opening

theorem execEngaged_of_closing (closing : (s.pocket p).lock = .closing) :
    execEngagedConfirmation p s = .next (s.confirmEngaged p).settle := if_pos closing

theorem State.confirmReleased_of_none (none : s.requestAt p = none) : s.confirmReleased p = s.setLock p .opened := by
  unfold State.confirmReleased
  dsimp only
  rw [none]

theorem State.confirmReleased_of_some (found : s.requestAt p = some r) : s.confirmReleased p =
    ((s.setLock p .opened).modRequest r.number fun q =>
      { q with state := .opened, window := some (s.crib.windowFor r.movement) }).deliverOpened r.owner := by
  unfold State.confirmReleased
  dsimp only
  rw [found]

theorem State.pocket_confirmReleased (q : PocketNo) : (s.confirmReleased p).pocket q = (s.setLock p .opened).pocket q := by
  cases found : s.requestAt p with
  | none => rw [State.confirmReleased_of_none found]
  | some r =>
    rw [State.confirmReleased_of_some found]
    exact State.pocket_of_crib (State.crib_deliverOpened _) q

theorem State.requests_confirmReleased (found : s.requestAt p = some r) : (s.confirmReleased p).crib.requests =
    s.crib.requests.map fun q => if q.number = r.number then
      { q with
        state := .opened
        window := some (1000 * if r.movement.inserts then s.crib.insertWindow else s.crib.pickupWindow) }
      else q := by
  rw [State.confirmReleased_of_some found, State.crib_deliverOpened]
  rfl

theorem State.crib_relockConfirmed {n : SlotNo} :
    ∃ fault : Pocket → PocketFault, (s.relockConfirmed n p).crib = (s.changePocket p fun k => { k with fault := fault k }).crib :=
  ⟨_, State.crib_complete ..⟩

/-- An engaged confirmation: the lock, and what of the pocket stays; the request that the claim names leaves. -/
theorem State.pocket_confirmEngaged (agrees : s.agreesAt p) :
    ((s.confirmEngaged p).pocket p).lock = .locked ∧ ((s.confirmEngaged p).pocket p).confirm = none ∧
    ((s.confirmEngaged p).pocket p).content = (s.pocket p).content ∧
    ((s.confirmEngaged p).pocket p).sensor = (s.pocket p).sensor ∧
    ∀ r, s.requestAt p = some r → ((s.confirmEngaged p).pocket p).claim = none ∧
      ∀ q ∈ (s.confirmEngaged p).crib.requests, q.number ≠ r.number := by
  unfold State.confirmEngaged
  dsimp only
  cases found : s.requestAt p with
  | some r =>
    have away := State.none_at_of_ended agrees found
    obtain ⟨same, left⟩ := State.startQueued_keeps_pocket (s := (s.setLock p .locked).endRequest r)
      (Q := fun q => q.number ≠ r.number) (fun _ _ holds => holds) away
    have isP := State.pocket_of_requestAt agrees found
    have pocket := isP ▸ State.pocket_endRequest_self (s := s.setLock p .locked) (r := r)
    dsimp only
    rw [same, pocket, State.pocket_setLock_self]
    refine ⟨rfl, rfl, rfl, rfl, fun r' isR => ?_⟩
    obtain rfl := Option.some.inj isR
    exact ⟨rfl, fun q isIn => (left q isIn).2⟩
  | none =>
    have away : ∀ q ∈ s.crib.requests, q.pocket ≠ p ∧ True := fun q isIn =>
      ⟨State.none_at_of_requestAt agrees found q isIn, trivial⟩
    cases s.relockOf p with
    | none =>
      have same := (State.startQueued_keeps_pocket (s := s.setLock p .locked) (Q := fun _ => True)
        (fun _ _ _ => trivial) away).1
      dsimp only
      rw [same, State.pocket_setLock_self]
      exact ⟨rfl, rfl, rfl, rfl, fun r isR => (Option.some_ne_none r isR.symm).elim⟩
    | some n =>
      obtain ⟨fault, confirmed⟩ := State.crib_relockConfirmed (s := s.setLock p .locked) (p := p) (n := n)
      have same := (State.startQueued_keeps_pocket (s := (s.setLock p .locked).relockConfirmed n p) (Q := fun _ => True)
        (fun _ _ _ => trivial) (by rw [confirmed]; exact away)).1
      dsimp only
      rw [same, State.pocket_of_crib confirmed, State.pocket_changePocket, if_pos rfl, State.pocket_setLock_self]
      exact ⟨rfl, rfl, rfl, rfl, fun r isR => (Option.some_ne_none r isR.symm).elim⟩

end

/-- Settles O39: the lock table, by the lock and the request that the pocket's claim names. -/
theorem lockTable : Obligations.LockTable := by
  unfold Obligations.LockTable
  intro p s agrees
  refine ⟨fun idle => if_neg idle, fun idle => if_neg idle, execLockConfirm_of_idle, fun opening => ?_, fun closing => ?_, fun w runs moves => ?_⟩
  · refine ⟨_, execReleased_of_opening opening, (State.pocket_confirmReleased p).trans (State.pocket_setLock_self _),
      fun q other => (State.pocket_confirmReleased q).trans ((State.pocket_changePocket ..).trans (if_neg (Ne.symm other))),
      fun r found => State.requests_confirmReleased found⟩
  · obtain ⟨lock, confirm, content, sensor, ended⟩ := State.pocket_confirmEngaged agrees
    exact ⟨_, execEngaged_of_closing closing, lock, confirm, content, sensor, ended⟩
  · obtain ⟨t, runs, crib⟩ := exec_jam runs moves
    obtain ⟨atP, elsewhere⟩ := State.pocket_jammed agrees
    have pocket := State.pocket_of_crib crib
    have here := (pocket p).trans atP
    refine ⟨t, runs, ?_, ?_, ?_, ?_, ?_, ?_, fun q other => (pocket q).trans (elsewhere q other), fun r found => ⟨?_, ?_⟩⟩
    · rw [here]
    · rw [here]
    · rw [here]
    · rw [here]
    · rw [here]
    · rw [here]
    · rw [here, found]
      rfl
    · rw [crib, State.requests_jammed found]

end Sys2Proof.Machine
end

section
/-! Sensor changes that no request expects (R25 to R28, R48). -/

namespace Sys2Proof.Machine

/-! ## The first scan (R48) -/

theorem Crib.firstSensor_eq (c : Crib) (modules : Vector (Option Word) 16) (p : PocketNo) : c.firstSensor modules p =
    match (c.early.find? fun e => e.1 == p), modules.get (drawerOf p) with
    | some e, _ => e.2
    | none, some w => if w.getLsbD (p.val % 32) then .present else .absent
    | none, none => .absent := by
  unfold Crib.firstSensor scannedSensor
  cases c.early.find? fun e => e.1 == p with
  | some e => rfl
  | none => cases modules.get (drawerOf p) <;> rfl

theorem execFirstScan_of_done {modules : Vector (Option Word) 16} {s : State} (done : s.crib.scanDone = true) :
    execFirstScan modules s = .next s := if_pos done

theorem execFirstScan_of_first {modules : Vector (Option Word) 16} {s : State} (first : s.crib.scanDone = false) :
    execFirstScan modules s = .next (s.modCrib fun c => c.afterScan modules) := if_neg (Bool.eq_false_iff.mp first)

/-! ## Changes that no request expects (R25 to R28) -/

section
variable {s : State} {p : PocketNo}

theorem State.expecting_eq_none {insertion : Bool}
    (none : ∀ r, s.requestAt p = some r → (r.state ≠ .opening ∧ r.state ≠ .opened) ∨ r.movement.inserts = !insertion) :
    s.expecting p insertion = Option.none := by
  unfold State.expecting
  cases found : s.requestAt p with
  | none => rfl
  | some r =>
    refine if_neg ?_
    rcases none r found with ⟨notOpening, notOpened⟩ | other
    · simp [notOpening, notOpened]
    · simp [other]

section
variable (done : s.crib.scanDone = true)
include done

theorem execSensorRemoval_of_absent (absent : (s.pocket p).sensor = .absent) : execSensorRemoval p s = .next s :=
  (if_neg (by simp [done])).trans (if_pos absent)

theorem execSensorInsertion_of_present (present : (s.pocket p).sensor = .present) : execSensorInsertion p s = .next s :=
  (if_neg (by simp [done])).trans (if_pos present)

theorem execSensorRemoval_of_unexpected (present : (s.pocket p).sensor = .present) (none : s.expecting p false = Option.none) :
    execSensorRemoval p s = .next (s.unexpectedRemoval p).settle := by
  unfold execSensorRemoval
  rw [if_neg (by simp [done]), if_neg (by simp [present]), none]

theorem execSensorInsertion_of_unexpected (absent : (s.pocket p).sensor = .absent) (none : s.expecting p true = Option.none) :
    execSensorInsertion p s = .next (s.unexpectedInsertion p).settle := by
  unfold execSensorInsertion
  rw [if_neg (by simp [done]), if_neg (by simp [absent]), none]

end

theorem State.unexpectedRemoval_of_plain (plain : s.order.service = .setup ∨ (s.pocket p).content = none) :
    s.unexpectedRemoval p = s.changePocket p fun k => { k with sensor := .absent } := by
  unfold State.unexpectedRemoval
  rcases plain with setup | empty
  · rw [show s.inService = false by rw [State.inService, setup]; rfl]
  · rw [empty]
    cases s.inService <;> rfl

theorem State.unexpectedRemoval_of_forced {tool : Nat} (service : s.order.service = .service)
    (content : (s.pocket p).content = some tool) : s.unexpectedRemoval p = s.forcedRemoval p tool := by
  unfold State.unexpectedRemoval
  rw [State.inService_iff.mpr service, content]

theorem State.unexpectedInsertion_of_plain (plain : s.order.service = .setup ∨ (s.pocket p).content.isSome = true) :
    s.unexpectedInsertion p = s.changePocket p fun k => { k with sensor := .present } := by
  refine if_neg ?_
  rintro ⟨running, empty⟩
  rcases plain with setup | full
  · exact nomatch setup.symm.trans (State.inService_iff.mp running)
  · rw [empty] at full
    exact Bool.false_ne_true full

theorem State.unexpectedInsertion_of_unknown (service : s.order.service = .service) (empty : (s.pocket p).content = none) :
    s.unexpectedInsertion p = (s.changePocket p fun k =>
      { k with sensor := .present, fault := if k.fault = .lockJam then .lockJam else .unknownItem }).handReport
        (s.pocketFaultReport .unknownItem p (s.pocket p).lock none (s.requestAt p)) :=
  if_pos ⟨State.inService_iff.mpr service, empty⟩

/-- A record whose tool was taken by force: ASTRAY by its state, or by its state before claim (R28). -/
theorem Tool.forced_eq : Tool.forced = fun x : Tool =>
    { x with
      location := .loose, last := none, state := if x.state = .claimed then .claimed else .astray
      stateBefore := if x.state = .claimed then some .astray else x.stateBefore } := by
  funext x
  unfold Tool.forced
  by_cases claimed : x.state = .claimed
  · rw [if_pos claimed, if_pos claimed, if_pos claimed, claimed]
  · rw [if_neg claimed, if_neg claimed, if_neg claimed]

theorem settle_next {t : State} (alone : t.order.formedNow = []) : (Host.Outcome.next t.settle : Result) = .next t := by
  rw [State.settle_of_none alone]

end

/-- Settles O43: the first scan, the reports before it, and the changes that no request expects in SETUP and in SERVICE. -/
theorem sensorsWithoutRequest : Obligations.SensorsWithoutRequest := by
  unfold Obligations.SensorsWithoutRequest
  refine fun p s alone => ⟨fun modules => ⟨execFirstScan_of_done, fun first => ?_⟩, fun first => ⟨?_, ?_⟩, fun done =>
    ⟨execSensorRemoval_of_absent done, execSensorInsertion_of_present done, fun present unexpected =>
      ⟨fun plain => ?_, fun tool service content => ?_⟩, fun absent unexpected =>
      ⟨fun plain => ?_, fun service empty => ?_⟩⟩, fun reason lock tool r => rfl⟩
  · refine ⟨_, execFirstScan_of_first first, rfl, rfl, fun q => ?_, rfl⟩
    exact (get_ofFinRange _ _ q).trans
      (congrArg (fun x => { s.pocket q with sensor := x }) (Crib.firstSensor_eq s.crib modules q))
  · exact if_pos first
  · exact if_pos first
  · have changed := execSensorRemoval_of_unexpected done present (State.expecting_eq_none unexpected)
    rw [State.unexpectedRemoval_of_plain plain] at changed
    exact changed.trans (settle_next alone)
  · have changed := execSensorRemoval_of_unexpected done present (State.expecting_eq_none unexpected)
    rw [State.unexpectedRemoval_of_forced service content, State.forcedRemoval, Tool.forced_eq] at changed
    exact changed.trans (settle_next ((State.formedNow_handReport ..).trans alone))
  · have changed := execSensorInsertion_of_unexpected done absent (State.expecting_eq_none unexpected)
    rw [State.unexpectedInsertion_of_plain plain] at changed
    exact changed.trans (settle_next alone)
  · have changed := execSensorInsertion_of_unexpected done absent (State.expecting_eq_none unexpected)
    rw [State.unexpectedInsertion_of_unknown service empty] at changed
    exact changed.trans (settle_next ((State.formedNow_handReport ..).trans alone))

end Sys2Proof.Machine
end

section
/-! What is handed to the owner of a request, as the changes of a pocket's request use it (R39, R40, R42). -/

namespace Sys2Proof.Machine

/-! ## Two changes of one pocket or one record -/

theorem set_get_set {α : Type} {n : Nat} (v : Vector α n) (i : Fin n) (x : α) (f : α → α) :
    (v.set i.1 x i.2).set i.1 (f ((v.set i.1 x i.2).get i)) i.2 = v.set i.1 (f x) i.2 := by
  rw [get_set, if_pos rfl, Vector.set_set]

theorem State.modPocket_modPocket (p : PocketNo) (f g : Pocket → Pocket) (s : State) :
    (s.modPocket p g).modPocket p f = s.modPocket p fun k => f (g k) :=
  congrArg (fun v => { s with crib := { s.crib with pockets := v } }) (set_get_set ..)

theorem State.modTool_modTool (t : Nat) (f g : Tool → Tool) (s : State) (number : ∀ x, (g x).number = x.number) :
    (s.modTool t g).modTool t f = s.modTool t fun x => f (g x) := by
  unfold State.modTool State.modTools
  dsimp only
  rw [List.map_map]
  refine congrArg (fun l => { s with tools := l }) (List.map_congr_left fun x _ => ?_)
  by_cases same : x.number = t
  · rw [Function.comp_apply, if_pos same, if_pos ((number x).trans same), if_pos same]
  · rw [Function.comp_apply, if_neg same, if_neg same, if_neg same]

/-- A record changed and then deleted is deleted. -/
theorem State.dropTool_modTool (t : Nat) (f : Tool → Tool) (s : State) (number : ∀ x, (f x).number = x.number) :
    (s.modTool t f).dropTool t = s.dropTool t := by
  unfold State.dropTool State.modTool State.modTools
  dsimp only
  refine congrArg (fun l => { s with tools := l }) ?_
  induction s.tools with
  | nil => rfl
  | cons x l ih =>
    rw [List.map_cons, List.filter_cons, List.filter_cons, ih]
    by_cases same : x.number = t
    · rw [if_pos same, number x]
      simp [same]
    · rw [if_neg same]

/-! ## Orders at work (R180) -/

section
variable {s u : State} {n : SlotNo} {w : Work}

theorem State.working_congr (order : u.order = s.order) (works : s.working n w) : u.working n w := by
  unfold State.working State.slot at works ⊢
  rw [order]
  exact works

theorem State.work_of_working (works : s.working n w) : s.work n = w := by
  obtain ⟨⟨c, context, work, -⟩, -⟩ := works
  rw [State.work_of_context context, work]

theorem State.settle_completeWith_of_working (works : s.working n w) (st : Status) (result buffer : List Byte) :
    (s.completeWith n st result buffer).settle = s.ended n st result buffer := by
  obtain ⟨⟨c, context, -, unfinished⟩, alone⟩ := works
  exact State.settle_completeWith st result buffer context unfinished alone

theorem State.formedStatus_of_working (works : s.working n w) (st : Status) (result buffer : List Byte) :
    (s.completeWith n st result buffer).settle.formedStatus n = some st := by
  obtain ⟨⟨c, context, -, unfinished⟩, -⟩ := works
  exact State.formedStatus_completeWith st result buffer context unfinished

theorem State.setWork_of_context {c : Context} (context : (s.slot n).context = some c) (v : Work) :
    s.setWork n v = s.setSlot n { s.slot n with context := some { c with work := v, long := true } } := by
  unfold State.setWork
  rw [context]

theorem State.work_setWork {c : Context} (context : (s.slot n).context = some c) (v : Work) :
    (s.setWork n v).work n = v := by
  refine State.work_of_context (c := { c with work := v, long := true }) ?_
  rw [State.setWork_of_context context]
  exact congrArg Slot.context ((State.slot_setSlot ..).trans (if_pos rfl))

theorem State.formedNow_setWork (v : Work) : (s.setWork n v).order.formedNow = s.order.formedNow := by
  unfold State.setWork
  split <;> rfl

theorem State.setWork_eq (v : Work) : s.setWork n v = { s with order := (s.setWork n v).order } := by
  unfold State.setWork
  split <;> rfl

end

/-! ## The outcome of a movement, by its owner (R35) -/

section
variable {s : State} {n : SlotNo} (outcome : MoveOutcome)

theorem State.deliverMove_measure {m : MeasureCtx} (works : s.work n = .measure m) :
    s.deliverMove (.slot n) outcome = s.measureMove n m outcome := by
  unfold State.deliverMove
  dsimp only
  rw [works]

theorem State.deliverMove_stow {w : StowCtx} (works : s.work n = .stow w) :
    s.deliverMove (.slot n) outcome = s.stowEnded n w outcome := by
  unfold State.deliverMove
  dsimp only
  rw [works]

theorem State.deliverMove_returning {r : ReturnCtx} (works : s.work n = .returning r) :
    s.deliverMove (.slot n) outcome = s.returnMove n r outcome := by
  unfold State.deliverMove
  dsimp only
  rw [works]

theorem State.deliverMove_remove {t num : Nat} (works : s.work n = .remove t num) :
    s.deliverMove (.slot n) outcome = s.removeEnded n t outcome := by
  unfold State.deliverMove
  dsimp only
  rw [works]

theorem State.deliverMove_clearOut {p : PocketNo} {num : Nat} (works : s.work n = .clearOut p num) :
    s.deliverMove (.slot n) outcome = s.clearOutEnded n p outcome := by
  unfold State.deliverMove
  dsimp only
  rw [works]

theorem State.deliverMove_issue_open {id : Nat} {i : IssueNo} (isOpen : s.openIndex id = some i) :
    s.deliverMove (.issue id) outcome = s.pickEnded i outcome := by
  unfold State.deliverMove
  dsimp only
  rw [isOpen]

theorem State.measureMove_storing {m : MeasureCtx} (phase : m.phase = .storing) :
    s.measureMove n m outcome = s.storeEnded n m outcome := by
  unfold State.measureMove
  rw [phase]

theorem State.measureMove_fetching {m : MeasureCtx} (phase : m.phase = .fetching) :
    s.measureMove n m outcome = s.fetchEnded n m outcome := by
  unfold State.measureMove
  rw [phase]

end

/-! ## A request closed with an outcome (R39, R40) -/

/-- Pocket and request CLOSING, RELOCK sent, before the owner hears of the outcome (R39, R40). -/
def State.closing (r : Request) (outcome : MoveOutcome) (s : State) : State :=
  (s.modRequest r.number fun q => { q with state := .closing, window := none, outcome := some outcome }).sendRelock r.pocket

theorem State.closeRequest_eq (r : Request) (outcome : MoveOutcome) (s : State) :
    s.closeRequest r outcome = (s.closing r outcome).deliverMove r.owner outcome := rfl

section
variable {r : Request} {outcome : MoveOutcome} {s : State}

theorem State.closing_eq : s.closing r outcome = { s with crib := (s.closing r outcome).crib } := rfl

theorem State.requests_closing : (s.closing r outcome).crib.requests = s.crib.requests.map fun q =>
    if q.number = r.number then { q with state := .closing, window := none, outcome := some outcome } else q := rfl

theorem State.pocket_closing_self : (s.closing r outcome).pocket r.pocket =
    { s.pocket r.pocket with lock := .closing, confirm := some 250, stamp := s.clock } :=
  (State.pocket_changePocket r.pocket r.pocket _ _).trans (if_pos rfl)

theorem State.pocket_closing_of_ne {q : PocketNo} (other : q ≠ r.pocket) : (s.closing r outcome).pocket q = s.pocket q :=
  (State.pocket_changePocket r.pocket q _ _).trans (if_neg (Ne.symm other))

end

end Sys2Proof.Machine
end

section
/-! The expected change of a removal request (R26, R40). -/

namespace Sys2Proof.Machine

section
variable {s : State} {p : PocketNo} {r : Request}

theorem State.expecting_eq_some {insertion : Bool} (found : s.requestAt p = some r)
    (live : r.state = .opening ∨ r.state = .opened) (inserts : r.movement.inserts = insertion) :
    s.expecting p insertion = some r := by
  unfold State.expecting
  rw [found]
  refine if_pos ?_
  rcases live with live | live <;> simp [live, inserts]

theorem execSensorRemoval_of_expected (done : s.crib.scanDone = true) (present : (s.pocket p).sensor = .present)
    (expected : s.expecting p false = some r) : execSensorRemoval p s = .next (s.expectedChange r).settle := by
  unfold execSensorRemoval
  rw [if_neg (by simp [done]), if_neg (by simp [present]), expected]

theorem execSensorInsertion_of_expected (done : s.crib.scanDone = true) (absent : (s.pocket p).sensor = .absent)
    (expected : s.expecting p true = some r) : execSensorInsertion p s = .next (s.expectedChange r).settle := by
  unfold execSensorInsertion
  rw [if_neg (by simp [done]), if_neg (by simp [absent]), expected]

/-- An expected change touches the Crib Controller and the Tool Table alone. -/
theorem State.applyChange_eq : s.applyChange r =
    { s with crib := (s.applyChange r).crib, tools := (s.applyChange r).tools } := by
  unfold State.applyChange
  dsimp only
  cases r.movement with
  | clearOut => rfl
  | store => cases r.tool <;> rfl
  | returnPut => cases r.tool <;> rfl
  | _ => cases (s.pocket r.pocket).content <;> rfl

/-- The Crib Controller once pocket and request are CLOSING, from the change of the pocket. -/
theorem State.crib_closing_applyChange {f : Pocket → Pocket} (outcome : MoveOutcome)
    (changed : (s.applyChange r).crib = (s.changePocket r.pocket f).crib) :
    ((s.applyChange r).closing r outcome).crib =
      (State.modPocket r.pocket (fun k => { f k with lock := .closing, confirm := some 250, stamp := s.clock })
        { s with crib := { s.crib with requests := s.crib.requests.map fun q =>
          if q.number = r.number then { q with state := .closing, window := none, outcome := some outcome } else q } }).crib := by
  rw [State.applyChange_eq, changed]
  have twice := State.modPocket_modPocket r.pocket
    (fun k => { k with lock := .closing, confirm := some 250, stamp := s.clock }) (fun k => { f k with stamp := s.clock })
    { s with
      tools := (s.applyChange r).tools
      crib := { s.crib with requests := s.crib.requests.map fun q : Request =>
        if q.number = r.number then { q with state := .closing, window := none, outcome := some outcome } else q } }
  refine (congrArg State.crib twice).trans ?_
  rfl

/-! ## The change of a removal (R40) -/

section
variable (removal : r.movement.inserts = false)
include removal

theorem State.crib_applyChange_of_removal : (s.applyChange r).crib = (s.changePocket r.pocket fun k =>
    { k with
      sensor := .absent, content := if r.movement = Movement.clearOut then k.content else none
      fault := if r.movement = Movement.clearOut then .clear else k.fault }).crib := by
  unfold State.applyChange
  dsimp only
  cases movement : r.movement with
  | clearOut => rfl
  | store => rw [movement] at removal; cases removal
  | returnPut => rw [movement] at removal; cases removal
  | _ => cases (s.pocket r.pocket).content <;> rfl

theorem State.expectedChange_of_removal :
    s.expectedChange r = ((s.applyChange r).closing r .sensed).deliverMove r.owner .sensed := by
  unfold State.expectedChange
  dsimp only
  rw [removal]
  rfl

theorem State.tools_applyChange_of_content {t : Nat} (other : r.movement ≠ .clearOut)
    (content : (s.pocket r.pocket).content = some t) :
    (s.applyChange r).tools = (s.modTool t fun y => { y with location := .loose }).tools := by
  unfold State.applyChange
  dsimp only
  rw [content]
  cases movement : r.movement with
  | clearOut => exact absurd movement other
  | store => rw [movement] at removal; cases removal
  | returnPut => rw [movement] at removal; cases removal
  | _ => rfl

end

theorem State.tools_applyChange_of_clearOut (clear : r.movement = .clearOut) : (s.applyChange r).tools = s.tools := by
  unfold State.applyChange
  dsimp only
  rw [clear]
  rfl

/-! ## What the owners make of a removal sensed -/

theorem State.removeEnded_sensed (n : SlotNo) (t : Nat) :
    s.removeEnded n t .sensed = (s.dropTool t).completeWith n .ok (le 2 t ++ le 1 3) [] := rfl

theorem State.clearOutEnded_sensed (n : SlotNo) (clear : (s.pocket p).fault = .clear) :
    s.clearOutEnded n p .sensed = s.completeWith n .ok (le 1 0) [] := by
  unfold State.clearOutEnded State.clearResult
  dsimp only
  rw [clear]
  rfl

theorem State.pickSensed_of_open {i : IssueNo} {x : Issue} (isOpen : (s.issueRec i).issue = some x) :
    s.pickSensed i = (s.modTool x.tool fun y => { y with last := some (x.cell, x.slot) }).modIssue i fun x =>
      { x with
        unlocked := some (x.unlocked.getD s.clock), removed := some s.clock, request := none, phase := .transit
        transit := some (60000 * s.issues.transitWindow) } := by
  unfold State.pickSensed
  rw [isOpen]

theorem State.fetchEnded_sensed {n : SlotNo} {m : MeasureCtx} (goesOn : m.pendingStatus = none) :
    s.fetchEnded n m .sensed =
      s.setWork n (.measure { m with fetch := none, fetchOutcome := some .sensed, phase := .seating }) := by
  unfold State.fetchEnded
  dsimp only
  rw [goesOn]

end

end Sys2Proof.Machine
end

section
/-! The expected change of an insertion request (R27, R40), and content and location after it (R6). -/

namespace Sys2Proof.Machine

/-! ## The change of an insertion (R40) -/

/-- What an insertion makes of the record of its tool (R4, R6, R40). -/
def Tool.inserted (mv : Movement) (p : PocketNo) (y : Tool) : Tool :=
  { y with location := .pocket p, home := if mv = .store then some (y.home.getD p) else y.home }

section
variable {s : State} {r : Request} {t : Nat} (insertion : r.movement.inserts = true) (carries : r.tool = some t)
include insertion carries

theorem State.applyChange_of_insertion : s.applyChange r =
    (s.changePocket r.pocket fun k => { k with sensor := .present, content := some t }).modTool t
      (Tool.inserted r.movement r.pocket) := by
  unfold State.applyChange Tool.inserted
  dsimp only
  rw [carries]
  cases movement : r.movement with
  | store => rfl
  | returnPut => rfl
  | _ => rw [movement] at insertion; cases insertion

omit carries in
theorem State.expectedChange_of_insertion : s.expectedChange r =
    (((s.applyChange r).closing r .sensed).deliverMove r.owner .sensed).clearReleased r.pocket := by
  unfold State.expectedChange
  dsimp only
  rw [if_pos insertion]
  rfl

theorem State.crib_applyChange_of_insertion : (s.applyChange r).crib =
    (s.changePocket r.pocket fun k => { k with sensor := .present, content := some t }).crib := by
  rw [State.applyChange_of_insertion insertion carries]
  rfl

theorem State.tools_applyChange_of_insertion : (s.applyChange r).tools =
    (s.modTool t (Tool.inserted r.movement r.pocket)).tools := by
  rw [State.applyChange_of_insertion insertion carries]
  rfl

end

/-- The state in which the owner hears of an expected change. -/
theorem State.closing_applyChange {s : State} {r : Request} {outcome : MoveOutcome} {crib : Crib} {tools : List Tool}
    (isCrib : ((s.applyChange r).closing r outcome).crib = crib) (isTools : (s.applyChange r).tools = tools) :
    (s.applyChange r).closing r outcome = { s with crib := crib, tools := tools } := by
  rw [State.closing_eq, isCrib, State.applyChange_eq, isTools]

/-! ## A result formed and a pocket's content cleared, in either order -/

section
variable {s : State} (n : SlotNo) (st : Status) (result buffer : List Byte)

theorem State.completeWith_eq :
    s.completeWith n st result buffer = { s with order := (s.completeWith n st result buffer).order } := by
  unfold State.completeWith
  cases (s.slot n).context with
  | none => rfl
  | some c =>
    dsimp only
    cases c.output <;> rfl

theorem State.modCrib_completeWith (f : Crib → Crib) :
    (s.completeWith n st result buffer).modCrib f = (s.modCrib f).completeWith n st result buffer := by
  have slot : (s.modCrib f).slot n = s.slot n := rfl
  unfold State.completeWith
  rw [slot]
  cases (s.slot n).context with
  | none => rfl
  | some c =>
    dsimp only
    cases c.output <;> rfl

theorem State.clock_completeWith : (s.completeWith n st result buffer).clock = s.clock := by
  unfold State.completeWith
  cases (s.slot n).context with
  | none => rfl
  | some c =>
    dsimp only
    cases c.output <;> rfl

theorem State.clearReleased_completeWith (p : PocketNo) :
    (s.completeWith n st result buffer).clearReleased p = (s.clearReleased p).completeWith n st result buffer := by
  have pocket : (s.completeWith n st result buffer).pocket p = s.pocket p := by rw [State.completeWith_eq]; rfl
  have find : (s.completeWith n st result buffer).findTool = s.findTool := by
    funext t
    rw [State.completeWith_eq]
    rfl
  have change : (s.completeWith n st result buffer).changePocket p (fun k => { k with content := none }) =
      (s.changePocket p fun k => { k with content := none }).completeWith n st result buffer := by
    unfold State.changePocket State.modPocket
    rw [State.clock_completeWith, State.modCrib_completeWith]
  unfold State.clearReleased
  rw [pocket, find, change]
  cases (s.pocket p).content.bind s.findTool with
  | none => rfl
  | some y =>
    dsimp only
    split <;> rfl

end

theorem State.clearReleased_eq (p : PocketNo) (s : State) : s.clearReleased p = { s with crib := (s.clearReleased p).crib } := by
  unfold State.clearReleased
  split
  · split <;> rfl
  · rfl

/-! ## Content and location agree (R6) -/

section
variable {s u : State} {p : PocketNo} {crib : Crib} {t : Nat}
  (isCrib : u.crib = crib) (content : (crib.pockets.get p).content = some t)
include isCrib content

/-- The two outcomes of an insertion for the Crib Controller: the content cleared where the tool is not in the pocket. -/
theorem State.crib_clearReleased (stamped : (crib.pockets.get p).stamp = u.clock) :
    ((∃ y, u.findTool t = some y ∧ y.location ≠ .pocket p) → (u.clearReleased p).crib =
      (State.modPocket p (fun k => { k with content := none }) { s with crib := crib }).crib) ∧
    ((∀ y, u.findTool t = some y → y.location = .pocket p) → (u.clearReleased p).crib = crib) := by
  subst isCrib
  refine ⟨fun ⟨y, record, elsewhere⟩ => ?_, fun here => ?_⟩
  · rw [State.clearReleased_of_elsewhere content record elsewhere]
    have same : ({ u.pocket p with content := none, stamp := u.clock } : Pocket) = { u.pocket p with content := none } := by
      rw [← stamped]
      rfl
    exact congrArg (fun k => ({ u.crib with pockets := u.crib.pockets.set p.1 k p.2 } : Crib)) same
  · rw [State.clearReleased_of_here]
    intro t' y content' record
    obtain rfl : t = t' := Option.some.inj (content.symm.trans content')
    exact here y record

theorem State.clearReleased_of_in (here : ∀ y, u.findTool t = some y → y.location = .pocket p) : u.clearReleased p = u := by
  subst isCrib
  refine State.clearReleased_of_here fun t' y content' record => ?_
  obtain rfl : t = t' := Option.some.inj (content.symm.trans content')
  exact here y record

end

end Sys2Proof.Machine
end

section
/-! Where the records stay when a movement sensed is handed to its owner (R6, R9, R35). -/

namespace Sys2Proof.Machine

/-- A change of a record that keeps its number and home, and its place unless its state before claim is ASTRAY (R9). -/
def KeepsPlace (f : Tool → Tool) : Prop :=
  ∀ y, (f y).number = y.number ∧ (f y).home = y.home ∧ (y.stateBefore ≠ some .astray → (f y).location = y.location)

/-- Every record of one state changed so into the records of another. -/
def State.KeepsPlaces (s u : State) : Prop := ∃ f, KeepsPlace f ∧ u.tools = s.tools.map f

theorem Tool.home_release (isReturn : Bool) (named : ToolState) (loc : Location) (x : Tool) :
    (x.release isReturn named loc).home = x.home := by
  unfold Tool.release Tool.insteadOfReady
  grind

theorem Tool.location_release {isReturn : Bool} {named : ToolState} {loc : Location} {x : Tool}
    (free : isReturn = true ∨ x.stateBefore ≠ some .astray) : (x.release isReturn named loc).location = loc := by
  have notBack : ¬ (isReturn = false ∧ x.stateBefore = some .astray) := fun ⟨back, astray⟩ => by simp [back, astray] at free
  rw [Tool.release_eq notBack rfl]
  split
  · unfold Tool.insteadOfReady
    grind
  · rfl

theorem keepsPlace_release (isReturn : Bool) (named : Tool → ToolState) :
    KeepsPlace fun y => y.release isReturn (named y) y.location := fun _ =>
  ⟨Tool.number_release .., Tool.home_release .., fun free => Tool.location_release (.inr free)⟩

theorem keepsPlace_measureRelease (m : MeasureCtx) : KeepsPlace (measureRelease m) := by
  intro y
  unfold measureRelease
  split
  · exact keepsPlace_release false (fun y => y.before) y
  · exact keepsPlace_release false (fun _ => .ready) y
  · exact keepsPlace_release false (fun y => if y.lifeEnded then .worn else .quarantine) y
  · exact keepsPlace_release false (fun _ => _) y

theorem keepsPlace_stowRelease (w : StowCtx) (outcome : MoveOutcome) : KeepsPlace (stowRelease w outcome) := by
  intro y
  unfold stowRelease
  split
  · exact keepsPlace_release false (fun _ => .ready) y
  · exact keepsPlace_release false (fun y => if y.lifeEnded then .worn else y.before) y
  · exact keepsPlace_release false (fun y => y.before) y

theorem keepsPlace_returnRelease (outcome : MoveOutcome) : KeepsPlace (returnRelease outcome) := by
  intro y
  unfold returnRelease
  split
  · exact keepsPlace_release true (fun y => if y.lifeEnded then .worn else .quarantine) y
  · exact keepsPlace_release true (fun y => y.before) y

section
variable {s u v : State}

theorem State.KeepsPlaces.of_tools (same : u.tools = s.tools) : s.KeepsPlaces u :=
  ⟨id, fun _ => ⟨rfl, rfl, fun _ => rfl⟩, by rw [same, List.map_id]⟩

theorem State.KeepsPlaces.modTool {f : Tool → Tool} (keeps : KeepsPlace f) (t : Nat) (same : u.tools = (s.modTool t f).tools) :
    s.KeepsPlaces u := by
  refine ⟨fun y => if y.number = t then f y else y, fun y => ?_, same⟩
  dsimp only
  split
  · exact keeps y
  · exact ⟨rfl, rfl, fun _ => rfl⟩

/-- The record of a tool after such a change. -/
theorem State.KeepsPlaces.findTool (keeps : s.KeepsPlaces u) {t : Nat} {x : Tool} (found : s.findTool t = some x) :
    ∃ y, u.findTool t = some y ∧ y.home = x.home ∧ (x.stateBefore ≠ some .astray → y.location = x.location) := by
  obtain ⟨f, keeps, tools⟩ := keeps
  obtain ⟨-, home, place⟩ := keeps x
  refine ⟨f x, ?_, home, place⟩
  have number : (fun y : Tool => y.number == t) ∘ f = fun y => y.number == t := funext fun y => by
    rw [Function.comp_apply, (keeps y).1]
  rw [State.findTool, tools, List.find?_map, number]
  exact congrArg (Option.map f) found

theorem State.tools_completeWith (n : SlotNo) (st : Status) (result buffer : List Byte) :
    (s.completeWith n st result buffer).tools = s.tools := by rw [State.completeWith_eq]

theorem State.tools_setWork (n : SlotNo) (w : Work) : (s.setWork n w).tools = s.tools := by rw [State.setWork_eq]

theorem State.keepsPlaces_finishMeasure (n : SlotNo) (m : MeasureCtx) (st : Status) : s.KeepsPlaces (s.finishMeasure n m st) :=
  .modTool (keepsPlace_measureRelease m) m.tool (State.tools_completeWith ..)

theorem State.keepsPlaces_fetchEnded_sensed (n : SlotNo) (m : MeasureCtx) : s.KeepsPlaces (s.fetchEnded n m .sensed) := by
  cases pending : m.pendingStatus with
  | none =>
    rw [State.fetchEnded_sensed pending]
    exact .of_tools (State.tools_setWork ..)
  | some st =>
    unfold State.fetchEnded
    dsimp only
    rw [pending]
    exact State.keepsPlaces_finishMeasure ..

theorem State.tools_returnStep (n : SlotNo) (r : ReturnCtx) : (s.returnStep n r).tools = s.tools := by
  unfold State.returnStep
  split
  · split
    · exact State.tools_setWork ..
    · exact State.tools_completeWith ..
  · exact State.tools_setWork ..

theorem State.returnMove_sensed (n : SlotNo) (r : ReturnCtx) : s.returnMove n r .sensed =
    (s.modTool r.tool (returnRelease .sensed)).returnStep n
      { r with
        outcome := some .sensed
        released := ((s.modTool r.tool (returnRelease .sensed)).findTool r.tool).map Tool.asReleased } := by
  unfold State.returnMove
  dsimp only
  rw [if_neg fun both => both.1 rfl]

theorem State.keepsPlaces_pickSensed (i : IssueNo) : s.KeepsPlaces (s.pickSensed i) := by
  cases isOpen : (s.issueRec i).issue with
  | none =>
    unfold State.pickSensed
    rw [isOpen]
    exact .of_tools rfl
  | some x =>
    rw [State.pickSensed_of_open isOpen]
    exact .modTool (f := fun y => { y with last := some (x.cell, x.slot) }) (fun _ => ⟨rfl, rfl, fun _ => rfl⟩) x.tool rfl

/-- A movement sensed keeps every record in its place, but for a REMOVE, which deletes its own. -/
theorem State.keepsPlaces_deliverMove_sensed (owner : Owner)
    (noRemove : ∀ n, owner = .slot n → ∀ t num, s.work n ≠ .remove t num) : s.KeepsPlaces (s.deliverMove owner .sensed) := by
  unfold State.deliverMove
  split
  · split
    · exact State.keepsPlaces_pickSensed _
    · exact .of_tools rfl
  · rename_i n
    cases work : s.work n with
    | measure m =>
      dsimp only
      unfold State.measureMove
      split
      · exact State.keepsPlaces_finishMeasure ..
      all_goals exact State.keepsPlaces_fetchEnded_sensed ..
    | stow w => exact .modTool (keepsPlace_stowRelease w .sensed) w.tool (State.tools_completeWith ..)
    | returning r =>
      dsimp only
      rw [State.returnMove_sensed]
      exact .modTool (keepsPlace_returnRelease .sensed) r.tool (State.tools_returnStep ..)
    | remove t num => exact absurd work (noRemove n rfl t num)
    | clearOut p num => exact .of_tools (State.tools_completeWith ..)
    | _ => exact .of_tools rfl

end

end Sys2Proof.Machine
end

section
/-! The expected change of a request settled by its owners (R40). -/

namespace Sys2Proof.Machine

section
variable {s u : State} {p : PocketNo} {crib : Crib} {t : Nat}

theorem State.findTool_clearReleased : (u.clearReleased p).findTool = u.findTool := by
  funext m
  rw [State.clearReleased_eq]
  rfl

theorem State.pocket_clearReleased_content (isCrib : u.crib = crib) (content : (crib.pockets.get p).content = some t) {y : Tool}
    (record : (u.clearReleased p).findTool t = some y) :
    ((u.clearReleased p).pocket p).content = some t ↔ y.location = .pocket p := by
  rw [State.findTool_clearReleased] at record
  subst isCrib
  exact State.clearReleased_agrees content record

/-- The Crib Controller after an insertion, told by the record it leaves. -/
theorem State.sides_clearReleased (isCrib : u.crib = crib) (content : (crib.pockets.get p).content = some t)
    (stamped : (crib.pockets.get p).stamp = u.clock) :
    ((∃ y, (u.clearReleased p).findTool t = some y ∧ y.location ≠ .pocket p) → (u.clearReleased p).crib =
      (State.modPocket p (fun k => { k with content := none }) { s with crib := crib }).crib) ∧
    ((∀ y, (u.clearReleased p).findTool t = some y → y.location = .pocket p) → (u.clearReleased p).crib = crib) := by
  rw [State.findTool_clearReleased]
  exact State.crib_clearReleased isCrib content stamped

end

/-! ## A result formed with the insertion (R82, R161) -/

/-- An order whose result is formed on the insertion: the pocket's content is cleared before or after it alike. -/
theorem State.settle_clearReleased_completeWith {s : State} {n : SlotNo} {w : Work} (works : s.working n w) (p : PocketNo)
    (st : Status) (result buffer : List Byte) :
    ((s.completeWith n st result buffer).clearReleased p).settle = (s.clearReleased p).ended n st result buffer := by
  rw [State.clearReleased_completeWith]
  have same : (s.clearReleased p).working n w := State.working_congr (by rw [State.clearReleased_eq]) works
  exact State.settle_completeWith_of_working same ..

/-! ## Releases after an insertion (R9, R71, R82, R161) -/

section
variable {x : Tool} {mv : Movement} {p : PocketNo}

theorem Tool.release_inserted_of_unready (free : x.stateBefore ≠ some .astray) {named : ToolState} (unready : named ≠ .ready) :
    (x.inserted mv p).release false named (.pocket p) =
      { x.inserted mv p with claim := none, stateBefore := none, state := named } := by
  have notBack : ¬ (false = false ∧ (x.inserted mv p).stateBefore = some .astray) := fun both => free both.2
  rw [Tool.release_eq notBack rfl]
  exact if_neg fun both => unready both.1

theorem Tool.release_inserted_ready (free : x.stateBefore ≠ some .astray) (inTolerance : x.inTolerance = true)
    (live : x.lifeUsed < x.lifeLimit) : (x.inserted mv p).release false .ready (.pocket p) =
      { x.inserted mv p with claim := none, stateBefore := none, state := .ready } := by
  have notBack : ¬ (false = false ∧ (x.inserted mv p).stateBefore = some .astray) := fun both => free both.2
  rw [Tool.release_eq notBack rfl]
  refine if_neg fun both => ?_
  have meets : ({ x.inserted mv p with claim := none, stateBefore := none, location := .pocket p, state := .ready } :
      Tool).meetsReady = true := Tool.meetsReady_iff.mpr ⟨inTolerance, live, p, rfl⟩
  exact Bool.false_ne_true (both.2.symm.trans meets)

theorem Tool.release_inserted_astray (astray : x.stateBefore = some .astray) (named : ToolState) (loc : Location) :
    (x.inserted mv p).release false named loc =
      { x.inserted mv p with claim := none, stateBefore := none, state := .astray, location := .loose } :=
  Tool.release_astray ⟨rfl, astray⟩

theorem Tool.release_inserted_return {named : ToolState} (unready : named ≠ .ready) :
    (x.inserted mv p).release true named (.pocket p) =
      { x.inserted mv p with claim := none, stateBefore := none, state := named } := by
  have notBack : ¬ (true = false ∧ (x.inserted mv p).stateBefore = some .astray) := fun both => Bool.noConfusion both.1
  rw [Tool.release_eq notBack rfl]
  exact if_neg fun both => unready both.1

end

/-- The record of a tool inserted and then released. -/
theorem State.findTool_inserted_released {s u : State} {t : Nat} {x : Tool} {mv : Movement} {p : PocketNo} {f : Tool → Tool}
    (found : s.findTool t = some x) (tools : u.tools = (s.modTool t (Tool.inserted mv p)).tools)
    (number : ∀ y, (f y).number = y.number) : (u.modTool t f).findTool t = some (f (x.inserted mv p)) := by
  have inserted : u.findTool t = some (x.inserted mv p) := by
    rw [State.findTool, tools]
    exact (State.modTool_of_found (f := Tool.inserted mv p) (fun _ => rfl) found rfl).2.1
  exact (State.modTool_of_found number inserted rfl).2.1

end Sys2Proof.Machine
end

section
/-! The owners of a removal sensed, and of an insertion sensed (R40). -/

namespace Sys2Proof.Machine

/-! ## A removal sensed -/

section
variable {s : State} {p : PocketNo} {n : SlotNo} {num : Nat} (crib : Crib)

theorem State.sensed_clearOut (works : s.working n (.clearOut p num)) (clear : (crib.pockets.get p).fault = .clear) :
    (State.deliverMove (.slot n) .sensed { s with crib := crib }).settle =
      State.ended n .ok (le 1 0) [] { s with crib := crib } := by
  have same : ({ s with crib := crib } : State).working n (.clearOut p num) := works
  have ends : State.clearOutEnded n p .sensed { s with crib := crib } =
      State.completeWith n .ok (le 1 0) [] { s with crib := crib } := State.clearOutEnded_sensed n clear
  rw [State.deliverMove_clearOut _ (State.work_of_working same), ends, State.settle_completeWith_of_working same]

theorem State.sensed_removeOut {tool : Nat} (works : s.working n (.remove tool num)) :
    (State.deliverMove (.slot n) .sensed
        (State.modTool tool (fun y => { y with location := .loose }) { s with crib := crib })).settle =
      State.ended n .ok (le 2 tool ++ le 1 3) []
        { s with crib := crib, tools := s.tools.filter fun x => x.number != tool } := by
  have same : (State.modTool tool (fun y => { y with location := .loose }) { s with crib := crib }).working n
      (.remove tool num) := works
  have dropped : (State.dropTool tool { s with crib := crib }).working n (.remove tool num) := works
  rw [State.deliverMove_remove _ (State.work_of_working same), State.removeEnded_sensed,
    State.dropTool_modTool tool _ _ (by exact fun _ => rfl), State.settle_completeWith_of_working dropped]
  rfl

theorem State.sensed_issuePick {id : Nat} {i : IssueNo} {x : Issue} (alone : s.order.formedNow = [])
    (isOpen : s.openIndex id = some i) (issue : (s.issueRec i).issue = some x) :
    (State.deliverMove (.issue id) .sensed
        (State.modTool x.tool (fun y => { y with location := .loose }) { s with crib := crib })).settle =
      (State.modTool x.tool (fun y => { y with location := .loose, last := some (x.cell, x.slot) })
        { s with crib := crib }).modIssue i fun x =>
        { x with
          unlocked := some (x.unlocked.getD s.clock), removed := some s.clock, request := none, phase := .transit
          transit := some (60000 * s.issues.transitWindow) } := by
  generalize isU : State.modTool x.tool (fun y => { y with location := .loose }) { s with crib := crib } = u
  have isOpenNow : u.openIndex id = some i := by rw [← isU]; exact isOpen
  have issueNow : (u.issueRec i).issue = some x := by rw [← isU]; exact issue
  rw [State.deliverMove_issue_open _ isOpenNow, State.pickEnded, State.pickSensed_of_open issueNow, ← isU,
    State.modTool_modTool x.tool (fun y => { y with last := some (x.cell, x.slot) }) _ _ (by exact fun _ => rfl)]
  exact State.settle_of_none alone

theorem State.sensed_fetch {m : MeasureCtx} (works : s.working n (.measure m)) (phase : m.phase = .fetching)
    (goesOn : m.pendingStatus = none) : ∃ t,
    (State.deliverMove (.slot n) .sensed
        (State.modTool m.tool (fun y => { y with location := .loose }) { s with crib := crib })).settle = t ∧
    t.work n = .measure { m with fetch := none, fetchOutcome := some .sensed, phase := .seating } ∧
    t = { s.modTool m.tool (fun y => { y with location := .loose }) with crib := crib, order := t.order } := by
  generalize isU : State.modTool m.tool (fun y => { y with location := .loose }) { s with crib := crib } = u
  have same : u.working n (.measure m) := State.working_congr (by rw [← isU]; rfl) works
  rw [State.deliverMove_measure _ (State.work_of_working same), State.measureMove_fetching _ phase,
    State.fetchEnded_sensed goesOn]
  obtain ⟨⟨c, context, -⟩, alone⟩ := same
  refine ⟨_, State.settle_of_none ((State.formedNow_setWork _).trans alone), State.work_setWork context _, ?_⟩
  refine (State.setWork_eq _).trans ?_
  rw [← isU]
  rfl

end

/-! ## An insertion sensed -/

section
variable {u : State} {p : PocketNo} {n : SlotNo}

theorem State.sensed_stow {w : StowCtx} (works : u.working n (.stow w)) :
    ((u.deliverMove (.slot n) .sensed).clearReleased p).settle =
      State.ended n .ok ((u.modTool w.tool (stowRelease w .sensed)).stowResult w true) []
        ((u.modTool w.tool (stowRelease w .sensed)).clearReleased p) := by
  have same : (u.modTool w.tool (stowRelease w .sensed)).working n (.stow w) := works
  rw [State.deliverMove_stow _ (State.work_of_working works)]
  exact State.settle_clearReleased_completeWith same ..

theorem State.sensed_store {m m' : MeasureCtx} {v : State} (works : u.working n (.measure m)) (phase : m.phase = .storing)
    (isM : m' = { m with store := none, storeResult := .stored }) (isV : v = u.modTool m.tool (measureRelease m')) :
    ((u.deliverMove (.slot n) .sensed).clearReleased p).settle =
      State.ended n .ok (le 2 (v.measureRecord m').length) (v.measureRecord m') (v.clearReleased p) := by
  have same : v.working n (.measure m) := State.working_congr (by rw [isV]; rfl) works
  have ends : u.storeEnded n m .sensed =
      v.completeWith n .ok (le 2 (v.measureRecord m').length) (v.measureRecord m') := by
    rw [isV, isM]
    rfl
  rw [State.deliverMove_measure _ (State.work_of_working works), State.measureMove_storing _ phase, ends]
  exact State.settle_clearReleased_completeWith same ..

section
variable {r r' : ReturnCtx} {v : State} (works : u.working n (.returning r))
  (isV : v = u.modTool r.tool (returnRelease .sensed))
  (isR : r' = { r with outcome := some .sensed, released := (v.findTool r.tool).map Tool.asReleased })
  (here : ∀ o, ({ v with order := o } : State).clearReleased p = { v with order := o })
include works isV isR here

theorem State.sensed_returning_done (settled : r.withdraw ≠ .pending) :
    ((u.deliverMove (.slot n) .sensed).clearReleased p).settle = State.ended n .ok (returnResult r') [] v := by
  have same : v.working n (.returning r) := State.working_congr (by rw [isV]; rfl) works
  have ends : v.returnStep n r' = v.completeWith n .ok (returnResult r') [] := by
    subst isR
    exact if_neg settled
  rw [State.deliverMove_returning _ (State.work_of_working works), State.returnMove_sensed, ← isV, ← isR, ends,
    State.settle_clearReleased_completeWith same, here v.order]

theorem State.sensed_returning_pending (pending : r.withdraw = .pending) : ∃ t,
    ((u.deliverMove (.slot n) .sensed).clearReleased p).settle = t ∧ t = { v with order := t.order } ∧
      t.work n = .returning r' := by
  have same : v.working n (.returning r) := State.working_congr (by rw [isV]; rfl) works
  have waits : v.returnStep n r' = v.setWork n (.returning r') := by
    subst isR
    exact if_pos pending
  rw [State.deliverMove_returning _ (State.work_of_working works), State.returnMove_sensed, ← isV, ← isR, waits]
  obtain ⟨⟨c, context, -⟩, alone⟩ := same
  have kept : (v.setWork n (.returning r')).clearReleased p = v.setWork n (.returning r') := by
    rw [State.setWork_eq]
    exact here _
  rw [kept]
  exact ⟨_, State.settle_of_none ((State.formedNow_setWork _).trans alone), State.setWork_eq _, State.work_setWork context _⟩

end

end

end Sys2Proof.Machine
end

section
/-! The expected change, settled (R26, R27, R40). -/

namespace Sys2Proof.Machine

/-- After an insertion of a tool the Crib Controller stands by whether the tool is in the pocket (R6, log 46). -/
def State.SettledAt (s : State) (p : PocketNo) (crib : Crib) (tool : Nat) (t : State) : Prop :=
  ((∃ y, t.findTool tool = some y ∧ y.location ≠ .pocket p) → t.crib =
    (State.modPocket p (fun k => { k with content := none }) { s with crib := crib }).crib) ∧
  ((∀ y, t.findTool tool = some y → y.location = .pocket p) → t.crib = crib)

/-- The state in which the owner of an insertion hears of it. -/
def State.insertedState (s : State) (mv : Movement) (p : PocketNo) (crib : Crib) (tool : Nat) : State :=
  State.modTool tool (Tool.inserted mv p) { s with crib := crib }

/-- The state that an owner's release of a tool inserted leaves. -/
theorem State.insertion_facts {s : State} {p : PocketNo} {crib : Crib} {tool : Nat} {mv : Movement} {f : Tool → Tool}
    (content : (crib.pockets.get p).content = some tool) (stamped : (crib.pockets.get p).stamp = s.clock)
    (number : ∀ y, (f y).number = y.number) (v t : State) (isV : v = (s.insertedState mv p crib tool).modTool tool f)
    (isT : t = v.clearReleased p) :
    t = { s with crib := t.crib, tools := t.tools } ∧ s.SettledAt p crib tool t ∧
    ∀ x, s.findTool tool = some x → t.findTool tool = some (f (x.inserted mv p)) := by
  subst isV isT
  refine ⟨?_, State.sides_clearReleased rfl content stamped, fun x found => ?_⟩
  · rw [State.clearReleased_eq]
    rfl
  · rw [State.findTool_clearReleased]
    exact State.findTool_inserted_released (s := s) found rfl number

/-! ## What an expected change runs -/

section
variable {s : State} {r : Request} {crib : Crib}

theorem exec_expected_removal {tools : List Tool} (done : s.crib.scanDone = true)
    (found : s.requestAt r.pocket = some r) (live : r.state = .opening ∨ r.state = .opened)
    (removal : r.movement.inserts = false) (present : (s.pocket r.pocket).sensor = .present)
    (isCrib : ((s.applyChange r).closing r .sensed).crib = crib) (isTools : (s.applyChange r).tools = tools) :
    exec (.sensorRemoval r.pocket) s =
      .next (State.deliverMove r.owner .sensed { s with crib := crib, tools := tools }).settle := by
  rw [← State.closing_applyChange isCrib isTools, ← State.expectedChange_of_removal removal]
  exact execSensorRemoval_of_expected done present (State.expecting_eq_some found live removal)

theorem exec_expected_insertion {tool : Nat} (done : s.crib.scanDone = true)
    (found : s.requestAt r.pocket = some r) (live : r.state = .opening ∨ r.state = .opened)
    (insertion : r.movement.inserts = true) (carries : r.tool = some tool) (absent : (s.pocket r.pocket).sensor = .absent)
    (isCrib : ((s.applyChange r).closing r .sensed).crib = crib) :
    exec (.sensorInsertion r.pocket) s =
      .next (((s.insertedState r.movement r.pocket crib tool).deliverMove r.owner .sensed).clearReleased r.pocket).settle := by
  have change := State.closing_applyChange isCrib (State.tools_applyChange_of_insertion insertion carries)
  have run := execSensorInsertion_of_expected done absent (State.expecting_eq_some found live insertion)
  rw [State.expectedChange_of_insertion insertion, change] at run
  exact run

end

theorem State.toolAfter_clearReleased (p : PocketNo) (s : State) (t : Nat) :
    (s.clearReleased p).toolAfter t = s.toolAfter t := by
  rw [State.toolAfter, State.findTool_clearReleased, State.toolAfter]

theorem State.measureRecord_clearReleased (p : PocketNo) (s : State) (m : MeasureCtx) :
    (s.clearReleased p).measureRecord m = s.measureRecord m := by
  have axes : (s.clearReleased p).presetter = s.presetter := by rw [State.clearReleased_eq]
  rw [State.measureRecord, State.measureRecord, State.toolAfter_clearReleased, axes]

/-- A MEASURE whose insertion was sensed after an evaluation releases by its movement (R71). -/
theorem measureRelease_stored {m : MeasureCtx} {mv : Movement} (evaluated : m.evaluation.isSome = true)
    (stored : m.storeResult = .stored) (asked : m.storeMovement = some mv) (y : Tool) : measureRelease m y =
      if mv = .store then y.release false .ready y.location
      else y.release false (if y.lifeEnded then .worn else .quarantine) y.location := by
  obtain ⟨e, evaluation⟩ := Option.isSome_iff_exists.mp evaluated
  unfold measureRelease
  rw [evaluation, stored, asked]
  cases mv <;> rfl

/-- The result of a STOW whose insertion was sensed (R82). -/
theorem State.stowResult_sensed {s : State} {w : StowCtx} {p : PocketNo} (isPocket : w.pocket = p) :
    s.stowResult w true = le 1 1 ++ le 2 w.tool ++ le 1 w.movement.code ++ le 2 w.request ++ le 2 p.val ++
      s.toolAfter w.tool := by
  subst isPocket
  rfl

theorem stowRelease_returnPut {w : StowCtx} (back : w.movement = .returnPut) (y : Tool) :
    stowRelease w .sensed y = y.release false (if y.lifeEnded then .worn else y.before) y.location := by
  unfold stowRelease
  rw [back]

theorem stowRelease_store {w : StowCtx} (store : w.movement = .store) (y : Tool) :
    stowRelease w .sensed y = y.release false .ready y.location := by
  unfold stowRelease
  rw [store]

theorem unready_of_life (ended : Bool) : (if ended then ToolState.worn else .quarantine) ≠ .ready := by
  cases ended <;> simp

/-! ## The owners of an insertion -/

section
variable {s : State} {p : PocketNo} {crib : Crib} {tool : Nat} (mv : Movement) {n : SlotNo}
  (content : (crib.pockets.get p).content = some tool) (stamped : (crib.pockets.get p).stamp = s.clock)
include content stamped

theorem State.insertion_any {owner : Owner} : ∃ t,
    (((s.insertedState mv p crib tool).deliverMove owner .sensed).clearReleased p).settle = t ∧ s.SettledAt p crib tool t ∧
    (∀ y, t.findTool tool = some y → ((t.pocket p).content = some tool ↔ y.location = .pocket p)) ∧
    ((∀ n, owner = .slot n → ∀ u num, s.work n ≠ .remove u num) → ∀ x, s.findTool tool = some x →
      ∃ y, t.findTool tool = some y ∧ (x.stateBefore ≠ some .astray → y.location = .pocket p) ∧
        y.home = (if mv = .store then some (x.home.getD p) else x.home)) := by
  generalize isX : s.insertedState mv p crib tool = u
  have cribU : (u.deliverMove owner .sensed).crib = crib := (State.crib_deliverMove ..).trans (by rw [← isX]; rfl)
  have clockU : (u.deliverMove owner .sensed).clock = s.clock := by
    obtain ⟨-, -, -, -, -, clock, -⟩ := State.deliverMove_frame owner .sensed u
    exact clock.trans (by rw [← isX]; rfl)
  refine ⟨_, rfl, State.sides_clearReleased cribU content (stamped.trans clockU.symm),
    fun y record => State.pocket_clearReleased_content cribU content record, fun noRemove x record => ?_⟩
  have inserted : u.findTool tool = some (x.inserted mv p) := by
    rw [← isX]
    exact (State.modTool_of_found (s := s) (f := Tool.inserted mv p) (fun _ => rfl) record rfl).2.1
  have keeps := State.keepsPlaces_deliverMove_sensed (s := u) owner (by rw [← isX]; exact noRemove)
  obtain ⟨y, after, home, place⟩ := keeps.findTool inserted
  exact ⟨y, (congrFun State.findTool_clearReleased tool).trans after, place, home⟩

theorem State.insertion_stow {w : StowCtx} (works : s.working n (.stow w)) (isTool : w.tool = tool) (isPocket : w.pocket = p) :
    ∃ t, (((s.insertedState mv p crib tool).deliverMove (.slot n) .sensed).clearReleased p).settle =
        State.ended n .ok
          (le 1 1 ++ le 2 tool ++ le 1 w.movement.code ++ le 2 w.request ++ le 2 p.val ++ t.toolAfter tool) [] t ∧
      t = { s with crib := t.crib, tools := t.tools } ∧ s.SettledAt p crib tool t ∧
      ∀ x, s.findTool tool = some x → t.findTool tool = some (stowRelease w .sensed (x.inserted mv p)) := by
  subst isTool
  have same : (s.insertedState mv p crib w.tool).working n (.stow w) := works
  have ends := State.sensed_stow (p := p) same
  rw [State.stowResult_sensed isPocket] at ends
  generalize isV : (s.insertedState mv p crib w.tool).modTool w.tool (stowRelease w .sensed) = v at ends
  obtain ⟨only, settled, record⟩ := State.insertion_facts content stamped
    (fun y => (keepsPlace_stowRelease w .sensed y).1) v _ isV.symm rfl
  exact ⟨_, ends.trans (by rw [State.toolAfter_clearReleased]), only, settled, record⟩

theorem State.insertion_store {m m' : MeasureCtx} (works : s.working n (.measure m)) (phase : m.phase = .storing)
    (isTool : m.tool = tool) (isM : m' = { m with store := none, storeResult := .stored }) :
    ∃ t, (((s.insertedState mv p crib tool).deliverMove (.slot n) .sensed).clearReleased p).settle =
        State.ended n .ok (le 2 (t.measureRecord m').length) (t.measureRecord m') t ∧
      t = { s with crib := t.crib, tools := t.tools } ∧ s.SettledAt p crib tool t ∧
      ∀ x, s.findTool tool = some x → t.findTool tool = some (measureRelease m' (x.inserted mv p)) := by
  subst isTool
  have same : (s.insertedState mv p crib m.tool).working n (.measure m) := works
  have ends := State.sensed_store (p := p) same phase isM rfl
  generalize isV : (s.insertedState mv p crib m.tool).modTool m.tool (measureRelease m') = v at ends
  obtain ⟨only, settled, record⟩ := State.insertion_facts content stamped
    (fun y => (keepsPlace_measureRelease m' y).1) v _ isV.symm rfl
  exact ⟨_, ends.trans (by rw [State.measureRecord_clearReleased]), only, settled, record⟩

omit stamped in
/-- A RETURN whose insertion was sensed leaves its tool in the pocket, and so the pocket's content. -/
theorem State.insertion_returning {w : ReturnCtx} {x : Tool} (works : s.working n (.returning w)) (isTool : w.tool = tool)
    (found : s.findTool tool = some x) :
    ∃ v, v = { s with crib := crib, tools := v.tools } ∧
      v.findTool tool = some ((x.inserted mv p).release true (if x.lifeEnded then .worn else .quarantine) (.pocket p)) ∧
      (w.withdraw = .pending → ∃ t,
        (((s.insertedState mv p crib tool).deliverMove (.slot n) .sensed).clearReleased p).settle = t ∧
        t = { v with order := t.order } ∧ t.work n = .returning
          { w with outcome := some .sensed, released := (v.findTool tool).map Tool.asReleased }) ∧
      (w.withdraw ≠ .pending →
        (((s.insertedState mv p crib tool).deliverMove (.slot n) .sensed).clearReleased p).settle = State.ended n .ok
          (returnResult { w with outcome := some .sensed, released := (v.findTool tool).map Tool.asReleased }) [] v) := by
  subst isTool
  have same : (s.insertedState mv p crib w.tool).working n (.returning w) := works
  generalize isV : (s.insertedState mv p crib w.tool).modTool w.tool (returnRelease .sensed) = v
  have record : v.findTool w.tool = some (returnRelease .sensed (x.inserted mv p)) := by
    rw [← isV]
    exact State.findTool_inserted_released (s := s) found rfl fun y => (keepsPlace_returnRelease .sensed y).1
  have here (o : OrderBlock) : ({ v with order := o } : State).clearReleased p = { v with order := o } := by
    refine State.clearReleased_of_in (u := { v with order := o }) (crib := crib) (by rw [← isV]; rfl) content fun y isY => ?_
    obtain rfl := Option.some.inj (record.symm.trans isY)
    exact Tool.location_release (.inl rfl)
  exact ⟨v, by rw [← isV]; rfl, record, State.sensed_returning_pending same isV.symm rfl here,
    State.sensed_returning_done same isV.symm rfl here⟩

end

end Sys2Proof.Machine
end

section
/-! The expected change, settled (R26, R27, R40). -/

namespace Sys2Proof.Machine

/-- The result of a RETURN whose insertion was sensed and whose withdraw is over (R162). -/
theorem returnResult_sensed {w : ReturnCtx} (y : Tool) :
    returnResult { w with outcome := some .sensed, released := (some y).map Tool.asReleased } =
      le 1 (presence [true, w.withdrawTo.isSome]) ++ le 2 w.tool ++ le 1 w.stateBefore.code ++ le 2 w.request ++
        le 1 MoveOutcome.sensed.code ++ le 2 w.pocket.val ++
        optField 2 (w.withdrawTo.map fun k => le 1 (k.1.val + 1) ++ le 1 k.2) ++ le 1 w.withdraw.code ++
        le 1 w.tries ++ flag w.acknowledged ++ le 2 y.lifeUsed ++ flag y.warningSent ++ flag y.lifeEnded ++
        le 1 y.state.code ++ locationField y.location := by
  have bytes : returnResult { w with outcome := some .sensed, released := (some y).map Tool.asReleased } =
      le 1 (presence [true, w.withdrawTo.isSome]) ++ le 2 w.tool ++ le 1 w.stateBefore.code ++ le 2 w.request ++
        le 1 MoveOutcome.sensed.code ++ le 2 w.pocket.val ++
        optField 2 (w.withdrawTo.map fun k => le 1 (k.1.val + 1) ++ le 1 k.2) ++ le 1 w.withdraw.code ++
        le 1 w.tries ++ flag w.acknowledged ++ (le 2 y.lifeUsed ++ flag y.warningSent ++ flag y.lifeEnded ++
        le 1 y.state.code ++ locationField y.location) := rfl
  rw [bytes]
  simp only [List.append_assoc]

/-- Settles O42: the change of pocket and request, and what each owner makes of it. -/
theorem expectedChange : Obligations.ExpectedChange := by
  unfold Obligations.ExpectedChange
  rintro p s r alone done found rfl live requests rfl
  refine ⟨fun removal present crib isCrib => ?_, fun insertion absent tool crib carries isCrib cleared sides isCleared
    isSides => ?_⟩
  · have closed : ((s.applyChange r).closing r .sensed).crib = crib :=
      (State.crib_closing_applyChange .sensed (State.crib_applyChange_of_removal removal)).trans isCrib.symm
    have run {tools : List Tool} (isTools : (s.applyChange r).tools = tools) :=
      exec_expected_removal done found live removal present closed isTools
    refine ⟨⟨_, run rfl, State.crib_deliverMove ..⟩, fun n num clear owner works => ?_, fun n tool num out owner works content => ?_,
      fun id i x pick owner isOpen issue content => ?_, fun n m fetch owner works phase goesOn content => ?_⟩
    · have fault : (crib.pockets.get r.pocket).fault = .clear := by
        rw [isCrib]
        exact (congrArg Pocket.fault ((get_set ..).trans (if_pos rfl))).trans (if_pos clear)
      have start := run (State.tools_applyChange_of_clearOut clear)
      rw [owner] at start
      exact start.trans (congrArg _ (State.sensed_clearOut crib works fault))
    · have start := run (State.tools_applyChange_of_content removal (by simp [out]) content)
      rw [owner] at start
      exact start.trans (congrArg _ (State.sensed_removeOut crib works))
    · have start := run (State.tools_applyChange_of_content removal (by simp [pick]) content)
      rw [owner] at start
      exact start.trans (congrArg _ (State.sensed_issuePick crib alone isOpen issue))
    · have start := run (State.tools_applyChange_of_content removal (by simp [fetch]) content)
      rw [owner] at start
      obtain ⟨t, ends, facts⟩ := State.sensed_fetch crib works phase goesOn
      exact ⟨t, start.trans (congrArg _ ends), facts⟩
  · have closed : ((s.applyChange r).closing r .sensed).crib = crib :=
      (State.crib_closing_applyChange .sensed (State.crib_applyChange_of_insertion insertion carries)).trans isCrib.symm
    have run := exec_expected_insertion done found live insertion carries absent closed
    have pocket : crib.pockets.get r.pocket = { s.pocket r.pocket with
        sensor := .present, content := some tool, lock := .closing, confirm := some 250, stamp := s.clock } := by
      rw [isCrib]
      exact (get_set ..).trans (if_pos rfl)
    have content : (crib.pockets.get r.pocket).content = some tool := by rw [pocket]
    have stamped : (crib.pockets.get r.pocket).stamp = s.clock := by rw [pocket]
    replace isSides (t : State) : sides t ↔ s.SettledAt r.pocket crib tool t := by
      rw [isSides, isCleared, State.SettledAt]
    refine ⟨?_, fun n stow back isMove isTool isPocket owner works => ?_, fun n stow store isMove isTool isPocket owner works => ?_,
      fun n m m' owner works phase isTool evaluated asked isM => ?_, fun n w x y back owner works isTool record isY => ?_⟩
    · obtain ⟨t, ends, settled, agrees, records⟩ := State.insertion_any r.movement content stamped (owner := r.owner)
      exact ⟨t, run.trans (congrArg _ ends), (isSides t).mpr settled, agrees, records⟩
    all_goals rw [owner] at run
    · obtain ⟨t, ends, only, settled, record⟩ := State.insertion_stow r.movement content stamped works isTool isPocket
      rw [isMove] at ends
      refine ⟨t, run.trans (congrArg _ ends), only, (isSides t).mpr settled, fun x found free notReady =>
        (record x found).trans (congrArg some ?_)⟩
      have unready : (if x.lifeEnded then ToolState.worn else x.before) ≠ .ready := by
        split
        · simp
        · exact notReady
      rw [stowRelease_returnPut isMove, back]
      exact Tool.release_inserted_of_unready free unready
    · obtain ⟨t, ends, only, settled, record⟩ := State.insertion_stow r.movement content stamped works isTool isPocket
      rw [isMove] at ends
      refine ⟨t, run.trans (congrArg _ ends), only, (isSides t).mpr settled, fun x found free inTolerance live =>
        (record x found).trans (congrArg some ?_)⟩
      rw [stowRelease_store isMove, store]
      exact Tool.release_inserted_ready free inTolerance live
    · obtain ⟨t, ends, only, settled, record⟩ := State.insertion_store r.movement content stamped works phase isTool isM
      have release := measureRelease_stored (m := m') (mv := r.movement) (by rw [isM]; exact evaluated) (by rw [isM])
        (by rw [isM]; exact asked)
      refine ⟨t, run.trans (congrArg _ ends), only, (isSides t).mpr settled, fun x found astray => ?_,
        fun x found free => ⟨fun store inTolerance live => ?_, fun back => ?_⟩⟩
      · have loose : measureRelease m' (x.inserted r.movement r.pocket) = { x.inserted r.movement r.pocket with
            claim := none, stateBefore := none, state := .astray, location := .loose } := by
          rw [release]
          split <;> exact Tool.release_inserted_astray astray _ _
        have left := (record x found).trans (congrArg some loose)
        exact ⟨(settled.1 ⟨_, left, Location.noConfusion⟩).trans isCleared.symm, left⟩
      · refine (record x found).trans (congrArg some ?_)
        rw [release, if_pos store, store]
        exact Tool.release_inserted_ready free inTolerance live
      · refine (record x found).trans (congrArg some ?_)
        rw [release, if_neg (by simp [back]), back]
        exact Tool.release_inserted_of_unready free (unready_of_life _)
    · obtain ⟨v, only, after, pending, settled⟩ := State.insertion_returning r.movement content works isTool record
      rw [back, Tool.release_inserted_return (unready_of_life _)] at after
      have isRecord : v.findTool tool = some y := by
        rw [after, isY]
        rfl
      rw [isRecord] at pending settled
      refine ⟨v, only, isRecord, fun waits => ?_, fun done => ?_⟩
      · obtain ⟨t, ends, same, work⟩ := pending waits
        refine ⟨t, run.trans (congrArg _ ends), same, work.trans ?_⟩
        rw [isY]
        rfl
      · refine run.trans (congrArg _ ((settled done).trans ?_))
        rw [returnResult_sensed, isTool, isY]

end Sys2Proof.Machine
end

section
/-! The handing on of received frames (R92), the facts about acceptance and selection (R121, R128 to R130), and TOOL_REQUEST
(R127, R131, R133). -/

namespace Sys2Proof.Machine

/-! ## The handing on (R92) -/

section
variable {s : State} {kind : Nat} {f : RxFrame} {rest : List RxFrame}

theorem State.handOn_of_handsOn {take : RxFrame → State → State} (hands : s.handsOn kind f rest) :
    s.handOn kind take = .next (take f { s with link := { s.link with rx := rest } }).settle := by
  obtain ⟨oldest, isKind, -⟩ := hands
  unfold State.handOn
  rw [oldest]
  exact if_pos isKind

/-- A frame taken by an operation that forms no result. -/
theorem State.handOn_eq {take : RxFrame → State → State} {t : State} (hands : s.handsOn kind f rest)
    (takes : take f { s with link := { s.link with rx := rest } } = t) (alone : t.order.formedNow = []) :
    s.handOn kind take = .next t := by
  rw [State.handOn_of_handsOn hands, takes, State.settle_of_none alone]

end

theorem State.order_queueDeny (c : CellNo) (ref : RefKind) (value : Nat) (reason : Reason) (owner : ExchangeOwner) (s : State) :
    (s.queueDeny c ref value reason owner).1.order = s.order := State.order_queueExchange ..

/-! ## The lists that acceptance looks at (R124, R128) -/

section
variable {s : State}

theorem State.mem_openIssues {i : IssueNo} {x : Issue} : (i, x) ∈ s.openIssues ↔ (s.issueRec i).issue = some x := by
  unfold State.openIssues
  constructor
  · intro isIn
    obtain ⟨j, -, is⟩ := List.mem_filterMap.mp isIn
    obtain ⟨y, isY, pair⟩ := Option.map_eq_some_iff.mp is
    cases pair
    exact isY
  · exact fun is => List.mem_filterMap.mpr ⟨i, List.mem_finRange i, by rw [is]; rfl⟩

theorem State.any_openIssues {test : Issue → Bool} : (s.openIssues.any fun p => test p.2) = true ↔
    ∃ i x, (s.issueRec i).issue = some x ∧ test x = true := by
  simp only [List.any_eq_true, Prod.exists, State.mem_openIssues]

theorem State.freeIssue_eq_none : s.freeIssue = none ↔ ∀ i, (s.issueRec i).issue.isSome = true := by
  simp [State.freeIssue, indices, Option.isSome_iff_ne_none]

theorem State.inService_eq_false : s.inService = false ↔ s.order.service = .setup := by
  unfold State.inService
  cases s.order.service <;> decide

theorem Ask.slot_eq_bad {a : Ask} {size : Nat} : ¬ (1 ≤ a.slot ∧ a.slot ≤ size) ↔ a.slot = 0 ∨ size < a.slot := by omega

theorem State.acceptCheck_eq (a : Ask) (s : State) : s.acceptCheck a =
    if a.fromCell = true ∧ s.order.service = .setup then some .notInService
    else if (s.cell a.cell).enabled = false then some .cellDisabled
    else if (s.cell a.cell).standing = .weak then some .cellWeak
    else if (s.cell a.cell).standing = .cutOff then some .cellCutOff
    else if a.fromCell = true ∧ s.askAllowed a = false then some .noRight
    else if a.slot = 0 ∨ (s.cell a.cell).magSize < a.slot then some .badSlot
    else if ∀ i, (s.issueRec i).issue.isSome = true then some .issueListFull
    else if (s.cell a.cell).issueLimit ≤ s.openCount a.cell then some .cellLimit
    else if ∃ i, ((s.issueRec i).issue.any fun x => x.cell == a.cell && x.slot == a.slot) = true then some .slotPending
    else if ∃ x ∈ s.tools, x.occupies a.cell a.slot = true then some .slotOccupied
    else none := by
  have pending : (s.openIssues.any fun p => p.2.cell == a.cell && p.2.slot == a.slot) = true ↔
      ∃ i, ((s.issueRec i).issue.any fun x => x.cell == a.cell && x.slot == a.slot) = true := by
    refine (State.any_openIssues (test := fun x => x.cell == a.cell && x.slot == a.slot)).trans (exists_congr fun i => ?_)
    exact (Option.any_eq_true ..).symm
  unfold State.acceptCheck
  simp only [State.inService_eq_false, Ask.slot_eq_bad, State.freeIssue_eq_none, pending, List.any_eq_true]

/-- An accepted request is of a cell that is not cut off. -/
theorem State.standing_of_acceptCheck {a : Ask} (accepted : s.acceptCheck a = none) :
    (s.cell a.cell).standing ≠ .cutOff := by
  intro cutOff
  unfold State.acceptCheck at accepted
  simp [cutOff, ite_eq_iff] at accepted

/-- Rights (R121, R122). -/
theorem State.allowed_iff (c : CellNo) (k : Option Nat) (p : Permission) : s.allowed c k p = true ↔
    ∃ i : Fin 16, (s.link.rights.get i).enabled = true ∧ (s.link.rights.get i).cells.getLsbD c.val = true ∧
      (∀ cls, k = some cls →
        (BitVec.ofNat 8 cls ^^^ (s.link.rights.get i).value) &&& (s.link.rights.get i).mask = 0) ∧
      (s.link.rights.get i).perms.grants p = true := by
  have grants (r : Right) : (r.enabled && r.hasCell c && (match k with | some k => r.hasClass k | none => true) &&
      r.perms.grants p) = true ↔ r.enabled = true ∧ r.cells.getLsbD c.val = true ∧
        (∀ cls, k = some cls → (BitVec.ofNat 8 cls ^^^ r.value) &&& r.mask = 0) ∧ r.perms.grants p = true := by
    cases k with
    | none => simp [Right.hasCell, and_assoc]
    | some cls => simp [Right.hasCell, Right.hasClass, and_assoc]
  refine List.any_eq_true.trans ⟨?_, ?_⟩
  · rintro ⟨r, isIn, holds⟩
    obtain ⟨i, low, rfl⟩ := Vector.mem_iff_getElem.mp (Vector.mem_toList_iff.mp isIn)
    exact ⟨⟨i, low⟩, (grants _).mp holds⟩
  · rintro ⟨i, holds⟩
    exact ⟨_, Vector.mem_toList_iff.mpr (Vector.mem_iff_getElem.mpr ⟨i.1, i.2, rfl⟩), (grants _).mpr holds⟩

theorem State.issuable_iff (p : PocketNo) : s.issuable p = true ↔
    (s.pocket p).stocked = true ∧ (s.pocket p).claim = none ∧ (s.attributeOf p).permits .issuePick = true := by
  simp only [State.issuable, Bool.and_eq_true, Option.isNone_iff_eq_none, and_assoc]

end

/-! ## Selection (R129, R130) -/

theorem mem_of_bestBy {α : Type} {better : α → α → Bool} {xs : List α} {y : α} (best : bestBy better xs = some y) :
    y ∈ xs := by
  induction xs generalizing y with
  | nil => cases best
  | cons x xs ih =>
    unfold bestBy at best
    cases later : bestBy better xs with
    | none =>
      rw [later] at best
      exact Option.some.inj best ▸ List.mem_cons_self
    | some z =>
      rw [later] at best
      dsimp only at best
      split at best
      · exact Option.some.inj best ▸ List.mem_cons_of_mem _ (ih later)
      · exact Option.some.inj best ▸ List.mem_cons_self

theorem bestBy_eq_none {α : Type} {better : α → α → Bool} {xs : List α} : bestBy better xs = none ↔ xs = [] := by
  cases xs with
  | nil => exact ⟨fun _ => rfl, fun _ => rfl⟩
  | cons x xs =>
    unfold bestBy
    cases bestBy better xs with
    | none => simp
    | some y => dsimp only; split <;> simp

/-- Of tools in the order of their numbers, the best is the one with the most life remaining, of equal ones the first. -/
theorem bestBy_remaining {xs : List Tool} {x : Tool} (sorted : xs.Pairwise fun a b => a.number < b.number)
    (best : bestBy (fun a b : Tool => decide (b.remaining < a.remaining)) xs = some x) :
    ∀ y ∈ xs, y.remaining < x.remaining ∨ (y.remaining = x.remaining ∧ x.number ≤ y.number) := by
  induction xs generalizing x with
  | nil => exact fun y isIn => nomatch isIn
  | cons z xs ih =>
    obtain ⟨first, others⟩ := List.pairwise_cons.mp sorted
    unfold bestBy at best
    cases later : bestBy (fun a b : Tool => decide (b.remaining < a.remaining)) xs with
    | none =>
      rw [later] at best
      have empty := bestBy_eq_none.mp later
      obtain rfl := Option.some.inj best
      rw [empty]
      exact fun y isIn => .inr (by rw [List.mem_singleton.mp isIn]; exact ⟨rfl, Nat.le_refl _⟩)
    | some w =>
      rw [later] at best
      dsimp only at best
      have least := ih others later
      intro y isIn
      have number := first w (mem_of_bestBy later)
      split at best
      · rename_i beats
        obtain rfl := Option.some.inj best
        rcases List.mem_cons.mp isIn with rfl | isIn
        · exact .inl (of_decide_eq_true beats)
        · exact least y isIn
      · rename_i beats
        obtain rfl := Option.some.inj best
        replace beats : ¬ z.remaining < w.remaining := fun less => beats (decide_eq_true less)
        rcases List.mem_cons.mp isIn with rfl | isIn
        · exact .inr ⟨rfl, Nat.le_refl _⟩
        · have := least y isIn
          have := first y isIn
          omega

section
variable {s : State}

theorem Tool.issuable_iff {x : Tool} : (x.pocket?.map s.issuable).getD false = true ↔
    ∃ p, x.location = .pocket p ∧ s.issuable p = true := by
  unfold Tool.pocket?
  cases x.location <;> simp

theorem State.selectByNumber_of_none {t : Nat} (absent : s.findTool t = none) :
    s.selectByNumber t = .error .unknownTool := by
  unfold State.selectByNumber
  rw [absent]

theorem State.selectByNumber_of_some {t : Nat} {x : Tool} (found : s.findTool t = some x) : s.selectByNumber t =
    if x.state = .claimed then .error .busy
    else if x.state ≠ .ready then .error .notReady
    else if (x.pocket?.map s.issuable).getD false then .ok t
    else .error .notStocked := by
  unfold State.selectByNumber
  rw [found]

/-- The tools that a request by class may get (R130). -/
def State.classTools (s : State) (k : Nat) : List Tool :=
  s.tools.filter fun x => k != 0 && x.cls == k && x.state == .ready && (x.pocket?.map s.issuable).getD false

theorem State.mem_classTools {k : Nat} {x : Tool} : x ∈ s.classTools k ↔
    x ∈ s.tools ∧ k ≠ 0 ∧ x.cls = k ∧ x.state = .ready ∧ ∃ p, x.location = .pocket p ∧ s.issuable p = true := by
  simp only [State.classTools, List.mem_filter, Bool.and_eq_true, bne_iff_ne, beq_iff_eq, Tool.issuable_iff, and_assoc]

theorem State.selectByClass_eq (k : Nat) : s.selectByClass k =
    match bestBy (fun a b : Tool => decide (b.remaining < a.remaining)) (s.classTools k) with
    | some x => .ok x.number
    | none => .error .noneReady := by
  unfold State.selectByClass
  rfl

theorem State.selectByClass_of_none {k : Nat} (none : s.classTools k = []) : s.selectByClass k = .error .noneReady := by
  rw [State.selectByClass_eq, none]
  rfl

theorem State.selectByClass_of_mem {k : Nat} {x : Tool} (isIn : x ∈ s.classTools k) : ∃ t, s.selectByClass k = .ok t := by
  rw [State.selectByClass_eq]
  cases best : bestBy (fun a b : Tool => decide (b.remaining < a.remaining)) (s.classTools k) with
  | none => rw [bestBy_eq_none.mp best] at isIn; cases isIn
  | some y => exact ⟨_, rfl⟩

theorem State.of_selectByClass {k t : Nat} (selected : s.selectByClass k = .ok t) : ∃ x, x.number = t ∧
    bestBy (fun a b : Tool => decide (b.remaining < a.remaining)) (s.classTools k) = some x := by
  rw [State.selectByClass_eq] at selected
  cases best : bestBy (fun a b : Tool => decide (b.remaining < a.remaining)) (s.classTools k) with
  | none => rw [best] at selected; cases selected
  | some y =>
    rw [best] at selected
    exact ⟨y, Except.ok.inj selected, rfl⟩

end

end Sys2Proof.Machine
end

section
/-! An exchange queued (R94), an issue opened for a cell (R133), and TOOL_REQUEST (R127, R131). -/

namespace Sys2Proof.Machine

/-! ## An exchange queued (R94) -/

theorem mem_insertExchange {e x : Exchange} {l : List Exchange} : x ∈ insertExchange e l ↔ x = e ∨ x ∈ l := by
  induction l with
  | nil => simp [insertExchange]
  | cons y l ih =>
    unfold insertExchange
    split
    · rw [List.mem_cons, ih, List.mem_cons]
      tauto
    · rw [List.mem_cons]

theorem length_insertExchange (e : Exchange) (l : List Exchange) : (insertExchange e l).length = l.length + 1 := by
  induction l with
  | nil => rfl
  | cons y l ih =>
    unfold insertExchange
    split
    · rw [List.length_cons, ih, List.length_cons]
    · rfl

section
variable {s : State} {c : CellNo} {p : Payload} {owner : ExchangeOwner}

theorem Cell.queueCheck_of_room {x : Cell} (room : x.queue.length < 16) (standing : x.standing ≠ .cutOff) :
    x.queueCheck p = none := by
  rw [Cell.queueCheck, if_neg (by simpa [Config.maxExchanges] using room), if_neg fun cut => standing cut.1]

/-- What a grant keeps of every exchange, the queue keeps beside the new exchange. -/
theorem State.queue_queueExchange {α : Type} {g : Exchange → α} (same : ∀ b e, g (Exchange.granted b e) = g e)
    (accepted : (s.cell c).queueCheck p = none) : ((s.queueExchange c p owner).1.cell c).queue.map g =
      (insertExchange (s.newExchange p owner) (s.cell c).queue).map g := by
  rw [State.queueExchange_taken_in accepted]
  refine (State.queue_grantBuffers same _ c).trans ?_
  rw [State.cell_modCell, if_pos rfl]

theorem State.length_queueExchange (accepted : (s.cell c).queueCheck p = none) :
    ((s.queueExchange c p owner).1.cell c).queue.length = (s.cell c).queue.length + 1 := by
  have queue := congrArg List.length (State.queue_queueExchange (owner := owner) (g := fun _ => ()) (fun _ _ => rfl) accepted)
  simpa [length_insertExchange] using queue

theorem State.mem_queueExchange (accepted : (s.cell c).queueCheck p = none) :
    ∃ e ∈ ((s.queueExchange c p owner).1.cell c).queue, e.payload = p ∧ e.owner = owner := by
  have queue := State.queue_queueExchange (owner := owner) (g := fun e => (e.payload, e.owner)) (fun _ _ => rfl) accepted
  have isIn : (p, owner) ∈ (insertExchange (s.newExchange p owner) (s.cell c).queue).map fun e => (e.payload, e.owner) :=
    List.mem_map.mpr ⟨s.newExchange p owner, mem_insertExchange.mpr (.inl rfl), rfl⟩
  rw [← queue] at isIn
  obtain ⟨e, isIn, pair⟩ := List.mem_map.mp isIn
  exact ⟨e, isIn, congrArg Prod.fst pair, congrArg Prod.snd pair⟩

/-- Queueing changes the link alone. -/
theorem State.eq_of_queueExchange {v : State} {full : Option QueueRefusal} (queued : s.queueExchange c p owner = (v, full)) :
    v = { s with link := v.link } := by
  have only := State.queueExchange_congr (s := s) (t := s) (c := c) (p := p) (owner := owner) rfl rfl
  rw [queued] at only
  exact congrArg Prod.fst only

/-- An exchange that is not refused stands in the queue, which is one longer. -/
theorem State.of_queueExchange {v : State} {full : Option QueueRefusal} (queued : s.queueExchange c p owner = (v, full))
    (accepted : (s.cell c).queueCheck p = none) : full = none ∧ (v.cell c).queue.length = (s.cell c).queue.length + 1 ∧
      ∃ e ∈ (v.cell c).queue, e.payload = p ∧ e.owner = owner := by
  have length := State.length_queueExchange (owner := owner) accepted
  have isIn := State.mem_queueExchange (owner := owner) accepted
  have taken := State.queueExchange_taken_in (owner := owner) accepted
  rw [queued] at length isIn taken
  exact ⟨congrArg Prod.snd taken, length, isIn⟩

theorem State.formedNow_of_denied {ref : RefKind} {value : Nat} {reason : Reason} {u : State} {queued : Bool}
    (denies : s.queueDeny c ref value reason owner = (u, queued)) : u.order.formedNow = s.order.formedNow := by
  have order := State.order_queueDeny c ref value reason owner s
  rw [denies] at order
  exact congrArg OrderBlock.formedNow order

end

/-! ## An issue opened for a cell (R133) -/

section
variable {s v : State} {a : Ask} {t ref : Nat} {i : IssueNo} {x y : Issue} {tool : Tool}

theorem State.closeIssue_of_cell (result : Status) (isOpen : (s.issueRec i).issue = some x)
    (closed : y = { x with closed := some s.clock }) (origin : y.origin = .cell ref) :
    s.closeIssue i result = ((s.modTool y.tool (closeRelease y result)).handReport
      ((s.modTool y.tool (closeRelease y result)).issueClosedReport (s.issueId i) y ref result)).freeRecord i := by
  rw [State.closeIssue_eq result isOpen closed, origin]

theorem State.formedNow_closeFailed_of_cell (st : Status) (w : WithdrawStatus) (isOpen : (s.issueRec i).issue = some x)
    (origin : x.origin = .cell ref) : (s.closeFailed i st w).order.formedNow = s.order.formedNow := by
  have marked (result : Status) := congrArg IssueRecord.issue ((State.issueRec_modIssue i i
    (fun z => { z with withdraw := w, failure := some result }) s).trans (if_pos rfl))
  unfold State.closeFailed
  dsimp only
  simp only [isOpen, Option.map_some] at marked
  rw [State.closeIssue_of_cell _ (marked _) rfl origin]
  exact State.formedNow_handReport ..

theorem State.openIssue_of_cell {full : Option QueueRefusal} (origin : a.origin = .cell ref) (free : s.freeIssue = some i)
    (found : s.findTool t = some tool)
    (queued : (s.withIssue a t i tool).queueExchange a.cell (offerPayload (s.issueId i) a.slot tool) (.issue (s.issueId i)) =
      (v, full)) :
    s.openIssue a t = if full = none then v else v.closeFailed i .noAnswer .notSent := by
  unfold State.withIssue at queued
  unfold State.openIssue
  rw [free, found]
  dsimp only
  rw [origin]
  dsimp only
  rw [queued]
  cases full <;> rfl

theorem State.formedNow_openIssue_of_cell (origin : a.origin = .cell ref) :
    (s.openIssue a t).order.formedNow = s.order.formedNow := by
  cases free : s.freeIssue with
  | none => unfold State.openIssue; rw [free]
  | some i =>
    cases found : s.findTool t with
    | none => unfold State.openIssue; rw [free, found]
    | some tool =>
      cases queued : (s.withIssue a t i tool).queueExchange a.cell (offerPayload (s.issueId i) a.slot tool)
        (.issue (s.issueId i)) with
      | mk v full =>
        rw [State.openIssue_of_cell origin free found queued]
        have order : v.order = (s.withIssue a t i tool).order := by
          rw [State.eq_of_queueExchange queued]
        cases full with
        | none => exact congrArg OrderBlock.formedNow order
        | some r =>
          obtain rfl := State.eq_of_queueExchange_refused queued
          have isOpen := congrArg IssueRecord.issue (State.issueRec_withIssue (s := s) (a := a) (t := t) (i := i) (y := tool))
          exact State.formedNow_closeFailed_of_cell .noAnswer .notSent isOpen origin

/-- A cell's issue opened with its offer queued: the record filled, the tool claimed, one more exchange (R133). -/
theorem State.openIssue_of_room (origin : a.origin = .cell ref) (free : s.freeIssue = some i)
    (found : s.findTool t = some tool) (room : (s.cell a.cell).queue.length < 16)
    (standing : (s.cell a.cell).standing ≠ .cutOff) :
    ((s.openIssue a t).issueRec i).issue = some (newIssue a t (tool.pocket?.getD 0) s.clock) ∧
      (s.openIssue a t).findTool t = some (tool.take (.issue (s.issueId i))) ∧
      ((s.openIssue a t).cell a.cell).queue.length = (s.cell a.cell).queue.length + 1 := by
  have accepted (p : Payload) : ((s.withIssue a t i tool).cell a.cell).queueCheck p = none :=
    Cell.queueCheck_of_room (x := s.cell a.cell) room standing
  cases queued : (s.withIssue a t i tool).queueExchange a.cell (offerPayload (s.issueId i) a.slot tool)
    (.issue (s.issueId i)) with
  | mk v full =>
    obtain ⟨rfl, length, -⟩ := State.of_queueExchange queued (accepted _)
    have only := State.eq_of_queueExchange queued
    rw [State.openIssue_of_cell origin free found queued, if_pos rfl]
    refine ⟨?_, ?_, length⟩
    · rw [only]
      exact congrArg IssueRecord.issue State.issueRec_withIssue
    · rw [only]
      exact State.findTool_claimTool found

end

/-! ## The cases of TOOL_REQUEST (R127, R131) -/

section
variable {s : State} {f : RxFrame}

theorem RxFrame.ask_eq (f : RxFrame) : f.ask =
    { cell := f.source, slot := f.field 4 1, origin := .cell (f.field 0 1)
      byClass := if f.field 1 1 = 1 then some (f.field 2 2 % 256) else none
      tool := if f.field 1 1 = 1 then 0 else f.field 2 2 } := by
  simp only [RxFrame.ask, RxFrame.byClass, beq_iff_eq]

theorem State.isRepeat_iff {a : Ask} : s.isRepeat a = true ↔
    ∃ i x, (s.issueRec i).issue = some x ∧ x.origin = a.origin ∧ x.cell = a.cell := by
  refine (State.any_openIssues (test := fun x => x.origin == a.origin && x.cell == a.cell)).trans ?_
  simp only [Bool.and_eq_true, beq_iff_eq]

theorem State.acceptIssue_of_refused {a : Ask} {reason : Reason} (check : s.acceptCheck a = some reason) :
    s.acceptIssue a = .error reason := by
  unfold State.acceptIssue
  rw [check]

theorem State.acceptIssue_of_passed {a : Ask} (check : s.acceptCheck a = none) :
    s.acceptIssue a = (s.selectTool a).map (s.openIssue a) := by
  unfold State.acceptIssue
  rw [check]
  cases s.selectTool a <;> rfl

theorem State.of_acceptIssue {a : Ask} {t : State} (accepted : s.acceptIssue a = .ok t) :
    s.acceptCheck a = none ∧ ∃ tool, s.selectTool a = .ok tool ∧ t = s.openIssue a tool := by
  cases check : s.acceptCheck a with
  | some reason => rw [State.acceptIssue_of_refused check] at accepted; cases accepted
  | none =>
    rw [State.acceptIssue_of_passed check] at accepted
    cases selected : s.selectTool a with
    | error reason => rw [selected] at accepted; cases accepted
    | ok tool =>
      rw [selected] at accepted
      exact ⟨rfl, tool, rfl, (Except.ok.inj accepted).symm⟩

theorem State.takeRequest_of_repeat (again : s.isRepeat f.ask = true) : s.takeRequest f = s := if_pos again

theorem State.takeRequest_of_accepted {t : State} (new : s.isRepeat f.ask = false) (accepted : s.acceptIssue f.ask = .ok t) :
    s.takeRequest f = t := by
  unfold State.takeRequest
  rw [new, accepted]
  rfl

theorem State.takeRequest_of_denied {reason : Reason} {u : State} {queued : Bool} (new : s.isRepeat f.ask = false)
    (denied : s.acceptIssue f.ask = .error reason)
    (denies : s.queueDeny f.ask.cell .requestRef (f.field 0 1) reason .issueManager = (u, queued)) :
    s.takeRequest f = u.handReport (deniedRequestReport f f.ask reason queued) := by
  unfold State.takeRequest State.denyRequest
  rw [new, denied]
  dsimp only
  rw [denies]
  rfl

end

/-- The frame, its checks and its reports (R127, R131). -/
theorem exec_toolRequest {f : RxFrame} {rest : List RxFrame} {s s' : State} {a : Ask} (hands : s.handsOn 0x10 f rest)
    (left : s' = { s with link := { s.link with rx := rest } }) (asks : a = f.ask) :
    ((∃ i x, (s.issueRec i).issue = some x ∧ x.origin = a.origin ∧ x.cell = a.cell) → exec .toolRequest s = .next s') ∧
    ((∀ i x, (s.issueRec i).issue = some x → x.origin = a.origin → x.cell ≠ a.cell) →
      (∀ reason u queued, s'.acceptIssue a = .error reason →
        s'.queueDeny a.cell .requestRef (f.field 0 1) reason .issueManager = (u, queued) →
        exec .toolRequest s = .next (u.handReport (deniedRequestReport f a reason queued))) ∧
      (∀ t, s'.acceptIssue a = .ok t → exec .toolRequest s = .next t ∧
        ∀ tool y i, s.selectTool a = .ok tool → s.findTool tool = some y → s.freeIssue = some i →
          (s.cell a.cell).queue.length < 16 →
          (t.issueRec i).issue = some (newIssue a tool (y.pocket?.getD 0) s.clock) ∧
          t.findTool tool = some (y.take (.issue (s.issueId i))) ∧
          (t.cell a.cell).queue.length = (s.cell a.cell).queue.length + 1)) := by
  subst left asks
  have alone := hands.2.2
  refine ⟨fun again => ?_, fun new => ?_⟩
  · exact State.handOn_eq hands (State.takeRequest_of_repeat (State.isRepeat_iff.mpr again)) alone
  have isNew : ({ s with link := { s.link with rx := rest } } : State).isRepeat f.ask = false := by
    rw [Bool.eq_false_iff]
    intro again
    obtain ⟨i, x, isOpen, origin, cell⟩ := State.isRepeat_iff.mp again
    exact new i x isOpen origin cell
  refine ⟨fun reason u queued denied denies => ?_, fun t accepted => ⟨?_, fun tool y i selected found free room => ?_⟩⟩
  · refine State.handOn_eq hands (State.takeRequest_of_denied isNew denied denies) ?_
    exact (State.formedNow_handReport ..).trans ((State.formedNow_of_denied denies).trans alone)
  · refine State.handOn_eq hands (State.takeRequest_of_accepted isNew accepted) ?_
    obtain ⟨-, tool, -, rfl⟩ := State.of_acceptIssue accepted
    exact (State.formedNow_openIssue_of_cell rfl).trans alone
  · obtain ⟨check, tool', selects, rfl⟩ := State.of_acceptIssue accepted
    cases selected.symm.trans selects
    exact State.openIssue_of_room (s := { s with link := { s.link with rx := rest } }) rfl free found room
      (State.standing_of_acceptCheck check)

/-- Settles O48: acceptance, rights, selection by number and by class, and the frame taken. -/
theorem toolRequest : Obligations.ToolRequest := by
  unfold Obligations.ToolRequest
  refine ⟨State.acceptCheck_eq, fun c k p s => State.allowed_iff c k p, fun p s => State.issuable_iff p, fun a s => ⟨?_, ?_, ?_, ?_⟩,
    fun t s => ⟨State.selectByNumber_of_none, fun x found => ?_⟩, fun k s none => ?_, ?_, ?_, ?_⟩
  · exact fun reason check => State.acceptIssue_of_refused check
  · intro check reason unselected
    rw [State.acceptIssue_of_passed check, unselected]
    rfl
  · intro k byClass
    rw [State.selectTool, byClass]
  · intro byNumber
    rw [State.selectTool, byNumber]
  · rw [State.selectByNumber_of_some found]
    refine ⟨fun claimed => if_pos claimed, fun free notReady => (if_neg free).trans (if_pos notReady), fun ready => ?_⟩
    rw [if_neg (by rw [ready]; decide), if_neg (by simp [ready])]
    simp only [Tool.issuable_iff]
    refine ⟨fun place => if_pos place, fun noPlace => if_neg ?_⟩
    rintro ⟨p, place, issuable⟩
    rw [noPlace p place] at issuable
    cases issuable
  · refine State.selectByClass_of_none (List.eq_nil_iff_forall_not_mem.mpr fun x isIn => ?_)
    obtain ⟨listed, positive, cls, ready, p, place, issuable⟩ := State.mem_classTools.mp isIn
    rcases none with zero | none
    · exact positive zero
    · rw [none x listed cls ready p place] at issuable
      cases issuable
  · exact fun k s x p positive listed cls ready place issuable =>
      State.selectByClass_of_mem (State.mem_classTools.mpr ⟨listed, positive, cls, ready, p, place, issuable⟩)
  · intro k t s sorted selected
    obtain ⟨x, number, best⟩ := State.of_selectByClass selected
    obtain ⟨listed, positive, cls, ready, place⟩ := State.mem_classTools.mp (mem_of_bestBy best)
    refine ⟨x, listed, number, cls, positive, ready, place, fun y listed cls ready place => ?_⟩
    exact bestBy_remaining (sorted.filter _) best y (State.mem_classTools.mpr ⟨listed, positive, cls, ready, place⟩)
  · intro f rest s s' a hands left asks
    rw [← RxFrame.ask_eq] at asks
    obtain ⟨again, new⟩ := exec_toolRequest hands left asks
    refine ⟨again, fun isNew => ⟨fun reason u queued denied denies => ?_, (new isNew).2⟩, fun kind oldest other => ?_⟩
    · exact (new isNew).1 reason u queued denied denies
    · refine State.handOn_of_other fun g more received isKind => other ?_
      rw [received] at oldest
      exact (Option.some.inj oldest).symm.trans isKind

end Sys2Proof.Machine
end

section
/-! USAGE (R153 to R156). -/

namespace Sys2Proof.Machine

/-! ## The considered state (R152) -/

section
variable {s : State} {x : Tool}

theorem State.isReturn_iff {n : SlotNo} : s.isReturn n = true ↔ ∃ r, s.work n = .returning r := by
  unfold State.isReturn
  cases s.work n <;> simp

theorem State.returnSlot_isSome : (s.returnSlot x).isSome = true ↔ ∃ k r, x.claim = some (.slot k) ∧ s.work k = .returning r := by
  unfold State.returnSlot
  cases claim : x.claim with
  | none => simp
  | some owner =>
    cases owner with
    | slot k =>
      simp only [Option.isSome_ite, State.isReturn_iff, Option.some.injEq, Owner.slot.injEq, exists_and_left]
      exact ⟨fun r => ⟨k, rfl, r⟩, fun ⟨_, is, r⟩ => is ▸ r⟩
    | _ => simp

theorem State.considered_of_free (free : x.state ≠ .claimed) : s.considered x = some x.state := if_pos free

theorem State.considered_of_claimed (claimed : x.state = .claimed) :
    s.considered x = if (s.returnSlot x).isSome then x.stateBefore else none := if_neg fun free => free claimed

theorem Tool.atCell_iff {c : CellNo} : x.atCell c = true ↔ ∃ m, x.location = .cell c m := by
  unfold Tool.atCell
  cases x.location with
  | cell d m =>
    simp only [beq_iff_eq, Location.cell.injEq]
    exact ⟨fun is => ⟨m, is, rfl⟩, fun ⟨_, is, _⟩ => is⟩
  | _ => simp

end

/-! ## An increment (R153, R154) -/

section
variable {s : State} {c : CellNo} {t : Nat} {x y : Tool}

theorem Tool.warningDue_iff : x.warningDue = true ↔
    x.warningSent = false ∧ max 1 (x.lifeLimit * x.warnPercent / 100) ≤ x.lifeUsed := by
  simp [Tool.warningDue, Tool.threshold, lifeThreshold]

theorem Tool.endDue_iff : x.endDue = true ↔ x.lifeEnded = false ∧ x.lifeLimit ≤ x.lifeUsed := by
  simp [Tool.endDue]

/-- The flags of a record after the checks of its life (R154). -/
def Tool.checked (x : Tool) : Tool :=
  { x with warningSent := x.warningSent || x.warningDue, lifeEnded := x.lifeEnded || x.endDue }

/-- The reports of the checks of a record's life (R154). -/
def State.lifeReports (c : CellNo) (x : Tool) (follows : Bool) (s : State) : State :=
  (fun z : State => if x.endDue then z.handReport (lifeEndReport c x follows) else z)
    (if x.warningDue then s.handReport (lifeWarningReport c x) else s)

/-- An increment that is not 0: added, the flags set, the reports written. -/
theorem State.addIncrement_eq {n : Nat} (follows : Bool) (positive : n ≠ 0) (found : s.findTool t = some x) :
    ∃ w : State, w.findTool t = some (x.addLife n).checked ∧ w = { s with tools := w.tools } ∧
      s.addIncrement c t n follows = w.lifeReports c (x.addLife n) follows := by
  have added := (State.modTool_of_found (f := Tool.addLife n) (fun _ => rfl) found rfl).2.1
  have flagged := (State.modTool_of_found (f := fun y : Tool =>
    { y with
      warningSent := y.warningSent || (x.addLife n).warningDue, lifeEnded := y.lifeEnded || (x.addLife n).endDue })
    (fun _ => rfl) added rfl).2.1
  refine ⟨_, flagged, rfl, ?_⟩
  unfold State.addIncrement State.lifeChecks
  rw [if_neg positive, added]
  rfl

theorem State.formedNow_lifeReports (follows : Bool) :
    (s.lifeReports c x follows).order.formedNow = s.order.formedNow := by
  unfold State.lifeReports
  cases x.warningDue <;> cases x.endDue <;> simp [State.formedNow_handReport]

end

/-! ## The cases of USAGE (R153, R155, R156) -/

section
variable {s : State} {f : RxFrame} {x : Tool}

theorem State.takeUsage_of_out (found : s.findTool (f.field 0 2) = some x)
    (out : s.considered x = some .out ∧ x.atCell f.source = true) :
    s.takeUsage f = s.acceptUsage f.source x (f.field 2 2) := by
  unfold State.takeUsage
  dsimp only
  rw [found]
  exact if_pos out

theorem State.takeUsage_of_rejected {u : State} {queued : Bool}
    (away : ∀ x, s.findTool (f.field 0 2) = some x → ¬ (s.considered x = some .out ∧ x.atCell f.source = true))
    (denies : s.queueDeny f.source .tool (f.field 0 2) .notMounted .lifeHandler = (u, queued)) :
    s.takeUsage f = u.handReport
      { Report.blank .usageRejected with
        cell := f.source.val + 1, tool := f.field 0 2, code := 0x10, bit1 := queued
        detail := .plain (le 2 (f.field 2 2) ++ rejectedDetail (s.findTool (f.field 0 2))) } := by
  have rejects : s.rejectUsage f.source (f.field 0 2) (f.field 2 2) = u.handReport
      { Report.blank .usageRejected with
        cell := f.source.val + 1, tool := f.field 0 2, code := 0x10, bit1 := queued
        detail := .plain (le 2 (f.field 2 2) ++ rejectedDetail (s.findTool (f.field 0 2))) } := by
    unfold State.rejectUsage
    rw [denies]
    rfl
  rw [← rejects]
  unfold State.takeUsage
  dsimp only
  cases found : s.findTool (f.field 0 2) with
  | none => rfl
  | some x => exact if_neg (away x found)

theorem State.acceptUsage_zero (c : CellNo) : s.acceptUsage c x 0 = s := rfl

theorem State.acceptUsage_eq {n : Nat} (c : CellNo) (positive : n ≠ 0) : s.acceptUsage c x n =
    if (x.addLife n).endDue then (s.addIncrement c x.number n true).queueLifeEnd c x.number
    else s.addIncrement c x.number n true := by
  unfold State.acceptUsage
  simp only [ne_eq, positive, not_false_eq_true, true_and]

section
variable {c : CellNo} {t : Nat} {u : State}

theorem State.queueLifeEnd_of_queued (queued : s.queueExchange c (.lifeEnd t) .lifeHandler = (u, none)) :
    s.queueLifeEnd c t = u := by
  unfold State.queueLifeEnd
  rw [queued]

theorem State.queueLifeEnd_of_refused {why : QueueRefusal}
    (refused : s.queueExchange c (.lifeEnd t) .lifeHandler = (u, some why)) :
    s.queueLifeEnd c t = u.handReport
      { Report.blank .lifeEndUndelivered with
        cell := c.val + 1, tool := t, code := if why = .queueFull then 1 else 2
        detail := .plain (le 1 0) } := by
  unfold State.queueLifeEnd State.reportUndelivered
  rw [refused]
  cases why <;> rfl

end

theorem State.out_iff {c : CellNo} : ¬ (s.considered x = some .out ∧ x.atCell c = true) ↔
    s.considered x ≠ some .out ∨ ∀ m, x.location ≠ .cell c m := by
  rw [Tool.atCell_iff, not_and_or, not_exists]

theorem State.considered_out (out : x.state = .out ∨ (x.state = .claimed ∧ x.stateBefore = some .out ∧
    ∃ k r, x.claim = some (.slot k) ∧ s.work k = .returning r)) : s.considered x = some .out := by
  rcases out with out | ⟨claimed, before, returns⟩
  · rw [State.considered_of_free (by rw [out]; decide), out]
  · rw [State.considered_of_claimed claimed, if_pos (State.returnSlot_isSome.mpr returns), before]

end

/-- Settles O50: the increments that USAGE adds, their reports, the LIFE_END exchange, and the rejection. -/
theorem usage : Obligations.Usage := by
  unfold Obligations.Usage
  rintro f rest s s' hands left c t n rfl rfl rfl
  have alone : s'.order.formedNow = [] := left ▸ hands.2.2
  have tools : s'.tools = s.tools := by rw [left]
  have handled {u : State} (takes : s'.takeUsage f = u) (done : u.order.formedNow = []) : exec .usage s = .next u :=
    State.handOn_eq hands (left ▸ takes) done
  have sameFound (t : Nat) : s'.findTool t = s.findTool t := by rw [State.findTool, tools]; rfl
  have sameConsidered (x : Tool) : s'.considered x = s.considered x := by rw [left]; rfl
  refine ⟨fun x m found place out => ?_, fun away u queued denies => ?_⟩
  · have takes := State.takeUsage_of_out (s := s') ((sameFound _).trans found)
      ⟨(sameConsidered x).trans (State.considered_out out), Tool.atCell_iff.mpr ⟨m, place⟩⟩
    have number := State.number_of_findTool found
    refine ⟨fun zero => handled (takes.trans (by rw [zero, State.acceptUsage_zero])) alone,
      fun positive used warns ends y isUsed isWarns isEnds isY => ?_⟩
    obtain ⟨w, record, only, adds⟩ := State.addIncrement_eq (c := f.source) true positive ((sameFound _).trans found)
    have warnsDue : warns = (x.addLife (f.field 2 2)).warningDue := by
      rw [Bool.eq_iff_iff, isWarns, Tool.warningDue_iff, isUsed]
      rfl
    have endsDue : ends = (x.addLife (f.field 2 2)).endDue := by
      rw [Bool.eq_iff_iff, isEnds, Tool.endDue_iff, isUsed]
      rfl
    have done : (w.lifeReports f.source (x.addLife (f.field 2 2)) true).order.formedNow = [] := by
      rw [State.formedNow_lifeReports, only]
      exact alone
    rw [State.acceptUsage_eq _ positive, number, adds, ← endsDue] at takes
    refine ⟨w, w.lifeReports f.source (x.addLife (f.field 2 2)) true, ?_, only, ?_, fun stays => ?_, fun isEnd u refusal queued =>
      ⟨fun accepted => ?_, fun why refused => ?_⟩⟩
    · rw [record, isY, warnsDue, endsDue, isUsed]
      rfl
    · rw [warnsDue, endsDue, isUsed, ← number]
      rfl
    · rw [stays] at takes
      exact handled takes done
    · rw [isEnd] at takes
      subst accepted
      exact handled (takes.trans (State.queueLifeEnd_of_queued queued)) (State.eq_of_queueExchange queued ▸ done)
    · rw [isEnd] at takes
      subst refused
      exact handled (takes.trans (State.queueLifeEnd_of_refused queued))
        ((State.formedNow_handReport ..).trans (State.eq_of_queueExchange queued ▸ done))
  · refine handled ?_ ((State.formedNow_handReport ..).trans ((State.formedNow_of_denied denies).trans alone))
    rw [← sameFound]
    exact State.takeUsage_of_rejected (fun x found => State.out_iff.mpr (sameConsidered x ▸ away x (sameFound _ ▸ found))) denies

end Sys2Proof.Machine
end

section
/-! RETURN_NOTICE (R157, R158). -/

namespace Sys2Proof.Machine

/-! ## What an increment keeps (R153, R154) -/

/-- A record after an increment and its checks (R153, R154, R158). -/
def Tool.used (n : Nat) (x : Tool) : Tool := if n = 0 then x else (x.addLife n).checked

/-- What an increment and its reports keep beside the records. -/
structure State.KeptByUse (s w : State) : Prop where
  cells : w.link.cells = s.link.cells
  crib : w.crib = s.crib
  issues : w.issues = s.issues
  slots : w.order.slots = s.order.slots
  formedNow : w.order.formedNow = s.order.formedNow

theorem State.cells_handReport (r : Report) (s : State) : (s.handReport r).link.cells = s.link.cells := by
  unfold State.handReport State.enterStall State.placeCribState
  simp only [State.modReports, State.modOrder, State.modLink]
  split <;> (try split) <;> rfl

theorem State.KeptByUse.handReport {s w : State} (kept : s.KeptByUse w) (r : Report) : s.KeptByUse (w.handReport r) := by
  obtain ⟨-, -, crib, -, issues, -⟩ := w.handReport_frame r
  exact ⟨(w.cells_handReport r).trans kept.cells, crib.trans kept.crib, issues.trans kept.issues,
    (w.slots_handReport r).trans kept.slots, (w.formedNow_handReport r).trans kept.formedNow⟩

section
variable {s : State} {c : CellNo} {t : Nat} {x : Tool}

theorem State.lifeReports_keeps (follows : Bool) {w : State} (kept : s.KeptByUse w) :
    s.KeptByUse (w.lifeReports c x follows) ∧ (w.lifeReports c x follows).tools = w.tools := by
  unfold State.lifeReports
  cases x.warningDue <;> cases x.endDue
  · exact ⟨kept, rfl⟩
  · exact ⟨kept.handReport _, (State.handReport_frame _ _).2.1⟩
  · exact ⟨kept.handReport _, (State.handReport_frame _ _).2.1⟩
  · exact ⟨(kept.handReport _).handReport _, ((State.handReport_frame _ _).2.1).trans (State.handReport_frame _ _).2.1⟩

theorem State.addIncrement_keeps (n : Nat) (follows : Bool) (found : s.findTool t = some x) :
    s.KeptByUse (s.addIncrement c t n follows) ∧ (s.addIncrement c t n follows).findTool t = some (x.used n) := by
  by_cases zero : n = 0
  · subst zero
    exact ⟨⟨rfl, rfl, rfl, rfl, rfl⟩, found⟩
  · obtain ⟨w, record, only, adds⟩ := State.addIncrement_eq (c := c) follows zero found
    have kept : s.KeptByUse w := by
      rw [only]
      exact ⟨rfl, rfl, rfl, rfl, rfl⟩
    obtain ⟨kept, tools⟩ := State.lifeReports_keeps (c := c) (x := x.addLife n) follows kept
    rw [adds, Tool.used, if_neg zero, State.findTool, tools]
    exact ⟨kept, record⟩

end

/-! ## The record that a notice leaves (R158) -/

section
variable {x : Tool}

theorem Tool.used_eq (n : Nat) (x : Tool) : x.used n =
    { x with lifeUsed := (x.used n).lifeUsed, warningSent := (x.used n).warningSent, lifeEnded := (x.used n).lifeEnded } := by
  unfold Tool.used
  split <;> rfl

theorem Tool.lifeUsed_used (n : Nat) : (x.used n).lifeUsed = if n = 0 then x.lifeUsed else min 65535 (x.lifeUsed + n) := by
  unfold Tool.used
  split <;> rfl

theorem or_not_and (a b : Bool) : (a || (!a && b)) = (a || b) := by cases a <;> rfl

theorem Tool.warningSent_used (n : Nat) : (x.used n).warningSent = (x.warningSent ||
    decide (n ≠ 0 ∧ max 1 (x.lifeLimit * x.warnPercent / 100) ≤ (x.used n).lifeUsed)) := by
  unfold Tool.used
  split
  · simp [*]
  · simp only [ne_eq, *, not_false_eq_true, true_and]
    exact or_not_and ..

theorem Tool.lifeEnded_used (n : Nat) : (x.used n).lifeEnded = (x.lifeEnded ||
    decide (n ≠ 0 ∧ x.lifeLimit ≤ (x.used n).lifeUsed)) := by
  unfold Tool.used
  split
  · simp [*]
  · simp only [ne_eq, *, not_false_eq_true, true_and]
    exact or_not_and ..

theorem Tool.noticed_eq {before : ToolState} {c : CellNo} {m : Nat} (place : (before = .out ∧ x.location = .cell c m) ∨
    (before = .astray ∧ x.location = .loose ∧ x.last = some (c, m))) : x.noticed before =
    { x with
      location := .loose
      last := some (c, m)
      state := if x.state = .claimed then .claimed else .returning
      stateBefore := if x.state = .claimed then some .returning else x.stateBefore
      issueCount := if before = .astray then min 65535 (x.issueCount + 1) else x.issueCount } := by
  unfold Tool.noticed Tool.setConsidered
  rcases place with ⟨rfl, place⟩ | ⟨rfl, place, last⟩
  · rw [place]
    by_cases claimed : x.state = .claimed <;> simp [claimed]
  · rw [place]
    by_cases claimed : x.state = .claimed <;> simp [claimed, Tool.countIssue, last]

end

/-! ## The cases of RETURN_NOTICE (R157, R158) -/

section
variable {s : State} {f : RxFrame} {c : CellNo} {t n : Nat} {x : Tool}

theorem Tool.lastAt_iff : x.lastAt c = true ↔ ∃ m, x.last = some (c, m) := by
  unfold Tool.lastAt
  cases x.last with
  | none => simp
  | some l =>
    obtain ⟨d, m⟩ := l
    simp only [Option.any_some, beq_iff_eq, Option.some.injEq, Prod.mk.injEq]
    exact ⟨fun is => ⟨m, is, rfl⟩, fun ⟨_, is, _⟩ => is⟩

/-- The frame repeats a notice that was taken (R157). -/
def State.noticeRepeats (s : State) (f : RxFrame) : Bool :=
  (s.findTool (f.field 0 2)).any fun x => s.considered x == some .returning && x.lastAt f.source

theorem State.noticeRepeats_iff : s.noticeRepeats f = true ↔ ∃ x m, s.findTool (f.field 0 2) = some x ∧
    s.considered x = some .returning ∧ x.last = some (f.source, m) := by
  simp only [State.noticeRepeats, Option.any_eq_true, Bool.and_eq_true, beq_iff_eq, Tool.lastAt_iff]
  constructor
  · rintro ⟨x, found, state, m, last⟩
    exact ⟨x, m, found, state, last⟩
  · rintro ⟨x, m, found, state, last⟩
    exact ⟨x, found, state, m, last⟩

theorem State.takeNotice_of_repeat (again : s.noticeRepeats f = true) : s.takeNotice f = s := if_pos again

theorem State.takeNotice_of_denied {reason : Reason} {u : State} {queued : Bool} (new : s.noticeRepeats f = false)
    (check : s.noticeCheck f.source (s.findTool (f.field 0 2)) = some reason)
    (denies : s.queueDeny f.source .tool (f.field 0 2) reason .lifeHandler = (u, queued)) :
    s.takeNotice f = u.handReport
      { Report.blank .requestDenied with
        cell := f.source.val + 1, tool := f.field 0 2, code := reason.code, bit1 := queued
        detail := .plain (le 1 0x16 ++ le 4 0 ++ le 2 (f.field 2 2)) } := by
  refine (if_neg (Bool.eq_false_iff.mp new)).trans ?_
  rw [check]
  unfold State.denyNotice
  dsimp only
  rw [denies]
  rfl

theorem State.takeNotice_of_accepted (new : s.noticeRepeats f = false)
    (check : s.noticeCheck f.source (s.findTool (f.field 0 2)) = none) (found : s.findTool (f.field 0 2) = some x)
    {before : ToolState} (considered : s.considered x = some before) :
    s.takeNotice f = s.acceptNotice f.source (f.field 0 2) (f.field 2 2) before := by
  refine (if_neg (Bool.eq_false_iff.mp new)).trans ?_
  rw [check, found]
  dsimp only [Option.bind_some]
  rw [considered]
  rfl

theorem State.noticeCheck_of_noRight {record : Option Tool} (denied : s.allowed c (record.map (·.cls)) .returnTool = false) :
    s.noticeCheck c record = some .noRight := by
  unfold State.noticeCheck
  exact if_pos denied

theorem State.noticeCheck_of_unknown (allowed : s.allowed c none .returnTool = true) :
    s.noticeCheck c none = some .unknownTool := by
  unfold State.noticeCheck
  exact if_neg (by simp [allowed])

theorem State.noticeCheck_of_some (allowed : s.allowed c (some x.cls) .returnTool = true) : s.noticeCheck c (some x) =
    if (s.considered x = some .out ∧ x.atCell c = true) ∨ (s.considered x = some .astray ∧ x.lastAt c = true) then none
    else some .notMounted := by
  unfold State.noticeCheck
  exact if_neg (by simp [allowed])

/-- An accepted notice: the record used and RETURNING, then RETURN_NOTED (R158). -/
theorem State.acceptNotice_eq {before : ToolState} (found : s.findTool t = some x) : ∃ v : State,
    s.acceptNotice c t n before = v.handReport (v.returnNotedReport c ((x.used n).noticed before) n before) ∧
      v.findTool t = some ((x.used n).noticed before) ∧ s.KeptByUse v := by
  obtain ⟨kept, record⟩ := State.addIncrement_keeps (c := c) n false found
  have number (y : Tool) : (y.noticed before).number = y.number := by
    unfold Tool.noticed Tool.setConsidered
    split <;> dsimp only <;> split <;> split <;> rfl
  have noticed := (State.modTool_of_found (f := Tool.noticed before) number record rfl).2.1
  refine ⟨_, ?_, noticed, ⟨kept.cells, kept.crib, kept.issues, kept.slots, kept.formedNow⟩⟩
  unfold State.acceptNotice
  dsimp only
  rw [noticed]

theorem State.returnSlot_congr {v : State} {y : Tool} (slots : v.order.slots = s.order.slots) (claim : y.claim = x.claim) :
    v.returnSlot y = s.returnSlot x := by
  unfold State.returnSlot State.isReturn State.work State.slot
  rw [slots, claim]

end

/-- Settles O51: a repeat, the checks of a notice, and the record and the report of an accepted one. -/
theorem returnNotice : Obligations.ReturnNotice := by
  unfold Obligations.ReturnNotice
  rintro f rest s s' hands left c t n rfl rfl rfl
  have alone : s'.order.formedNow = [] := left ▸ hands.2.2
  have handled {u : State} (takes : s'.takeNotice f = u) (done : u.order.formedNow = []) : exec .returnNotice s = .next u :=
    State.handOn_eq hands (left ▸ takes) done
  have sameFound (t : Nat) : s'.findTool t = s.findTool t := by rw [left]; rfl
  have sameConsidered (x : Tool) : s'.considered x = s.considered x := by rw [left]; rfl
  have sameAllowed (c : CellNo) (k : Option Nat) (p : Permission) : s'.allowed c k p = s.allowed c k p := by rw [left]; rfl
  refine ⟨fun x m found returning last => ?_, fun isNew => ?_⟩
  · refine handled (State.takeNotice_of_repeat (State.noticeRepeats_iff.mpr ⟨x, m, ?_, ?_, last⟩)) alone
    · rw [sameFound, found]
    · rw [sameConsidered, returning]
  have new : s'.noticeRepeats f = false := by
    rw [Bool.eq_false_iff]
    intro again
    obtain ⟨x, m, found, returning, last⟩ := State.noticeRepeats_iff.mp again
    exact isNew x m (sameFound _ ▸ found) (sameConsidered x ▸ returning) last
  refine ⟨fun reason u queued why denies => ?_, fun x m before allowed found considered place => ?_⟩
  · refine handled (State.takeNotice_of_denied new ?_ denies)
      ((State.formedNow_handReport ..).trans ((State.formedNow_of_denied denies).trans alone))
    rw [sameFound]
    rcases why with ⟨rfl, denied⟩ | ⟨allowed, ⟨rfl, absent⟩ | ⟨rfl, x, found, noOut, noAstray⟩⟩
    · exact State.noticeCheck_of_noRight ((sameAllowed ..).trans denied)
    · rw [absent] at allowed ⊢
      exact State.noticeCheck_of_unknown ((sameAllowed ..).trans allowed)
    · rw [found] at allowed ⊢
      rw [State.noticeCheck_of_some ((sameAllowed ..).trans allowed), if_neg]
      rw [sameConsidered, Tool.atCell_iff, Tool.lastAt_iff]
      rintro (⟨out, m, place⟩ | ⟨astray, m, last⟩)
      · exact noOut m out place
      · exact noAstray m astray last
  · have check : s'.noticeCheck f.source (s'.findTool (f.field 0 2)) = none := by
      rw [sameFound, found, State.noticeCheck_of_some ((sameAllowed ..).trans allowed), if_pos]
      rw [sameConsidered, considered, Tool.atCell_iff, Tool.lastAt_iff]
      rcases place with ⟨rfl, place⟩ | ⟨rfl, -, last⟩
      · exact .inl ⟨rfl, m, place⟩
      · exact .inr ⟨rfl, m, last⟩
    have takes := State.takeNotice_of_accepted new check ((sameFound _).trans found) ((sameConsidered x).trans considered)
    obtain ⟨v, accepts, record, kept⟩ := State.acceptNotice_eq (c := f.source) (n := f.field 2 2) (before := before)
      ((sameFound _).trans found)
    have used := Tool.used_eq (f.field 2 2) x
    generalize isY : (x.used (f.field 2 2)).noticed before = y at accepts record
    rw [Tool.noticed_eq (c := f.source) (m := m) (by rw [used]; exact place), used] at isY
    have done := handled (takes.trans accepts) ((State.formedNow_handReport ..).trans (kept.formedNow.trans alone))
    have slot := State.returnSlot_congr (v := v) (s := s) (x := x) (y := y) (kept.slots.trans (by rw [left]))
      (by rw [← isY])
    have last : y.last = some (f.source, m) := by rw [← isY]
    refine ⟨y, v, _, done, ?_, ?_, ?_, ?_, ?_, ?_, ?_, ?_, ?_⟩
    · rw [State.findTool, (State.handReport_frame _ v).2.1]
      exact record
    · rw [← isY]
    · rw [← isY]
      exact Tool.lifeUsed_used _
    · rw [← isY]
      exact Tool.warningSent_used _
    · rw [← isY]
      exact Tool.lifeEnded_used _
    · rw [State.returnNotedReport, slot, last, State.number_of_findTool record]
      rfl
    · exact kept.cells.trans (by rw [left])
    · exact kept.crib.trans (by rw [left])
    · exact kept.issues.trans (by rw [left])

end Sys2Proof.Machine
end

section
/-! The close, the withdrawal and the cancel of an issue, by what they change (R42, R95, R142, R143, R145 to R148). -/

namespace Sys2Proof.Machine

/-! ## An issue record changed (R124) -/

section
variable {s : State} {i : IssueNo} {x : Issue}

theorem State.issue_modIssue (f : Issue → Issue) (isOpen : (s.issueRec i).issue = some x) :
    ((s.modIssue i f).issueRec i).issue = some (f x) := by
  rw [State.issueRec_modIssue, if_pos rfl, isOpen]
  rfl

theorem State.issueId_modIssue (f : Issue → Issue) : (s.modIssue i f).issueId i = s.issueId i := by
  rw [State.issueId, State.issueRec_modIssue, if_pos rfl, State.issueId]

theorem State.issueRec_congr {t : State} (issues : t.issues = s.issues) : t.issueRec i = s.issueRec i := by
  rw [State.issueRec, issues]
  rfl

theorem State.issueId_congr {t : State} (issues : t.issues = s.issues) : t.issueId i = s.issueId i := by
  rw [State.issueId, State.issueRec_congr issues, State.issueId]

theorem State.modIssue_modIssue (f g : Issue → Issue) (s : State) :
    (s.modIssue i f).modIssue i g = s.modIssue i fun x => g (f x) := by
  have same : ((s.modIssue i f).issues.records.get i) = { s.issueRec i with issue := (s.issueRec i).issue.map f } :=
    (State.issueRec_modIssue i i f s).trans (if_pos rfl)
  unfold State.modIssue State.modIssues at same ⊢
  dsimp only at same ⊢
  simp only [same, Option.map_map, Vector.set_set]
  rfl

end

/-! ## The close (R143) -/

/-- What an issue is when it closes with its failure result, or with another one. -/
def Issue.closing (st : Status) (w : WithdrawStatus) (now : Stamp) (x : Issue) : Issue :=
  { x with withdraw := w, failure := some (x.failure.getD st), closed := some now }

section
variable {s : State} {i : IssueNo} {x y : Issue} {st result : Status} {w : WithdrawStatus}

theorem State.findTool_closeRelease {t : Nat} {tool : Tool} (isTool : y.tool = t) (found : s.findTool t = some tool) :
    (s.modTool y.tool (closeRelease y result)).findTool t = some (closeRelease y result tool) := by
  refine (State.modTool_of_found (fun z => ?_) (isTool ▸ found) rfl).2.1 |> fun found => isTool ▸ found
  unfold closeRelease
  split <;> simp [Tool.countIssue, Tool.number_release]

theorem closeRelease_of_failed {tool : Tool} (notMounted : result ≠ .mounted) (notAstray : result ≠ .astray)
    (held : tool.stateBefore ≠ some .astray) (ready : tool.meetsReady = true) :
    closeRelease y result tool = { tool with claim := none, stateBefore := none, state := .ready } := by
  have released : tool.release false .ready tool.location =
      { tool with claim := none, stateBefore := none, state := .ready } := by
    rw [Tool.release_eq (fun both => held both.2) rfl, if_neg]
    rintro ⟨-, fails⟩
    exact absurd (ready.symm.trans fails) (by decide)
  rw [← released]
  unfold closeRelease
  split
  · exact absurd rfl notMounted
  · exact absurd rfl notAstray
  · rfl

theorem closeRelease_mounted {tool : Tool} (held : tool.stateBefore ≠ some .astray) :
    closeRelease y .mounted tool =
      { tool with
        claim := none, stateBefore := none, state := .out, location := .cell y.cell y.slot
        issueCount := min 65535 (tool.issueCount + 1) } := by
  change (tool.release false .out (.cell y.cell y.slot)).countIssue = _
  rw [Tool.release_eq (fun both => held both.2) rfl, if_neg (fun both => by cases both.1)]
  rfl

/-- The outcome of a close, beside the Tool Table. -/
structure State.ClosedBy (s : State) (i : IssueNo) (y : Issue) (result : Status) (t : State) : Prop where
  issue : (t.issueRec i).issue = none
  generation : (t.issueRec i).generation =
    (if i.val = 31 ∧ (s.issueRec i).generation.val = 6 then 0 else (s.issueRec i).generation + 1)
  tools : t.tools = (s.modTool y.tool (closeRelease y result)).tools
  crib : t.crib = s.crib
  cells : t.link.cells = s.link.cells
  toOrder : ∀ n c, y.origin = .order n → (s.slot n).context = some c → c.output = none →
    t.formedStatus n = some result ∧ t.reports = s.reports
  toCell : ∀ ref, y.origin = .cell ref → t.order.formedNow = s.order.formedNow ∧
    t = ((s.modTool y.tool (closeRelease y result)).handReport
      ((s.modTool y.tool (closeRelease y result)).issueClosedReport (s.issueId i) y ref result)).freeRecord i

theorem State.cells_closeIssue (result : Status) : (s.closeIssue i result).link.cells = s.link.cells := by
  cases isOpen : (s.issueRec i).issue with
  | none =>
    unfold State.closeIssue
    rw [isOpen]
  | some x =>
    rw [State.closeIssue_eq result isOpen rfl]
    split
    · exact congrArg Link.cells (State.complete_frame ..).2.2.2.2.2.1
    · exact State.cells_handReport ..

theorem State.closedBy_closeIssue (isOpen : (s.issueRec i).issue = some x) (closed : y = { x with closed := some s.clock }) :
    s.ClosedBy i y result (s.closeIssue i result) := by
  obtain ⟨record, -, tools, toOrder, -⟩ := State.issueClosed_closeIssue result isOpen closed
  have frame := State.closeIssue_frame i result s
  refine ⟨by rw [record], by rw [record], ?_, ?_, State.cells_closeIssue result, fun n c origin context unfinished => ?_,
    fun ref origin => ⟨?_, State.closeIssue_of_cell result isOpen closed origin⟩⟩
  · exact tools.trans (State.tools_closeRelease y result s).symm
  · simp
  · obtain ⟨reports, done⟩ := toOrder n c origin context unfinished
    refine ⟨?_, reports⟩
    rw [State.formedStatus, done]
    rfl
  · rw [State.closeIssue_of_cell result isOpen closed origin]
    exact State.formedNow_handReport ..

/-- A close with the failure result recorded, or with this one (R143). -/
theorem State.closedBy_closeFailed (isOpen : (s.issueRec i).issue = some x) :
    (s.modIssue i fun z => { z with withdraw := w, failure := some (x.failure.getD st) }).ClosedBy i (x.closing st w s.clock)
      (x.failure.getD st) (s.closeFailed i st w) := by
  have failed : (s.issueRec i).issue.bind (·.failure) = x.failure := by rw [isOpen]; rfl
  unfold State.closeFailed
  dsimp only
  rw [failed]
  exact State.closedBy_closeIssue (State.issue_modIssue _ isOpen) rfl

end

/-! ## The withdrawal (R142) -/

section
variable {s : State} {i : IssueNo} {x : Issue} {st : Status}

/-- An issue that withdraws. -/
def Issue.withdrawing (st : Status) (x : Issue) : Issue :=
  { x with phase := .withdrawing, request := none, failure := some (x.failure.getD st) }

/-- The outcome of a withdrawal whose WITHDRAW is queued. -/
structure State.WithdrawnBy (s : State) (i : IssueNo) (x : Issue) (st : Status) (t : State) : Prop where
  issue : (t.issueRec i).issue = some (x.withdrawing st)
  only : t = { s with issues := t.issues, link := t.link }
  queue : ∃ e ∈ (t.cell x.cell).queue, e.payload = .withdraw (s.issueId i) x.tool x.slot ∧ e.owner = .issue (s.issueId i)
  faultCount : ∀ c, (t.cell c).faultCount = (s.cell c).faultCount

/-- The grant rule changes of a cell its queue and its last grant. -/
theorem State.cell_grantBuffers (s : State) (c : CellNo) : s.grantBuffers.cell c =
    { s.cell c with queue := (s.grantBuffers.cell c).queue, lastGrant := (s.grantBuffers.cell c).lastGrant } := by
  refine s.grantBuffers_keeps (P := fun t => t.cell c =
    { s.cell c with queue := (t.cell c).queue, lastGrant := (t.cell c).lastGrant }) (fun t d b _ kept => ?_)
    (fun t d kept => ?_) rfl
  all_goals
    rw [State.cell_modCell]
    split
    · rename_i here
      subst here
      rw [kept]
    · exact kept

theorem State.faultCount_grantBuffers (s : State) (c : CellNo) : (s.grantBuffers.cell c).faultCount = (s.cell c).faultCount := by
  rw [State.cell_grantBuffers]

theorem State.standing_grantBuffers (s : State) (c : CellNo) : (s.grantBuffers.cell c).standing = (s.cell c).standing := by
  rw [State.cell_grantBuffers]

theorem State.withdrawnBy_enterWithdrawing (isOpen : (s.issueRec i).issue = some x)
    (room : (s.cell x.cell).queue.length < 16) (standing : (s.cell x.cell).standing ≠ .cutOff) :
    s.WithdrawnBy i x st (s.enterWithdrawing i st) := by
  have marked := State.issue_modIssue (fun z => { z with phase := .withdrawing, request := none, failure := some (z.failure.getD st) })
    isOpen
  rw [State.enterWithdrawing_of_queued isOpen room standing]
  generalize isT : s.modIssue i (fun z => { z with phase := .withdrawing, request := none, failure := some (z.failure.getD st) }) = t
    at marked
  have only : t = { s with issues := t.issues } := by rw [← isT]; rfl
  have cell (c : CellNo) : t.cell c = s.cell c := by rw [only]; rfl
  have accepted : (t.cell x.cell).queueCheck (.withdraw (s.issueId i) x.tool x.slot) = none := by
    rw [cell]
    exact Cell.queueCheck_of_room room standing
  have counts (c : CellNo) : ((t.queueExchange x.cell (.withdraw (s.issueId i) x.tool x.slot) (.issue (s.issueId i))).1.cell c).faultCount =
      (t.cell c).faultCount := by
    rw [State.queueExchange_taken_in accepted, State.faultCount_grantBuffers, State.cell_modCell]
    split
    · rename_i here
      subst here
      rfl
    · rfl
  cases queued : t.queueExchange x.cell (.withdraw (s.issueId i) x.tool x.slot) (.issue (s.issueId i)) with
  | mk v full =>
    rw [queued] at counts
    have changed := State.eq_of_queueExchange queued
    obtain ⟨-, -, stands⟩ := State.of_queueExchange queued accepted
    refine ⟨?_, ?_, stands, fun c => (counts c).trans (by rw [cell])⟩
    · rw [State.issueRec_congr (s := t) (by rw [changed])]
      exact marked
    · rw [changed, only]

/-- A WITHDRAW that is refused closes the issue (R142). -/
theorem State.enterWithdrawing_of_refused (isOpen : (s.issueRec i).issue = some x)
    (refused : 16 ≤ (s.cell x.cell).queue.length ∨ (s.cell x.cell).standing = .cutOff) :
    s.enterWithdrawing i st =
      (s.modIssue i fun z => { z.fail st with phase := .withdrawing, request := none }).closeFailed i st .unconfirmed := by
  unfold State.enterWithdrawing
  rw [isOpen]
  dsimp only
  generalize isT : s.modIssue i (fun z => { z.fail st with phase := .withdrawing, request := none }) = t
  have cell : t.cell x.cell = s.cell x.cell := by rw [← isT]; rfl
  have check : ∃ r, (t.cell x.cell).queueCheck (.withdraw (s.issueId i) x.tool x.slot) = some r := by
    rw [cell, Cell.queueCheck]
    split
    · exact ⟨_, rfl⟩
    · rename_i room
      have cut := refused.resolve_left (by simpa [Config.maxExchanges] using room)
      exact ⟨_, if_pos ⟨cut, by simp⟩⟩
  obtain ⟨r, check⟩ := check
  rw [State.queueExchange_refused check]

end

/-! ## A recall (R95) -/

section
variable {s : State} {c : CellNo} {owner : ExchangeOwner} {e : Exchange}

/-- The exchanges of an owner taken out of a queue (R95). -/
def State.recalled (c : CellNo) (owner : ExchangeOwner) (s : State) : State :=
  (s.modCell c fun x => { x with queue := x.queue.filter fun e => e.owner != owner }).grantBuffers

theorem State.recall_of_inFlight (first : (s.cell c).queue.find? (fun e => e.owner == owner) = some e)
    (flies : e.step = .inFlight) : s.recall c owner = (s, .inFlight) := by
  unfold State.recall
  rw [first]
  exact if_pos flies

theorem State.recall_of_waiting (first : (s.cell c).queue.find? (fun e => e.owner == owner) = some e)
    (waits : e.step ≠ .inFlight) :
    s.recall c owner = (s.recalled c owner, .recalled e.acknowledged e.triesUsed e.deferrals) := by
  unfold State.recall
  rw [first]
  exact if_neg waits

theorem State.recalled_eq : s.recalled c owner = { s with link := (s.recalled c owner).link } := State.grantBuffers_eq _

theorem State.owner_recalled (e' : Exchange) (stands : e' ∈ ((s.recalled c owner).cell c).queue) : e'.owner ≠ owner := by
  have queue := State.queue_grantBuffers (g := (·.owner)) (fun _ _ => rfl)
    (s.modCell c fun x => { x with queue := x.queue.filter fun e => e.owner != owner }) c
  rw [State.cell_modCell, if_pos rfl] at queue
  have isIn : e'.owner ∈ ((s.recalled c owner).cell c).queue.map (·.owner) := List.mem_map_of_mem stands
  rw [State.recalled, queue] at isIn
  obtain ⟨d, kept, same⟩ := List.mem_map.mp isIn
  have other := (List.mem_filter.mp kept).2
  rw [same] at other
  simpa using other

theorem State.length_recalled (first : (s.cell c).queue.find? (fun e => e.owner == owner) = some e) :
    ((s.recalled c owner).cell c).queue.length < (s.cell c).queue.length := by
  have queue := congrArg List.length (State.queue_grantBuffers (g := fun _ => ()) (fun _ _ => rfl)
    (s.modCell c fun x => { x with queue := x.queue.filter fun e => e.owner != owner }) c)
  rw [State.cell_modCell, if_pos rfl, List.length_map, List.length_map] at queue
  rw [State.recalled, queue]
  refine List.length_filter_lt_length_iff_exists.mpr ⟨e, List.mem_of_find?_eq_some first, ?_⟩
  have isOwner := List.find?_some first
  simpa using isOwner

theorem State.standing_recalled (d : CellNo) : ((s.recalled c owner).cell d).standing = (s.cell d).standing := by
  rw [State.recalled, State.standing_grantBuffers, State.cell_modCell]
  split
  · rename_i here
    subst here
    rfl
  · rfl

end

/-! ## An unlock request cancelled (R43) -/

section
variable {s : State} {num : Nat} {r : Request}

theorem State.number_of_findRequest (found : s.findRequest num = some r) : r.number = num := by
  have same := List.find?_some found
  exact beq_iff_eq.mp same

theorem State.cancelRequest_of_queued (found : s.findRequest num = some r) (queued : r.state = .queued) :
    s.cancelRequest num = (s.endRequest r, true) := by
  unfold State.cancelRequest
  rw [found]
  dsimp only
  rw [queued]

theorem State.cancelRequest_of_open (found : s.findRequest num = some r) (isOpen : r.state = .opening ∨ r.state = .opened) :
    s.cancelRequest num = (s.closing r .cancelled, true) := by
  obtain rfl := State.number_of_findRequest found
  unfold State.cancelRequest
  rw [found]
  dsimp only
  rcases isOpen with isOpen | isOpen <;> rw [isOpen] <;> rfl

theorem State.cancelRequest_of_closing (found : s.findRequest num = some r) (closing : r.state = .closing) :
    s.cancelRequest num = (s, false) := by
  unfold State.cancelRequest
  rw [found]
  dsimp only
  rw [closing]

/-- What a cancelled request leaves of the requests and of its pocket (R43). -/
structure State.StoppedBy (s : State) (r : Request) (t : State) : Prop where
  queued : r.state = .queued → t.crib.requests = s.crib.requests.filter (fun q => q.number != r.number) ∧
    t.pocket r.pocket = { s.pocket r.pocket with claim := none }
  opened : r.state = .opening ∨ r.state = .opened →
    t.crib.requests = s.crib.requests.map (fun q => if q.number = r.number then
      { q with state := .closing, window := none, outcome := some .cancelled } else q) ∧
    t.pocket r.pocket = { s.pocket r.pocket with lock := .closing, confirm := some 250, stamp := s.clock }

theorem State.StoppedBy.congr {t u : State} (stopped : s.StoppedBy r t) (crib : u.crib = t.crib) : s.StoppedBy r u := by
  have pocket : u.pocket = t.pocket := by funext p; rw [State.pocket, crib]; rfl
  exact ⟨crib ▸ pocket ▸ stopped.queued, crib ▸ pocket ▸ stopped.opened⟩

/-- A cancelled request: CANCELLED delivered, and the crib alone changed. -/
theorem State.cancelRequest_of_live (found : s.findRequest num = some r)
    (live : r.state = .queued ∨ r.state = .opening ∨ r.state = .opened) : ∃ t, s.cancelRequest num = (t, true) ∧
      s.StoppedBy r t ∧ t = { s with crib := t.crib } := by
  rcases live with queued | isOpen
  · refine ⟨_, State.cancelRequest_of_queued found queued, ⟨fun _ => ⟨rfl, State.pocket_endRequest_self⟩, fun other => ?_⟩, rfl⟩
    rcases other with other | other <;> cases queued.symm.trans other
  · refine ⟨_, State.cancelRequest_of_open found isOpen, ⟨fun queued => ?_, fun _ => ⟨State.requests_closing,
      State.pocket_closing_self⟩⟩, State.closing_eq⟩
    rcases isOpen with other | other <;> cases queued.symm.trans other

end

/-! ## The cancel of an issue (R145 to R148) -/

section
variable {s : State} {i : IssueNo} {x : Issue}

section
variable (isOpen : (s.issueRec i).issue = some x)
include isOpen

theorem State.cancelIssue_of_transit (phase : x.phase = .transit) : s.cancelIssue i = (s, .tooLate) := by
  unfold State.cancelIssue
  rw [isOpen]
  dsimp only
  rw [phase]

theorem State.cancelIssue_of_withdrawing (phase : x.phase = .withdrawing) : s.cancelIssue i = (s, .notCancellable) := by
  unfold State.cancelIssue
  rw [isOpen]
  dsimp only
  rw [phase]

theorem State.cancelIssue_of_pick (phase : x.phase = .unlockWait ∨ x.phase = .pickup) :
    s.cancelIssue i = ((s.cancelPick x).enterWithdrawing i .cancelled, .ok) := by
  unfold State.cancelIssue
  rw [isOpen]
  dsimp only
  rcases phase with phase | phase <;> rw [phase]

theorem State.cancelIssue_of_pending (phase : x.phase = .offerWait) (pending : x.cancelPending = true) :
    s.cancelIssue i = (s, .ok) := by
  unfold State.cancelIssue
  rw [isOpen]
  dsimp only
  rw [phase]
  exact if_pos pending

section
variable {e : Exchange} (phase : x.phase = .offerWait) (pending : x.cancelPending = false)
  (first : (s.cell x.cell).queue.find? (fun e => e.owner == .issue (s.issueId i)) = some e)
include phase pending first

theorem State.cancelIssue_of_inFlight (flies : e.step = .inFlight) : s.cancelIssue i =
    (s.modIssue i fun z => { z with failure := some (z.failure.getD .cancelled), cancelPending := true }, .ok) := by
  unfold State.cancelIssue
  rw [isOpen]
  dsimp only
  rw [phase]
  dsimp only
  rw [pending, State.recall_of_inFlight (s := s.modIssue i (Issue.fail .cancelled)) first flies]
  exact congrArg (·, Status.ok) (State.modIssue_modIssue (Issue.fail .cancelled) (fun z => { z with cancelPending := true }) s)

/-- An offer recalled (R95, R148). -/
theorem State.cancelIssue_of_waiting (waits : e.step ≠ .inFlight) : s.cancelIssue i =
    (if e.acknowledged then
      ((((s.modIssue i (Issue.fail .cancelled)).recalled x.cell (.issue (s.issueId i))).modIssue i fun z =>
        { z with deferrals := e.deferrals, offer := .unknown }).enterWithdrawing i .cancelled, .ok)
    else
      ((((s.modIssue i (Issue.fail .cancelled)).recalled x.cell (.issue (s.issueId i))).modIssue i fun z =>
        { z with deferrals := e.deferrals }).closeFailed i .cancelled .notSent, .ok)) := by
  unfold State.cancelIssue
  rw [isOpen]
  dsimp only
  rw [phase]
  dsimp only
  rw [pending, State.recall_of_waiting (s := s.modIssue i (Issue.fail .cancelled)) first waits]
  cases e.acknowledged with
  | false => rfl
  | true =>
    exact congrArg (fun t => (State.enterWithdrawing i .cancelled t, Status.ok))
      (State.modIssue_modIssue (fun z => { z with deferrals := e.deferrals }) (fun z => { z with offer := .unknown }) _)

end
end

end

end Sys2Proof.Machine
end

section
/-! MOUNTED (R141) and the CANCEL frame (R145). -/

namespace Sys2Proof.Machine

/-! ## The issue that a frame names (R141, R145) -/

section
variable {s : State} {i : IssueNo} {x : Issue}

/-- The open issue of the lowest index that passes a test. -/
theorem State.find?_openIssues {test : Issue → Bool} (isOpen : (s.issueRec i).issue = some x) (holds : test x = true)
    (below : ∀ j < i, ∀ z, (s.issueRec j).issue = some z → test z = false) :
    (s.openIssues.find? fun p => test p.2) = some (i, x) := by
  have first : (indices fun j => (s.issueRec j).issue.any test).head? = some i :=
    head?_indices_eq_some (by rw [isOpen]; exact holds) fun j low => by
      rw [Option.any_eq_false]
      exact fun z is => Bool.not_eq_true _ ▸ below j low z is
  rw [indices, List.head?_filter] at first
  unfold State.openIssues
  rw [List.find?_filterMap]
  have same : (fun j => Option.any (fun p : IssueNo × Issue => test p.2) ((s.issueRec j).issue.map fun x => (j, x))) =
      fun j => (s.issueRec j).issue.any test := by
    funext j
    cases (s.issueRec j).issue <;> rfl
  rw [same, first, Option.bind_some, isOpen]
  rfl

variable {c : CellNo} {t m : Nat}

theorem State.mountedIssue_eq_some (isOpen : (s.issueRec i).issue = some x)
    (named : x.phase = .transit ∧ x.cell = c ∧ x.tool = t ∧ x.slot = m)
    (lowest : ∀ j < i, ∀ z, (s.issueRec j).issue = some z → z.phase = .transit → z.cell = c → z.tool = t → z.slot ≠ m) :
    s.mountedIssue c t m = some i := by
  obtain ⟨phase, cell, tool, slot⟩ := named
  unfold State.mountedIssue
  rw [State.find?_openIssues (test := fun x => x.phase == .transit && x.cell == c && x.tool == t && x.slot == m) isOpen
    (by simp [phase, cell, tool, slot])]
  · rfl
  · intro j low z is
    have other := lowest j low z is
    simpa [and_assoc] using other

theorem State.mountedIssue_eq_none
    (none : ∀ i x, (s.issueRec i).issue = some x → x.phase = .transit → x.cell = c → x.tool = t → x.slot ≠ m) :
    s.mountedIssue c t m = Option.none := by
  unfold State.mountedIssue
  rw [Option.map_eq_none_iff, List.find?_eq_none]
  rintro ⟨i, x⟩ isIn
  have other := none i x (State.mem_openIssues.mp isIn)
  simpa [and_assoc] using other

end

/-! ## MOUNTED (R141) -/

section
variable {s u : State} {f : RxFrame} {x : Tool}

theorem State.takeMounted_of_issue {i : IssueNo} (named : s.mountedIssue f.source (f.field 0 2) (f.field 2 1) = some i) :
    s.takeMounted f = s.closeIssue i .mounted := by
  unfold State.takeMounted
  rw [named]

theorem State.takeMounted_of_none (none : s.mountedIssue f.source (f.field 0 2) (f.field 2 1) = Option.none) :
    s.takeMounted f = s.mountWithoutIssue f.source (f.field 0 2) (f.field 2 1) := by
  unfold State.takeMounted
  rw [none]

variable {c : CellNo} {t m : Nat}

theorem State.mountWithoutIssue_of_some (found : s.findTool t = some x) : s.mountWithoutIssue c t m =
    if x.state = .astray ∧ x.last = some (c, m) then
      (s.modTool t fun y => { y with state := .out, location := .cell c m, issueCount := min 65535 (y.issueCount + 1) }).handReport
        { Report.blank .lateMount with
          cell := c.val + 1, tool := t, detail := .plain (le 1 m ++ le 2 (min 65535 (x.issueCount + 1))) }
    else if x.state = .out ∧ x.location = .cell c m then s
    else s.rejectMount c t m := by
  unfold State.mountWithoutIssue
  rw [found]
  rfl

theorem State.rejectMount_eq {queued : Bool} (denies : s.queueDeny c .tool t .noIssue .issueManager = (u, queued)) :
    s.rejectMount c t m = u.handReport
      { Report.blank .mountRejected with
        cell := c.val + 1, tool := t, code := 0x11, bit1 := queued
        detail := .plain (le 1 m ++ le 1 (((s.findTool t).map (·.state.code)).getD 0xFF)) } := by
  unfold State.rejectMount
  rw [denies]
  rfl

theorem State.mountWithoutIssue_of_rejected
    (other : ∀ x, s.findTool t = some x → ¬ (x.state = .astray ∧ x.last = some (c, m)) ∧
      ¬ (x.state = .out ∧ x.location = .cell c m)) : s.mountWithoutIssue c t m = s.rejectMount c t m := by
  cases found : s.findTool t with
  | none =>
    unfold State.mountWithoutIssue
    rw [found]
  | some x =>
    obtain ⟨notLate, notRepeat⟩ := other x found
    rw [State.mountWithoutIssue_of_some found, if_neg notLate, if_neg notRepeat]

end

/-! ## CANCEL (R145) -/

section
variable {s t u : State} {f : RxFrame} {i : IssueNo} {x : Issue} {reason : Reason} {queued : Bool}

theorem State.denyCancel_eq {c : CellNo} {id : Nat} (denies : s.queueDeny c .issueId id reason .issueManager = (u, queued)) :
    s.denyCancel c id reason = u.handReport
      { Report.blank .requestDenied with
        cell := c.val + 1, issue := id, code := reason.code, bit1 := queued, detail := .plain (le 1 0x18) } := by
  unfold State.denyCancel
  rw [denies]
  rfl

theorem State.takeCancel_of_none
    (none : ∀ i x, s.openIndex (f.field 0 1) = some i → (s.issueRec i).issue = some x → x.cell ≠ f.source) :
    s.takeCancel f = s.denyCancel f.source (f.field 0 1) .noIssue := by
  have own : ((s.openIndex (f.field 0 1)).filter fun i => (s.issueRec i).issue.any fun x => x.cell == f.source) =
      Option.none := by
    rw [Option.filter_eq_none_iff]
    intro i index
    rw [Bool.not_eq_true, Option.any_eq_false]
    exact fun x isOpen => by simpa using none i x index isOpen
  unfold State.takeCancel
  dsimp only
  rw [own]

/-- A CANCEL frame of an issue of its cell, by the answer to the cancel. -/
theorem State.takeCancel_of_own (index : s.openIndex (f.field 0 1) = some i) (isOpen : (s.issueRec i).issue = some x)
    (cell : x.cell = f.source) :
    (s.cancelIssue i = (t, .ok) → s.takeCancel f = t) ∧
    (s.cancelIssue i = (t, .tooLate) → s.takeCancel f = t.denyCancel f.source (f.field 0 1) .tooLate) ∧
    (s.cancelIssue i = (t, .notCancellable) → s.takeCancel f = t.denyCancel f.source (f.field 0 1) .notCancellable) := by
  have own : ((s.openIndex (f.field 0 1)).filter fun i => (s.issueRec i).issue.any fun x => x.cell == f.source) = some i := by
    rw [index, Option.filter_some, if_pos]
    rw [isOpen]
    simpa using cell
  refine ⟨fun answer => ?_, fun answer => ?_, fun answer => ?_⟩ <;>
  · unfold State.takeCancel
    dsimp only
    rw [own]
    dsimp only
    rw [answer]

end

end Sys2Proof.Machine
end

section
/-! The cases of MOUNTED and of the CANCEL frame, put together (R141, R145 to R148). -/

namespace Sys2Proof.Machine

/-! ## MOUNTED (R141) -/

section
variable {s s' : State} {f : RxFrame} {rest : List RxFrame}

/-- A frame handed on, up to the place of a formed result in the write order. -/
theorem State.handOn_settled {kind : Nat} {take : RxFrame → State → State} {t : State} (hands : s.handsOn kind f rest)
    (left : s' = { s with link := { s.link with rx := rest } }) (takes : take f s' = t) :
    s.handOn kind take = .next t.settle := by
  rw [State.handOn_of_handsOn hands, ← left, takes]

theorem State.handOn_alone {kind : Nat} {take : RxFrame → State → State} {t : State} (hands : s.handsOn kind f rest)
    (left : s' = { s with link := { s.link with rx := rest } }) (takes : take f s' = t) (alone : t.order.formedNow = []) :
    s.handOn kind take = .next t := by
  rw [State.handOn_settled hands left takes, State.settle_of_none alone]

/-- A MOUNTED that ends an issue (R141, R143). -/
theorem exec_mounted_of_issue {i : IssueNo} {x : Issue} {y : Tool} (hands : s.handsOn 0x14 f rest)
    (left : s' = { s with link := { s.link with rx := rest } }) (isOpen : (s.issueRec i).issue = some x)
    (named : x.phase = .transit ∧ x.cell = f.source ∧ x.tool = f.field 0 2 ∧ x.slot = f.field 2 1)
    (lowest : ∀ j < i, ∀ z, (s.issueRec j).issue = some z → z.phase = .transit → z.cell = f.source → z.tool = f.field 0 2 →
      z.slot ≠ f.field 2 1)
    (found : s.findTool (f.field 0 2) = some y) (held : y.stateBefore ≠ some .astray) : ∃ u, exec .mounted s = .next u ∧
      (u.issueRec i).issue = none ∧ (u.issueRec i).generation =
        (if i.val = 31 ∧ (s.issueRec i).generation.val = 6 then 0 else (s.issueRec i).generation + 1) ∧
      u.findTool (f.field 0 2) = some
        { y with
          claim := none, stateBefore := none, state := .out, location := .cell f.source (f.field 2 1)
          issueCount := min 65535 (y.issueCount + 1) } ∧
      (∀ ref, x.origin = .cell ref → ∃ w : State, w.findTool (f.field 0 2) = u.findTool (f.field 0 2) ∧
        w = { s' with tools := w.tools } ∧ u = (w.handReport
          (w.issueClosedReport (s.issueId i) { x with closed := some s.clock } ref .mounted)).freeRecord i) ∧
      (∀ n, x.origin = .order n → s.working n (.issue (s.issueId i)) → u.formedStatus n = some .mounted) := by
  have isOpen' : (s'.issueRec i).issue = some x := by rw [left]; exact isOpen
  have takes := State.takeMounted_of_issue (s := s')
    (State.mountedIssue_eq_some isOpen' named fun j low z is => lowest j low z (by rw [← is, left]; rfl))
  have closes := State.closedBy_closeIssue (result := .mounted) isOpen' rfl
  have clock : s'.clock = s.clock := by rw [left]; rfl
  have id : s'.issueId i = s.issueId i := by rw [left]; rfl
  have found' : s'.findTool (f.field 0 2) = some y := by rw [left]; exact found
  obtain ⟨-, cell, tool, slot⟩ := named
  rw [clock] at closes
  generalize s'.closeIssue i .mounted = t at takes closes
  have released := State.findTool_closeRelease (y := { x with closed := some s.clock }) (result := .mounted) tool found'
  rw [closeRelease_mounted held] at released
  have toolNow : t.settle.findTool (f.field 0 2) = some
      { y with
        claim := none, stateBefore := none, state := .out, location := .cell f.source (f.field 2 1)
        issueCount := min 65535 (y.issueCount + 1) } := by
    rw [State.findTool, State.settle_frame _ |>.2.1, closes.tools, ← cell, ← slot]
    exact released
  refine ⟨t.settle, State.handOn_settled hands left takes, closes.issue, ?_, toolNow, fun ref origin => ?_,
    fun n origin works => ?_⟩
  · have generation := closes.generation
    rw [left] at generation
    exact generation
  · obtain ⟨alone, is⟩ := closes.toCell ref origin
    refine ⟨s'.modTool x.tool (closeRelease { x with closed := some s.clock } .mounted), ?_, rfl, ?_⟩
    · rw [toolNow, ← cell, ← slot]
      exact released
    · rw [State.settle_of_none (alone.trans (by rw [left]; exact hands.2.2))]
      rw [id] at is
      exact is
  · obtain ⟨⟨c, context, -, unfinished⟩, -⟩ := works
    exact (closes.toOrder n c origin (by rw [left]; exact context) unfinished).1

theorem exec_mounted {c : CellNo} {t m : Nat} (hands : s.handsOn 0x14 f rest)
    (left : s' = { s with link := { s.link with rx := rest } }) (isCell : c = f.source) (isTool : t = f.field 0 2)
    (isSlot : m = f.field 2 1)
    (none : ∀ i x, (s.issueRec i).issue = some x → x.phase = .transit → x.cell = c → x.tool = t → x.slot ≠ m) :
    (∀ x, s.findTool t = some x → x.state = .astray → x.last = some (c, m) →
      exec .mounted s = .next ((s'.modTool t fun y =>
          { y with state := .out, location := .cell c m, issueCount := min 65535 (y.issueCount + 1) }).handReport
        { Report.blank .lateMount with
          cell := c.val + 1, tool := t
          detail := .plain (le 1 m ++ le 2 (min 65535 (x.issueCount + 1))) })) ∧
    (∀ x, s.findTool t = some x → x.state = .out → x.location = .cell c m → exec .mounted s = .next s') ∧
    ((∀ x, s.findTool t = some x → ¬ (x.state = .astray ∧ x.last = some (c, m)) ∧
        ¬ (x.state = .out ∧ x.location = .cell c m)) →
      ∀ u queued, s'.queueDeny c .tool t .noIssue .issueManager = (u, queued) →
      exec .mounted s = .next (u.handReport
        { Report.blank .mountRejected with
          cell := c.val + 1, tool := t, code := 0x11, bit1 := queued
          detail := .plain (le 1 m ++ le 1 (((s.findTool t).map (·.state.code)).getD 0xFF)) })) := by
  have alone : s'.order.formedNow = [] := by rw [left]; exact hands.2.2
  have tools (t : Nat) : s'.findTool t = s.findTool t := by rw [left]; rfl
  have takes : s'.takeMounted f = s'.mountWithoutIssue c t m := by
    rw [isCell, isTool, isSlot]
    refine State.takeMounted_of_none (State.mountedIssue_eq_none fun i x is => ?_)
    rw [← isCell, ← isTool, ← isSlot]
    exact none i x (by rw [← is, left]; rfl)
  refine ⟨fun x found astray last => ?_, fun x found out place => ?_, fun other u queued denies => ?_⟩
  · rw [State.mountWithoutIssue_of_some ((tools t).trans found), if_pos ⟨astray, last⟩] at takes
    exact State.handOn_alone hands left takes ((State.formedNow_handReport ..).trans alone)
  · rw [State.mountWithoutIssue_of_some ((tools t).trans found), if_neg (by simp [out]), if_pos ⟨out, place⟩] at takes
    exact State.handOn_alone hands left takes alone
  · rw [State.mountWithoutIssue_of_rejected fun x found => other x ((tools t).symm.trans found), State.rejectMount_eq denies,
      tools] at takes
    exact State.handOn_alone hands left takes
      ((State.formedNow_handReport ..).trans ((State.formedNow_of_denied denies).trans alone))

end

end Sys2Proof.Machine
end

section
/-! The outcomes of the cancel of an issue (R145 to R148), and the CANCEL frame. -/

namespace Sys2Proof.Machine

/-! ## The outcomes of a cancel (R147, R148) -/

section
variable {s t : State} {i : IssueNo} {x : Issue} {e : Exchange}

/-- An offer recalled for a cancel: the record marked, its exchange taken out of the queue. -/
def State.offerRecalled (i : IssueNo) (x : Issue) (mark : Issue → Issue) (s : State) : State :=
  ((s.modIssue i (Issue.fail .cancelled)).recalled x.cell (.issue (s.issueId i))).modIssue i mark

theorem State.offerRecalled_eq {mark : Issue → Issue} : s.offerRecalled i x mark =
    { s with issues := (s.offerRecalled i x mark).issues, link := (s.offerRecalled i x mark).link } := by
  unfold State.offerRecalled
  rw [State.recalled_eq]
  rfl

theorem State.issue_offerRecalled {mark : Issue → Issue} (isOpen : (s.issueRec i).issue = some x) :
    ((s.offerRecalled i x mark).issueRec i).issue = some (mark { x with failure := some (x.failure.getD .cancelled) }) := by
  refine State.issue_modIssue mark ?_
  rw [State.issueRec_congr (s := s.modIssue i (Issue.fail .cancelled)) (by rw [State.recalled_eq])]
  exact State.issue_modIssue _ isOpen

theorem State.issueId_offerRecalled {mark : Issue → Issue} : (s.offerRecalled i x mark).issueId i = s.issueId i := by
  refine (State.issueId_modIssue mark).trans ?_
  rw [State.issueId_congr (s := s.modIssue i (Issue.fail .cancelled)) (by rw [State.recalled_eq])]
  exact State.issueId_modIssue _

/-- What the cancel of an offer that was never acknowledged leaves: the issue closed, its exchange gone. -/
structure State.CancelCloses (s : State) (i : IssueNo) (x : Issue) (deferrals : Nat) (t : State) : Prop where
  crib : t.crib = s.crib
  issue : (t.issueRec i).issue = none
  queue : ∀ e' ∈ (t.cell x.cell).queue, e'.owner ≠ .issue (s.issueId i)
  tools : ∀ y, s.findTool x.tool = some y → x.failure.getD .cancelled ≠ .mounted → x.failure.getD .cancelled ≠ .astray →
    y.stateBefore ≠ some .astray → y.meetsReady = true →
    t.findTool x.tool = some { y with claim := none, stateBefore := none, state := .ready }
  toCell : ∀ ref, x.origin = .cell ref → t.order.formedNow = s.order.formedNow ∧
    ∃ w : State, w.clock = s.clock ∧ w.reports = s.reports ∧ w.tools = t.tools ∧
      t = (w.handReport (w.issueClosedReport (s.issueId i)
        { x with
          deferrals := deferrals, withdraw := .notSent, failure := some (x.failure.getD .cancelled)
          closed := some s.clock } ref (x.failure.getD .cancelled))).freeRecord i
  toOrder : ∀ k c, x.origin = .order k → (s.slot k).context = some c → c.output = none →
    t.formedStatus k = some (x.failure.getD .cancelled) ∧ t.reports = s.reports

/-- What the cancel of an issue leaves that withdraws: the record marked, a WITHDRAW queued. -/
structure State.CancelWithdraws (s : State) (i : IssueNo) (x y : Issue) (t : State) : Prop where
  issue : (t.issueRec i).issue = some y
  only : t = { s with crib := t.crib, issues := t.issues, link := t.link }
  queue : ∃ e ∈ (t.cell x.cell).queue, e.payload = .withdraw (s.issueId i) x.tool x.slot ∧ e.owner = .issue (s.issueId i)

section
variable (isOpen : (s.issueRec i).issue = some x) (phase : x.phase = .offerWait) (pending : x.cancelPending = false)
  (first : (s.cell x.cell).queue.find? (fun e => e.owner == .issue (s.issueId i)) = some e) (waits : e.step ≠ .inFlight)
include isOpen phase pending first waits

theorem State.cancelIssue_closes (unseen : e.acknowledged = false) :
    ∃ t, s.cancelIssue i = (t, .ok) ∧ s.CancelCloses i x e.deferrals t := by
  have cancels := State.cancelIssue_of_waiting isOpen phase pending first waits
  rw [unseen] at cancels
  refine ⟨_, cancels, ?_⟩
  have marked := State.issue_offerRecalled (mark := fun z => { z with deferrals := e.deferrals }) isOpen
  have only := State.offerRecalled_eq (s := s) (i := i) (x := x) (mark := fun z => { z with deferrals := e.deferrals })
  have sameId := State.issueId_offerRecalled (s := s) (i := i) (x := x) (mark := fun z => { z with deferrals := e.deferrals })
  have owners := State.owner_recalled (s := s.modIssue i (Issue.fail .cancelled)) (c := x.cell) (owner := .issue (s.issueId i))
  change State.CancelCloses s i x e.deferrals
    ((s.offerRecalled i x fun z => { z with deferrals := e.deferrals }).closeFailed i .cancelled .notSent)
  have queue : ((s.offerRecalled i x fun z => { z with deferrals := e.deferrals }).cell x.cell) =
    (((s.modIssue i (Issue.fail .cancelled)).recalled x.cell (.issue (s.issueId i))).cell x.cell) := rfl
  generalize s.offerRecalled i x (fun z => { z with deferrals := e.deferrals }) = m at marked only sameId queue
  have closes := State.closedBy_closeFailed (st := .cancelled) (w := .notSent) marked
  have clock : m.clock = s.clock := by rw [only]; rfl
  generalize m.closeFailed i .cancelled .notSent = t at closes
  rw [clock] at closes
  refine ⟨?_, closes.issue, fun e' stands => ?_, fun y found notMounted notAstray held ready => ?_, fun ref origin => ?_,
    fun k c origin context unfinished => ?_⟩
  · rw [closes.crib, only]
    rfl
  · refine owners e' ?_
    rw [← queue]
    rw [State.cell, closes.cells] at stands
    exact stands
  · have released := State.findTool_closeRelease (s := m.modIssue i fun z =>
      { z with withdraw := .notSent, failure := some ((some (x.failure.getD .cancelled)).getD .cancelled) })
      (y := Issue.closing .cancelled .notSent s.clock { x with failure := some (x.failure.getD .cancelled), deferrals := e.deferrals })
      (result := x.failure.getD .cancelled) (tool := y) rfl (by rw [only]; exact found)
    rw [closeRelease_of_failed notMounted notAstray held ready] at released
    rw [State.findTool, closes.tools]
    exact released
  · obtain ⟨alone, is⟩ := closes.toCell ref origin
    refine ⟨alone.trans (by rw [only]; rfl), _, ?_, ?_, closes.tools.symm, ?_⟩
    rotate_left 2
    · rw [State.issueId_modIssue, sameId] at is
      exact is
    · exact clock
    · rw [only]
      rfl
  · obtain ⟨status, reports⟩ := closes.toOrder k c origin (by rw [only]; exact context) unfinished
    exact ⟨status, reports.trans (by rw [only]; rfl)⟩

theorem State.cancelIssue_withdraws (seen : e.acknowledged = true) (room : (s.cell x.cell).queue.length ≤ 16)
    (standing : (s.cell x.cell).standing ≠ .cutOff) : ∃ t, s.cancelIssue i = (t, .ok) ∧ t.crib = s.crib ∧
      s.CancelWithdraws i x
        { x with
          deferrals := e.deferrals, offer := .unknown, phase := .withdrawing, request := none
          failure := some (x.failure.getD .cancelled) } t := by
  have cancels := State.cancelIssue_of_waiting isOpen phase pending first waits
  rw [seen] at cancels
  refine ⟨_, cancels, ?_⟩
  have marked := State.issue_offerRecalled (mark := fun z => { z with deferrals := e.deferrals, offer := .unknown }) isOpen
  have only := State.offerRecalled_eq (s := s) (i := i) (x := x)
    (mark := fun z => { z with deferrals := e.deferrals, offer := .unknown })
  have sameId := State.issueId_offerRecalled (s := s) (i := i) (x := x)
    (mark := fun z => { z with deferrals := e.deferrals, offer := .unknown })
  have shorter := State.length_recalled (s := s.modIssue i (Issue.fail .cancelled)) first
  have stays := State.standing_recalled (s := s.modIssue i (Issue.fail .cancelled)) (c := x.cell)
    (owner := .issue (s.issueId i)) x.cell
  change ((s.offerRecalled i x fun z => { z with deferrals := e.deferrals, offer := .unknown }).enterWithdrawing i .cancelled).crib
      = s.crib ∧ State.CancelWithdraws s i x _
    ((s.offerRecalled i x fun z => { z with deferrals := e.deferrals, offer := .unknown }).enterWithdrawing i .cancelled)
  have queue : ((s.offerRecalled i x fun z => { z with deferrals := e.deferrals, offer := .unknown }).cell x.cell) =
    (((s.modIssue i (Issue.fail .cancelled)).recalled x.cell (.issue (s.issueId i))).cell x.cell) := rfl
  generalize s.offerRecalled i x (fun z => { z with deferrals := e.deferrals, offer := .unknown }) = m at marked only sameId queue ⊢
  rw [← queue] at shorter stays
  have withdraws := State.withdrawnBy_enterWithdrawing (st := .cancelled) marked (Nat.lt_of_lt_of_le shorter room)
    (fun cut => standing (stays.symm.trans cut))
  generalize m.enterWithdrawing i .cancelled = t at withdraws ⊢
  have changed := withdraws.only
  rw [only] at changed
  refine ⟨by rw [changed], withdraws.issue, ?_, ?_⟩
  · rw [changed]
  · have stands := withdraws.queue
    rw [sameId] at stands
    exact stands

end

/-- The cancel of an issue with an unlock request (R148). -/
theorem State.cancelIssue_stops {num : Nat} {r : Request} (isOpen : (s.issueRec i).issue = some x)
    (phase : x.phase = .unlockWait ∨ x.phase = .pickup) (request : x.request = some num) (found : s.findRequest num = some r)
    (live : r.state = .queued ∨ r.state = .opening ∨ r.state = .opened) : ∃ t, s.cancelIssue i = (t, .ok) ∧
      s.StoppedBy r t ∧
      ((s.cell x.cell).queue.length < 16 → (s.cell x.cell).standing ≠ .cutOff →
        s.CancelWithdraws i x (x.withdrawing .cancelled) t) ∧
      (16 ≤ (s.cell x.cell).queue.length ∨ (s.cell x.cell).standing = .cutOff →
        (t.issueRec i).issue = none ∧ t.link.cells = s.link.cells) := by
  obtain ⟨v, cancelled, stops, only⟩ := State.cancelRequest_of_live found live
  have cancels := State.cancelIssue_of_pick isOpen phase
  have picks : s.cancelPick x = v := by
    unfold State.cancelPick
    rw [request]
    exact congrArg Prod.fst cancelled
  rw [picks] at cancels
  have isOpen' : (v.issueRec i).issue = some x := by rw [only]; exact isOpen
  have cell : v.cell x.cell = s.cell x.cell := by rw [only]; rfl
  have crib : (v.enterWithdrawing i .cancelled).crib = v.crib := by simp
  have sameId : v.issueId i = s.issueId i := by rw [only]; rfl
  refine ⟨_, cancels, stops.congr crib, fun room standing => ?_, fun refused => ?_⟩
  · have withdraws := State.withdrawnBy_enterWithdrawing (st := .cancelled) isOpen' (cell ▸ room) (cell ▸ standing)
    generalize v.enterWithdrawing i .cancelled = t at withdraws ⊢
    have changed := withdraws.only
    rw [only] at changed
    refine ⟨withdraws.issue, ?_, sameId ▸ withdraws.queue⟩
    rw [changed]
  · rw [State.enterWithdrawing_of_refused isOpen' (cell ▸ refused)]
    have closes := State.closedBy_closeFailed (st := .cancelled) (w := .unconfirmed)
      (State.issue_modIssue (fun z => { z.fail .cancelled with phase := .withdrawing, request := none }) isOpen')
    exact ⟨closes.issue, closes.cells.trans (by rw [only]; rfl)⟩

end

/-! ## The CANCEL frame (R145) -/

section
variable {s s' : State} {f : RxFrame} {rest : List RxFrame} {c : CellNo} {id : Nat}

theorem exec_cancelFrame_denied (hands : s.handsOn 0x18 f rest) (left : s' = { s with link := { s.link with rx := rest } })
    (isCell : c = f.source) (isId : id = f.field 0 1) (reason : Reason) (u : State) (queued : Bool)
    (why : (reason = .noIssue ∧ ∀ i x, s.openIndex id = some i → (s.issueRec i).issue = some x → x.cell ≠ c) ∨
      (reason = .tooLate ∧ ∃ i x, s.openIndex id = some i ∧ (s.issueRec i).issue = some x ∧ x.cell = c ∧
        x.phase = .transit) ∨
      (reason = .notCancellable ∧ ∃ i x, s.openIndex id = some i ∧ (s.issueRec i).issue = some x ∧ x.cell = c ∧
        x.phase = .withdrawing))
    (denies : s'.queueDeny c .issueId id reason .issueManager = (u, queued)) :
    exec .cancelFrame s = .next (u.handReport
      { Report.blank .requestDenied with
        cell := c.val + 1, issue := id, code := reason.code, bit1 := queued, detail := .plain (le 1 0x18) }) := by
  have takes : s'.takeCancel f = s'.denyCancel f.source (f.field 0 1) reason := by
    subst isCell isId
    rcases why with ⟨rfl, none⟩ | ⟨rfl, i, x, index, isOpen, cell, phase⟩ | ⟨rfl, i, x, index, isOpen, cell, phase⟩
    · exact State.takeCancel_of_none fun i x index isOpen =>
        none i x (by rw [← index, left]; rfl) (by rw [← isOpen, left]; rfl)
    all_goals
      have index' : s'.openIndex (f.field 0 1) = some i := by rw [left]; exact index
      have isOpen' : (s'.issueRec i).issue = some x := by rw [left]; exact isOpen
    · exact (State.takeCancel_of_own index' isOpen' cell).2.1 (State.cancelIssue_of_transit isOpen' phase)
    · exact (State.takeCancel_of_own index' isOpen' cell).2.2 (State.cancelIssue_of_withdrawing isOpen' phase)
  rw [← isCell, ← isId, State.denyCancel_eq denies] at takes
  refine State.handOn_alone hands left takes
    ((State.formedNow_handReport ..).trans ((State.formedNow_of_denied denies).trans ?_))
  rw [left]
  exact hands.2.2

variable {i : IssueNo} {x : Issue}

theorem exec_cancelFrame_own {t : State} (hands : s.handsOn 0x18 f rest)
    (left : s' = { s with link := { s.link with rx := rest } }) (index : s'.openIndex (f.field 0 1) = some i)
    (isOpen : (s'.issueRec i).issue = some x) (cell : x.cell = f.source) (cancels : s'.cancelIssue i = (t, .ok)) :
    exec .cancelFrame s = .next t.settle :=
  State.handOn_settled hands left ((State.takeCancel_of_own index isOpen cell).1 cancels)

end

end Sys2Proof.Machine
end

section
/-! MOUNTED and the CANCEL frame, put together (R141, R145). -/

namespace Sys2Proof.Machine

theorem State.modIssue_congr {s : State} {i : IssueNo} {x : Issue} {f g : Issue → Issue} (isOpen : (s.issueRec i).issue = some x)
    (same : f x = g x) : s.modIssue i f = s.modIssue i g := by
  have changed : (s.issueRec i).issue.map f = (s.issueRec i).issue.map g := by
    rw [isOpen, Option.map_some, Option.map_some, same]
  unfold State.modIssue State.modIssues
  exact congrArg (fun issue => { s with issues := { s.issues with
    records := s.issues.records.set i.1 { s.issueRec i with issue := issue } i.2 } }) changed

section
variable {s s' : State} {f : RxFrame} {rest : List RxFrame} {i : IssueNo} {x : Issue} {id : Nat} {result : Status}

/-- The cancel of an issue in OFFER_WAIT (R147, R148). -/
theorem exec_cancelFrame_offer (hands : s.handsOn 0x18 f rest) (left : s' = { s with link := { s.link with rx := rest } })
    (isId : id = f.field 0 1) (index : s.openIndex id = some i) (isOpen : (s.issueRec i).issue = some x)
    (cell : x.cell = f.source) (isResult : result = x.failure.getD .cancelled) (e : Exchange) (phase : x.phase = .offerWait)
    (pending : x.cancelPending = false)
    (first : (s.cell x.cell).queue.find? (fun e => e.owner == .issue id) = some e) :
    (e.step = .inFlight → exec .cancelFrame s = .next (s'.modIssue i fun x =>
      { x with failure := some result, cancelPending := true })) ∧
    (e.step ≠ .inFlight → e.acknowledged = false → ∃ t, exec .cancelFrame s = .next t ∧ t.crib = s.crib ∧
      (t.issueRec i).issue = none ∧ (∀ e' ∈ (t.cell x.cell).queue, e'.owner ≠ .issue id) ∧
      (∀ y, s.findTool x.tool = some y → result ≠ .mounted → result ≠ .astray →
        y.stateBefore ≠ some .astray → y.meetsReady = true →
        t.findTool x.tool = some { y with claim := none, stateBefore := none, state := .ready }) ∧
      (∀ ref, x.origin = .cell ref → ∃ w : State, w.clock = s.clock ∧ w.reports = s.reports ∧ w.tools = t.tools ∧
        t = (w.handReport (w.issueClosedReport id
          { x with
            deferrals := e.deferrals, withdraw := .notSent, failure := some result
            closed := some s.clock } ref result)).freeRecord i) ∧
      (∀ k, x.origin = .order k → s.working k (.issue id) →
        t.formedStatus k = some result ∧ t.reports = s.reports)) ∧
    (e.step ≠ .inFlight → e.acknowledged = true → (s.cell x.cell).queue.length ≤ 16 → (s.cell x.cell).standing ≠ .cutOff →
      ∃ t, exec .cancelFrame s = .next t ∧ t.crib = s.crib ∧ (t.tools = s.tools ∧ t.reports = s.reports ∧ t.order = s.order ∧
          ∃ e ∈ (t.cell x.cell).queue, e.payload = .withdraw id x.tool x.slot ∧ e.owner = .issue id) ∧
        (t.issueRec i).issue = some
          { x with
            phase := .withdrawing, request := none, failure := some result, deferrals := e.deferrals, offer := .unknown }) := by
  subst isResult
  obtain ⟨isIssue, -⟩ := State.of_openIndex index
  have alone : s'.order.formedNow = [] := by rw [left]; exact hands.2.2
  have index' : s'.openIndex (f.field 0 1) = some i := by rw [← isId, left]; exact index
  have isOpen' : (s'.issueRec i).issue = some x := by rw [left]; exact isOpen
  have sameId : s'.issueId i = id := by rw [← isIssue, left]; rfl
  have first' : (s'.cell x.cell).queue.find? (fun e => e.owner == .issue (s'.issueId i)) = some e := by
    rw [sameId, left]
    exact first
  have own {t : State} (cancels : s'.cancelIssue i = (t, .ok)) := exec_cancelFrame_own hands left index' isOpen' cell cancels
  refine ⟨fun flies => ?_, fun waits unseen => ?_, fun waits seen room standing => ?_⟩
  · have done := own (State.cancelIssue_of_inFlight isOpen' phase pending first' flies)
    rw [State.settle_of_none (s := State.modIssue ..) alone, State.modIssue_congr isOpen' (g := fun z =>
      { z with failure := some (x.failure.getD .cancelled), cancelPending := true }) rfl] at done
    exact done
  · obtain ⟨t, cancels, closes⟩ := State.cancelIssue_closes isOpen' phase pending first' waits unseen
    obtain ⟨crib, issue, queue, tools, toCell, toOrder⟩ := closes
    rw [sameId] at queue toCell
    refine ⟨t.settle, own cancels, crib.trans (by rw [left]), issue, queue, fun y found => ?_, fun ref origin => ?_,
      fun k origin works => ?_⟩
    · exact tools y (by rw [left]; exact found)
    · obtain ⟨unformed, w, clock, reports, sameTools, is⟩ := toCell ref origin
      have clock' : s'.clock = s.clock := by rw [left]; rfl
      rw [State.settle_of_none (unformed.trans alone)]
      rw [clock'] at clock is
      exact ⟨w, clock, reports.trans (by rw [left]), sameTools, is⟩
    · obtain ⟨⟨c, context, -, unfinished⟩, -⟩ := works
      obtain ⟨status, reports⟩ := toOrder k c origin (by rw [left]; exact context) unfinished
      exact ⟨status, reports.trans (by rw [left])⟩
  · obtain ⟨t, cancels, crib, withdraws⟩ := State.cancelIssue_withdraws isOpen' phase pending first' waits seen
      (by rw [left]; exact room) (by rw [left]; exact standing)
    obtain ⟨issue, only, queue⟩ := withdraws
    have order : t.order = s.order := by rw [only, left]
    have done := own cancels
    rw [State.settle_of_none (by rw [order]; exact hands.2.2)] at done
    rw [sameId] at queue
    exact ⟨t, done, crib.trans (by rw [left]), ⟨by rw [only, left], by rw [only, left], order, queue⟩, issue⟩

/-- The cancel of an issue with an unlock request (R148). -/
theorem exec_cancelFrame_pick (hands : s.handsOn 0x18 f rest) (left : s' = { s with link := { s.link with rx := rest } })
    (isId : id = f.field 0 1) (index : s.openIndex id = some i) (isOpen : (s.issueRec i).issue = some x)
    (cell : x.cell = f.source) (isResult : result = x.failure.getD .cancelled) (num : Nat) (r : Request)
    (phase : x.phase = .unlockWait ∨ x.phase = .pickup) (request : x.request = some num)
    (found : s.findRequest num = some r) (live : r.state = .queued ∨ r.state = .opening ∨ r.state = .opened) :
    ∃ t, exec .cancelFrame s = .next t ∧ s.StoppedBy r t ∧
      ((s.cell x.cell).queue.length < 16 → (s.cell x.cell).standing ≠ .cutOff →
        (t.issueRec i).issue = some { x with phase := .withdrawing, request := none, failure := some result } ∧
        (t.tools = s.tools ∧ t.reports = s.reports ∧ t.order = s.order ∧
          ∃ e ∈ (t.cell x.cell).queue, e.payload = .withdraw id x.tool x.slot ∧ e.owner = .issue id)) ∧
      (16 ≤ (s.cell x.cell).queue.length ∨ (s.cell x.cell).standing = .cutOff →
        (t.issueRec i).issue = none ∧ t.link.cells = s.link.cells) := by
  subst isResult
  obtain ⟨isIssue, -⟩ := State.of_openIndex index
  have index' : s'.openIndex (f.field 0 1) = some i := by rw [← isId, left]; exact index
  have isOpen' : (s'.issueRec i).issue = some x := by rw [left]; exact isOpen
  have sameId : s'.issueId i = id := by rw [← isIssue, left]; rfl
  obtain ⟨t, cancels, stops, withdraws, refused⟩ := State.cancelIssue_stops isOpen' phase request
    (show s'.findRequest num = some r by rw [left]; exact found) live
  have stops' : s.StoppedBy r t := by
    rw [left] at stops
    exact ⟨stops.queued, stops.opened⟩
  have sameCell : s'.cell x.cell = s.cell x.cell := by rw [left]; rfl
  have cells : s'.link.cells = s.link.cells := by rw [left]
  rw [sameCell] at withdraws refused
  refine ⟨t.settle, exec_cancelFrame_own hands left index' isOpen' cell cancels, stops'.congr rfl,
    fun room standing => ?_, fun full => ?_⟩
  · obtain ⟨issue, only, queue⟩ := withdraws room standing
    have order : t.order = s.order := by rw [only, left]
    rw [State.settle_of_none (by rw [order]; exact hands.2.2)]
    rw [sameId] at queue
    exact ⟨issue, by rw [only, left], by rw [only, left], order, queue⟩
  · obtain ⟨issue, sameCells⟩ := refused full
    exact ⟨issue, sameCells.trans cells⟩

end

/-- Settles O49: MOUNTED by the issue in TRANSIT, the late mount, the repeat and the rejection; CANCEL by the phase of its issue. -/
theorem mountedAndCancelFrame : Obligations.MountedAndCancelFrame := by
  unfold Obligations.MountedAndCancelFrame
  refine fun f rest s s' left => ⟨fun hands c t m isCell isTool isSlot => ⟨?_, exec_mounted hands left isCell isTool isSlot⟩,
    fun hands c id isCell isId => ⟨exec_cancelFrame_denied hands left isCell isId, ?_⟩⟩
  · subst isCell isTool isSlot
    exact fun i x y isOpen phase cell tool slot lowest found held =>
      exec_mounted_of_issue hands left isOpen ⟨phase, cell, tool, slot⟩ lowest found held
  · intro i x index isOpen cell result withdrawing withdraws isResult isWithdrawing isWithdraws
    subst cell
    refine ⟨fun phase pending => ?_, fun e phase pending first => ?_, fun num r phase request found live => ?_⟩
    · have isOpen' : (s'.issueRec i).issue = some x := by rw [left]; exact isOpen
      have done := exec_cancelFrame_own hands left (by rw [← isId, left]; exact index) isOpen' isCell
        (State.cancelIssue_of_pending isOpen' phase pending)
      rw [State.settle_of_none (by rw [left]; exact hands.2.2)] at done
      exact done
    · simp only [isWithdraws, isWithdrawing]
      exact exec_cancelFrame_offer hands left isId index isOpen isCell isResult e phase pending first
    · simp only [isWithdraws, isWithdrawing]
      obtain ⟨t, done, stops, rest⟩ :=
        exec_cancelFrame_pick hands left isId index isOpen isCell isResult num r phase request found live
      exact ⟨t, done, stops.queued, stops.opened, rest⟩

end Sys2Proof.Machine
end

section
/-! What a matched answer leaves of the link (R93, R97 to R99, R113 to R115). -/

namespace Sys2Proof.Machine

/-! ## What the link's own operations keep -/

/-- What the link's operations leave of the rest of the part. -/
structure State.LinkOnly (s v : State) : Prop where
  tools : v.tools = s.tools
  crib : v.crib = s.crib
  issues : v.issues = s.issues
  slots : v.order.slots = s.order.slots
  formedNow : v.order.formedNow = s.order.formedNow
  clock : v.clock = s.clock

section
variable {s u v : State}

theorem State.LinkOnly.refl (s : State) : s.LinkOnly s := ⟨rfl, rfl, rfl, rfl, rfl, rfl⟩

theorem State.LinkOnly.trans (first : s.LinkOnly u) (second : u.LinkOnly v) : s.LinkOnly v :=
  ⟨second.tools.trans first.tools, second.crib.trans first.crib, second.issues.trans first.issues,
    second.slots.trans first.slots, second.formedNow.trans first.formedNow, second.clock.trans first.clock⟩

theorem State.LinkOnly.of_link (only : v = { s with link := v.link }) : s.LinkOnly v := by
  rw [only]
  exact ⟨rfl, rfl, rfl, rfl, rfl, rfl⟩

theorem State.LinkOnly.handReport (r : Report) (s : State) : s.LinkOnly (s.handReport r) := by
  obtain ⟨-, tools, crib, -, issues, -, -, -, clock, -⟩ := s.handReport_frame r
  exact ⟨tools, crib, issues, s.slots_handReport r, s.formedNow_handReport r, clock⟩

theorem State.LinkOnly.issueRec (only : s.LinkOnly v) (i : IssueNo) : v.issueRec i = s.issueRec i :=
  State.issueRec_congr only.issues

theorem State.LinkOnly.openIndex (only : s.LinkOnly v) (id : Nat) : v.openIndex id = s.openIndex id := by
  unfold State.openIndex
  simp only [only.issueRec]

theorem State.LinkOnly.slot (only : s.LinkOnly v) (n : SlotNo) : v.slot n = s.slot n := by
  rw [State.slot, only.slots]
  rfl

theorem State.LinkOnly.working {n : SlotNo} {w : Work} (only : s.LinkOnly v) (works : s.working n w) : v.working n w := by
  obtain ⟨held, alone⟩ := works
  exact ⟨by rw [only.slot]; exact held, only.formedNow.trans alone⟩

end

/-! ## The fault count (R113, R115) -/

section
variable {s : State} {c : CellNo}

theorem State.cell_handReport (r : Report) (s : State) (d : CellNo) : (s.handReport r).cell d = s.cell d := by
  rw [State.cell, State.cells_handReport]
  rfl

/-- A cell whose fault count is stored, and its standing by it (R113, R115). -/
def Cell.counted (count : Nat) (x : Cell) : Cell :=
  { x with
    faultCount := count, standing := standingFor x.standing count
    answers := if standingFor x.standing count ≠ x.standing ∧ standingFor x.standing count = .cutOff then 0 else x.answers }

theorem State.setCount_eq (count : Nat) (cause : StandingCause) : s.setCount c count cause =
    if standingFor (s.cell c).standing count = (s.cell c).standing then s.modCell c (Cell.counted count)
    else (s.modCell c (Cell.counted count)).handReport
      ((s.modCell c (Cell.counted count)).standingReport c (s.cell c).standing cause) := by
  have counted : (s.modCell c fun x => { x with
      faultCount := count, standing := standingFor (s.cell c).standing count
      answers := if standingFor (s.cell c).standing count ≠ (s.cell c).standing ∧
        standingFor (s.cell c).standing count = .cutOff then 0 else x.answers }) = s.modCell c (Cell.counted count) := rfl
  unfold State.setCount
  dsimp only
  rw [counted]

theorem State.cell_setCount (count : Nat) (cause : StandingCause) :
    (s.setCount c count cause).cell c = (s.cell c).counted count := by
  have stored : (s.modCell c (Cell.counted count)).cell c = (s.cell c).counted count := by
    rw [State.cell_modCell, if_pos rfl]
  rw [State.setCount_eq]
  split
  · exact stored
  · rw [State.cell_handReport, stored]

theorem State.setCount_linkOnly (count : Nat) (cause : StandingCause) : s.LinkOnly (s.setCount c count cause) := by
  rw [State.setCount_eq]
  split
  · exact .of_link rfl
  · exact .trans (.of_link rfl) (.handReport _ _)

/-- A cell after a counted success (R113). -/
def Cell.succeeded (x : Cell) : Cell := if x.standing = .cutOff then x else x.counted (x.faultCount - 1)

theorem State.cell_countSuccess : (s.countSuccess c).cell c = (s.cell c).succeeded := by
  unfold State.countSuccess Cell.succeeded
  dsimp only
  split
  · rfl
  · exact State.cell_setCount ..

theorem State.countSuccess_linkOnly : s.LinkOnly (s.countSuccess c) := by
  unfold State.countSuccess
  dsimp only
  split
  · exact .refl s
  · exact State.setCount_linkOnly ..

theorem Cell.faultCount_succeeded (x : Cell) :
    x.succeeded.faultCount = if x.standing = .cutOff then x.faultCount else x.faultCount - 1 := by
  unfold Cell.succeeded
  split <;> rfl

theorem Cell.queue_succeeded (x : Cell) : x.succeeded.queue = x.queue := by
  unfold Cell.succeeded
  split <;> rfl

theorem standingFor_ne_cutOff {st : Standing} {count : Nat} (standing : st ≠ .cutOff) (low : count < 256) :
    standingFor st count ≠ .cutOff := by
  unfold standingFor
  cases st with
  | cutOff => exact absurd rfl standing
  | _ => dsimp only; rw [if_neg (Nat.not_le.mpr low)]; split <;> decide

theorem Cell.standing_succeeded {x : Cell} (standing : x.standing ≠ .cutOff) (low : x.faultCount ≤ 256) :
    x.succeeded.standing ≠ .cutOff := by
  unfold Cell.succeeded
  rw [if_neg standing]
  exact standingFor_ne_cutOff standing (by omega)

end

/-! ## The exchange in flight (R93, R97) -/

section
variable {s : State} {c : CellNo} {e : Exchange}

theorem Cell.inFlight_modInFlight {x : Cell} {f : Exchange → Exchange} (flies : x.inFlight = some e)
    (stays : ∀ d, d.step = .inFlight → (f d).step = .inFlight) : (x.modInFlight f).inFlight = some (f e) := by
  unfold Cell.inFlight Cell.modInFlight at *
  dsimp only
  rw [List.find?_map]
  have same : ((fun d : Exchange => d.step == .inFlight) ∘ fun d : Exchange => if d.step = .inFlight then f d else d) =
      fun d => d.step == .inFlight := by
    funext d
    simp only [Function.comp_apply]
    split
    · rename_i here
      rw [here, stays d here]
    · rfl
  have isFlying : e.step = .inFlight := by simpa using List.find?_some flies
  rw [same, flies, Option.map_some, if_pos isFlying]

/-- The state that a matched answer leaves: the success counted, the exchange out of the queue, its buffer granted anew. -/
def State.afterAnswer (c : CellNo) (s : State) : State :=
  State.removeInFlight c
    ((s.modCell c (Cell.modInFlight fun e => { e with acknowledged := true, window := none })).countSuccess c)

theorem State.answerEnds_eq (flies : (s.cell c).inFlight = some e) (outcome : ExchangeOutcome) :
    s.answerEnds c outcome = (s.afterAnswer c, [.ended c { e with acknowledged := true, window := none } outcome]) := by
  have marked : (((s.modCell c (Cell.modInFlight fun e => { e with acknowledged := true, window := none })).countSuccess
      c).cell c).inFlight = some { e with acknowledged := true, window := none } := by
    rw [State.cell_countSuccess, Cell.inFlight, Cell.queue_succeeded, State.cell_modCell, if_pos rfl]
    exact Cell.inFlight_modInFlight flies fun d step => step
  unfold State.answerEnds State.endInFlight
  rw [marked]
  rfl

theorem State.removeInFlight_linkOnly : s.LinkOnly (s.removeInFlight c) := .of_link (State.grantBuffers_eq _)

theorem State.cell_detachAttempt (d : CellNo) : (s.detachAttempt c).cell d = s.cell d := rfl

theorem State.cell_removeInFlight : (s.removeInFlight c).cell c =
    { s.cell c with
      queue := ((s.removeInFlight c).cell c).queue, lastGrant := ((s.removeInFlight c).cell c).lastGrant } := by
  refine (State.cell_grantBuffers _ c).trans ?_
  rw [State.cell_detachAttempt, State.cell_modCell, if_pos rfl]
  rfl

theorem State.length_removeInFlight : ((s.removeInFlight c).cell c).queue.length =
    ((s.cell c).queue.filter fun e => e.step != .inFlight).length := by
  have queue := congrArg List.length (State.queue_grantBuffers (g := fun _ => ()) (fun _ _ => rfl)
    ((s.modCell c Cell.dropInFlight).detachAttempt c) c)
  rw [State.cell_detachAttempt, State.cell_modCell, if_pos rfl, List.length_map, List.length_map] at queue
  exact queue

/-- The exchanges not in flight are as many after a change of the one in flight. -/
theorem length_filter_modInFlight {f : Exchange → Exchange} (stays : ∀ d, d.step = .inFlight → (f d).step = .inFlight)
    (x : Cell) : ((x.modInFlight f).queue.filter fun e => e.step != .inFlight).length =
      (x.queue.filter fun e => e.step != .inFlight).length := by
  unfold Cell.modInFlight
  rw [List.filter_map, List.length_map]
  refine congrArg (fun p => (x.queue.filter p).length) (funext fun d => ?_)
  simp only [Function.comp_apply]
  split
  · rename_i here
    rw [here, stays d here]
  · rfl

theorem State.afterAnswer_linkOnly : s.LinkOnly (s.afterAnswer c) :=
  .trans (.trans (.of_link rfl) State.countSuccess_linkOnly) State.removeInFlight_linkOnly

theorem State.cell_afterAnswer : (s.afterAnswer c).cell c =
    { (s.cell c).succeeded with
      queue := ((s.afterAnswer c).cell c).queue, lastGrant := ((s.afterAnswer c).cell c).lastGrant } := by
  refine State.cell_removeInFlight.trans ?_
  rw [State.cell_countSuccess, State.cell_modCell, if_pos rfl]
  unfold Cell.succeeded
  split <;> rename_i standing
  · rw [if_pos (show (s.cell c).standing = .cutOff from standing)]
    rfl
  · rw [if_neg (show ¬ (s.cell c).standing = .cutOff from standing)]
    rfl

theorem State.length_afterAnswer : ((s.afterAnswer c).cell c).queue.length =
    ((s.cell c).queue.filter fun e => e.step != .inFlight).length := by
  refine State.length_removeInFlight.trans ?_
  rw [State.cell_countSuccess, Cell.queue_succeeded, State.cell_modCell, if_pos rfl]
  exact length_filter_modInFlight (by exact fun _ step => step) _

theorem length_filter_lt_of_inFlight {x : Cell} (flies : x.inFlight = some e) :
    (x.queue.filter fun e => e.step != .inFlight).length < x.queue.length := by
  have isFlying : e.step = .inFlight := by simpa using List.find?_some flies
  refine List.length_filter_lt_length_iff_exists.mpr ⟨e, List.mem_of_find?_eq_some flies, ?_⟩
  simp [isFlying]

end

end Sys2Proof.Machine
end

section
/-! The outcome of an offer and of a withdraw (R134 to R136, R142, R160), for a matched answer. -/

namespace Sys2Proof.Machine

section
variable {s : State} {i : IssueNo} {x : Issue} {e : Exchange} {answer : List Byte}

/-- The record of an issue whose offer ended. -/
def Exchange.ends (e : Exchange) (x : Issue) : Issue := { x with tries := e.triesUsed, deferrals := e.deferrals }

/-- The record of an issue whose offer was taken. -/
def Exchange.takes (e : Exchange) (x : Issue) : Issue :=
  { x with tries := e.triesUsed, deferrals := e.deferrals, offer := .taken }

theorem State.offerEnded_taken (isOpen : (s.issueRec i).issue = some x) : s.offerEnded i e (.answered answer) =
    if x.cancelPending then (s.modIssue i e.takes).enterWithdrawing i .cancelled else (s.modIssue i e.takes).makePick i := by
  have marked : (s.modIssue i e.ends).modIssue i (fun x => { x with offer := .taken }) = s.modIssue i e.takes :=
    State.modIssue_modIssue ..
  have pending : ((s.issueRec i).issue.map (·.cancelPending)).getD false = x.cancelPending := by rw [isOpen]; rfl
  unfold State.offerEnded
  dsimp only
  rw [pending, ← marked]
  rfl

theorem State.offerEnded_refused (reason : RefusalReason) : s.offerEnded i e (.refused reason answer) =
    (s.modIssue i e.ends).closeFailed i .refused .notSent := rfl

theorem State.makePick_of_made {num : Nat} {p : PocketNo} {u : State} (isOpen : (s.issueRec i).issue = some x)
    (made : s.requestRemoval .issuePick x.pocket (.issue (s.issueId i)) = (u, .made num p)) :
    s.makePick i = u.modIssue i fun x => { x with request := some num, phase := .unlockWait } := by
  unfold State.makePick
  rw [isOpen]
  dsimp only
  rw [made]

theorem State.makePick_of_denied {st : Status} {u : State} (isOpen : (s.issueRec i).issue = some x)
    (denied : s.requestRemoval .issuePick x.pocket (.issue (s.issueId i)) = (u, .denied st)) :
    s.makePick i = s.enterWithdrawing i (pickFailure st) := by
  have same := State.eq_of_requestRemoval_denied denied
  subst same
  unfold State.makePick
  rw [isOpen]
  dsimp only
  rw [denied]

/-- A refused ISSUE_PICK, by its reason (R136). -/
theorem State.requestRemoval_of_failure {p : PocketNo} {owner : Owner} {why : Status}
    (fails : ((s.attributeOf p).permits .issuePick = false ∧ why = .drawerClosed) ∨
      ((s.attributeOf p).permits .issuePick = true ∧ why = .notStocked ∧
        ((s.pocket p).claim.isSome = true ∨ (s.pocket p).stocked = false)) ∨
      ((s.attributeOf p).permits .issuePick = true ∧ (s.pocket p).claim = none ∧ (s.pocket p).stocked = true ∧
        s.crib.lockBudget ≤ s.budgetCount ∧ 16 ≤ s.queuedCount ∧ why = .cribBusy)) :
    ∃ st, s.requestRemoval .issuePick p owner = (s, .denied st) ∧ pickFailure st = why := by
  rcases fails with ⟨denied, rfl⟩ | ⟨permits, rfl, bare⟩ | ⟨permits, free, stocked, budget, queue, rfl⟩
  · exact ⟨_, State.requestRemoval_of_denied (State.removalCheck_of_denied denied), rfl⟩
  · by_cases claimed : (s.pocket p).claim.isSome = true
    · exact ⟨_, State.requestRemoval_of_denied (State.removalCheck_of_claimed permits claimed), rfl⟩
    · have free : (s.pocket p).claim = none := by simpa using claimed
      have check := State.removalCheck_of_free permits free
      rw [if_neg (by decide), if_neg (by simpa using bare.resolve_left claimed)] at check
      exact ⟨_, State.requestRemoval_of_denied check, rfl⟩
  · exact ⟨_, (State.requestRemoval_of_checked (State.removalCheck_of_stocked permits free (by decide) stocked)).1 budget queue,
      rfl⟩

end

end Sys2Proof.Machine
end

section
/-! DATA_TAKEN and DATA_REFUSED (R98, R99, R134 to R136). -/

namespace Sys2Proof.Machine

/-! ## The state in which the owner learns of the answer -/

/-- What a matched answer of a cell leaves before its owner learns of it (R93, R97, R113). -/
structure State.AnsweredBy (s : State) (c : CellNo) (v : State) : Prop where
  only : s.LinkOnly v
  faultCount : (v.cell c).faultCount =
    if (s.cell c).standing = .cutOff then (s.cell c).faultCount else (s.cell c).faultCount - 1
  length : (v.cell c).queue.length = ((s.cell c).queue.filter fun e => e.step != .inFlight).length
  standing : (s.cell c).standing ≠ .cutOff → (s.cell c).faultCount ≤ 256 → (v.cell c).standing ≠ .cutOff

section
variable {s s' v : State} {f : RxFrame} {rest : List RxFrame} {c : CellNo} {e : Exchange} {id : Nat} {i : IssueNo} {x : Issue}

/-- The queue of a cell may have been changed where the exchange in flight stands. -/
theorem State.answeredBy_afterAnswer {w : State} {g : Exchange → Exchange} (only : s.LinkOnly w)
    (stays : ∀ d, d.step = .inFlight → (g d).step = .inFlight) (cell : w.cell c = (s.cell c).modInFlight g) :
    s.AnsweredBy c (w.afterAnswer c) := by
  have standing : (w.cell c).standing = (s.cell c).standing := by rw [cell]; rfl
  have faultCount : (w.cell c).faultCount = (s.cell c).faultCount := by rw [cell]; rfl
  refine ⟨only.trans State.afterAnswer_linkOnly, ?_, ?_, fun good low => ?_⟩
  · rw [State.cell_afterAnswer]
    exact (Cell.faultCount_succeeded _).trans (by rw [standing, faultCount])
  · rw [State.length_afterAnswer, cell]
    exact length_filter_modInFlight stays _
  · rw [State.cell_afterAnswer]
    exact Cell.standing_succeeded (standing ▸ good) (faultCount ▸ low)

theorem State.answeredBy_received (left : s' = { s with link := { s.link with rx := rest } }) :
    s.AnsweredBy c (s'.afterAnswer c) := by
  have same : (s.cell c).modInFlight (fun d => d) = s.cell c := by
    unfold Cell.modInFlight
    simp
  refine State.answeredBy_afterAnswer (g := fun d => d) (.of_link (by rw [left])) (by exact fun _ step => step) ?_
  rw [same, left]
  rfl

theorem State.AnsweredBy.isOpen (answered : s.AnsweredBy c v) (isOpen : (s.issueRec i).issue = some x) :
    (v.issueRec i).issue = some x := by rw [answered.only.issueRec, isOpen]

theorem State.AnsweredBy.room (answered : s.AnsweredBy c v) (flies : (s.cell c).inFlight = some e)
    (full : (s.cell c).queue.length ≤ 16) : (v.cell c).queue.length < 16 := by
  rw [answered.length]
  exact Nat.lt_of_lt_of_le (length_filter_lt_of_inFlight flies) full

/-! ## The outcomes of an offer -/

/-- The offer taken, and the pocket opened for the pickup (R134, R136). -/
theorem State.AnsweredBy.opens {answer : List Byte} (answered : s.AnsweredBy c v) (isOpen : (s.issueRec i).issue = some x)
    (keeps : x.cancelPending = false) (permits : (s.attributeOf x.pocket).permits .issuePick = true)
    (free : (s.pocket x.pocket).claim = none) (stocked : (s.pocket x.pocket).stocked = true)
    (budget : s.budgetCount < s.crib.lockBudget) : ∃ num,
      ((v.offerEnded i e (.answered answer)).issueRec i).issue = some
        { x with
          tries := e.triesUsed, deferrals := e.deferrals, offer := .taken, phase := .unlockWait, request := some num } ∧
      (v.offerEnded i e (.answered answer)).pocket x.pocket = { s.pocket x.pocket with
        lock := .opening, confirm := some 250, claim := some num, stamp := s.clock } ∧
      (v.offerEnded i e (.answered answer)).link = v.link ∧ (v.offerEnded i e (.answered answer)).order = v.order := by
  have isOpen' := answered.isOpen isOpen
  have crib := answered.only.crib
  rw [State.offerEnded_taken isOpen', if_neg (by simp [keeps])]
  generalize isU : v.modIssue i e.takes = u
  have only : u = { v with issues := u.issues } := by rw [← isU]; rfl
  have marked : (u.issueRec i).issue = some (e.takes x) := by rw [← isU]; exact State.issue_modIssue _ isOpen'
  have cribU : u.crib = s.crib := by rw [only, ← crib]
  have pocket := State.pocket_of_crib cribU x.pocket
  have check : u.removalCheck .issuePick x.pocket = none :=
    State.removalCheck_of_stocked (by rw [State.attributeOf, cribU]; exact permits) (pocket ▸ free) (by decide) (pocket ▸ stocked)
  have budgetU : u.budgetCount < u.crib.lockBudget := by rw [State.budgetCount, cribU]; exact budget
  obtain ⟨t, num, made, -, -, opened, -, changed⟩ :=
    (State.requestRemoval_of_checked (owner := .issue (u.issueId i)) check).2 (.inl budgetU)
  rw [State.makePick_of_made marked made]
  refine ⟨num, ?_, ?_, ?_, ?_⟩
  · exact State.issue_modIssue (fun x => { x with request := some num, phase := .unlockWait }) ((congrArg IssueRecord.issue (State.issueRec_congr (s := u) (t := t) (by rw [changed]))).trans marked)
  · refine Eq.trans (show t.pocket x.pocket = _ from opened) ?_
    have clock : u.clock = s.clock := by rw [only]; exact answered.only.clock
    rw [if_pos budgetU, pocket, clock]
  · change t.link = v.link
    rw [changed, only]
  · change t.order = v.order
    rw [changed, only]

/-- The offer taken, and the issue withdraws (R134, R136, R147). -/
theorem State.AnsweredBy.withdraws {answer : List Byte} {why : Status} (answered : s.AnsweredBy c v)
    (flies : (s.cell c).inFlight = some e) {d : Exchange} (isOpen : (s.issueRec i).issue = some x) (isCell : x.cell = c)
    (full : (s.cell c).queue.length ≤ 16) (standing : (s.cell c).standing ≠ .cutOff) (low : (s.cell c).faultCount ≤ 256)
    (fails : (x.cancelPending = true ∧ why = .cancelled) ∨
      (x.cancelPending = false ∧
        (((s.attributeOf x.pocket).permits .issuePick = false ∧ why = .drawerClosed) ∨
          ((s.attributeOf x.pocket).permits .issuePick = true ∧ why = .notStocked ∧
            ((s.pocket x.pocket).claim.isSome = true ∨ (s.pocket x.pocket).stocked = false)) ∨
          ((s.attributeOf x.pocket).permits .issuePick = true ∧ (s.pocket x.pocket).claim = none ∧
            (s.pocket x.pocket).stocked = true ∧ s.crib.lockBudget ≤ s.budgetCount ∧ 16 ≤ s.queuedCount ∧
            why = .cribBusy)))) : ∃ t,
      v.offerEnded i d (.answered answer) = t ∧ t.crib = s.crib ∧ (t.cell c).faultCount = (v.cell c).faultCount ∧
      t.order.formedNow = s.order.formedNow ∧
      (t.issueRec i).issue = some
        { x with
          tries := d.triesUsed, deferrals := d.deferrals, offer := .taken, phase := .withdrawing, request := none
          failure := some (x.failure.getD why) } := by
  have isOpen' := answered.isOpen isOpen
  have crib := answered.only.crib
  have marked := State.issue_modIssue d.takes isOpen'
  have withdraws := State.withdrawnBy_enterWithdrawing (st := why) marked
    (by subst isCell; exact answered.room flies full) (by subst isCell; exact answered.standing standing low)
  have becomes : v.offerEnded i d (.answered answer) = (v.modIssue i d.takes).enterWithdrawing i why := by
    rw [State.offerEnded_taken isOpen']
    rcases fails with ⟨pending, rfl⟩ | ⟨keeps, fails⟩
    · exact if_pos pending
    · rw [if_neg (by simp [keeps])]
      have pocket : (v.modIssue i d.takes).pocket x.pocket = s.pocket x.pocket := State.pocket_of_crib crib x.pocket
      obtain ⟨st, denied, isWhy⟩ := State.requestRemoval_of_failure (s := v.modIssue i d.takes) (p := x.pocket)
        (owner := .issue ((v.modIssue i d.takes).issueId i)) (why := why) (by
          rw [pocket]
          simp only [State.attributeOf, State.budgetCount, State.queuedCount, State.modIssue, State.modIssues, crib]
          exact fails)
      rw [State.makePick_of_denied marked denied, isWhy]
  rw [becomes]
  generalize (v.modIssue i d.takes).enterWithdrawing i why = t at withdraws ⊢
  have changed := withdraws.only
  refine ⟨t, rfl, ?_, withdraws.faultCount c, ?_, withdraws.issue⟩
  · rw [changed]
    exact crib
  · rw [changed]
    exact answered.only.formedNow

/-- The end of an issue by an answer, with its failure result or with this one (R134, R142, R143). -/
theorem State.AnsweredBy.closes {u : State} {y : Issue} {st : Status} {w : WithdrawStatus} (answered : s.AnsweredBy c v)
    (only : u = { v with issues := u.issues }) (isOpen : (u.issueRec i).issue = some y) (failure : y.failure = x.failure)
    (origin : y.origin = x.origin) :
    ∃ t, u.closeFailed i st w = t ∧ (t.issueRec i).issue = none ∧ t.crib = s.crib ∧
      (t.cell c).faultCount = (v.cell c).faultCount ∧
      ∀ n, x.origin = .order n → s.working n (.issue id) → t.formedStatus n = some (x.failure.getD st) := by
  have closes := State.closedBy_closeFailed (st := st) (w := w) isOpen
  generalize u.closeFailed i st w = t at closes ⊢
  refine ⟨t, rfl, closes.issue, ?_, ?_, fun n isOrder works => ?_⟩
  · rw [closes.crib, only]
    exact answered.only.crib
  · rw [State.cell, closes.cells, only]
    rfl
  · obtain ⟨⟨context, held, -, unfinished⟩, -⟩ := works
    have held' : (u.slot n).context = some context := by
      rw [only]
      exact (congrArg Slot.context (answered.only.slot n)).trans held
    rw [failure] at closes
    exact (closes.toOrder n context (origin.trans isOrder) held' unfinished).1

end

end Sys2Proof.Machine
end

section
/-! The frames of the answers, and PRESENT (R98, R99, R114, R118, R135, R142, R160). -/

namespace Sys2Proof.Machine

/-! ## Frames that match nothing (R98) -/

section
variable {s : State} {f : RxFrame}

theorem State.flying_eq_some {c : CellNo} {e : Exchange} (flies : (s.cell c).inFlight = some e) :
    s.flying c = some e.payload := by
  rw [State.flying, flies]
  rfl

theorem State.flying_isNone {c : CellNo} (none : (s.cell c).inFlight = none) : s.flying c = Option.none := by
  rw [State.flying, none]
  rfl

theorem State.offerInFlight_of_none {c : CellNo} {id : Nat} (none : ∀ e, (s.cell c).inFlight = some e →
    ∀ tool slot length radius remaining unit, e.payload ≠ .dataOffer id tool slot length radius remaining unit) :
    s.offerInFlight c id = false := by
  unfold State.offerInFlight
  cases flies : (s.cell c).inFlight with
  | none => rw [State.flying_isNone flies]
  | some e =>
    rw [State.flying_eq_some flies]
    have other := none e flies
    cases payload : e.payload with
    | dataOffer j tool slot length radius remaining unit =>
      simp only [beq_eq_false_iff_ne, ne_eq]
      rintro rfl
      exact other _ _ _ _ _ _ payload
    | _ => rfl

theorem State.offerInFlight_of_some {c : CellNo} {e : Exchange} {id tool slot : Nat} {length radius : Int} {remaining : Nat}
    {unit : LifeUnit} (flies : (s.cell c).inFlight = some e)
    (payload : e.payload = .dataOffer id tool slot length radius remaining unit) : s.offerInFlight c id = true := by
  unfold State.offerInFlight
  rw [State.flying_eq_some flies, payload]
  exact beq_self_eq_true id

theorem State.withdrawInFlight_of_none {c : CellNo} {id t : Nat} (none : ∀ e, (s.cell c).inFlight = some e → ∀ tool slot,
    e.payload = .withdraw id tool slot → id = 255 ∧ tool ≠ t) : s.withdrawInFlight c id t = false := by
  unfold State.withdrawInFlight
  cases flies : (s.cell c).inFlight with
  | none => rw [State.flying_isNone flies]
  | some e =>
    rw [State.flying_eq_some flies]
    have other := none e flies
    cases payload : e.payload with
    | withdraw j tool slot =>
      by_cases same : j = id
      · subst same
        obtain ⟨broad, differs⟩ := other tool slot payload
        simp [broad, differs]
      · simp [same]
    | _ => rfl

theorem State.withdrawInFlight_of_some {c : CellNo} {e : Exchange} {id tool slot t : Nat}
    (flies : (s.cell c).inFlight = some e) (payload : e.payload = .withdraw id tool slot) (named : id = 255 → t = tool) :
    s.withdrawInFlight c id t = true := by
  unfold State.withdrawInFlight
  rw [State.flying_eq_some flies, payload]
  by_cases broad : id = 255
  · simp [named broad]
  · simp [broad]

end

/-! ## What reaches the owner (R93) -/

section
variable {s v : State} {c : CellNo} {e : Exchange} {outcome : ExchangeOutcome} {i : IssueNo} {id : Nat}

theorem State.exchangeEnded_offer {tool slot : Nat} {length radius : Int} {remaining : Nat} {unit : LifeUnit} {j : Nat}
    (payload : e.payload = .dataOffer j tool slot length radius remaining unit) (owner : e.owner = .issue id)
    (index : s.openIndex id = some i) : s.exchangeEnded c e outcome = s.offerEnded i e outcome := by
  unfold State.exchangeEnded
  rw [payload, owner]
  dsimp only
  rw [index]

theorem State.exchangeEnded_withdraw {tool slot j : Nat} (payload : e.payload = .withdraw j tool slot)
    (owner : e.owner = .issue id) (index : s.openIndex id = some i) :
    s.exchangeEnded c e outcome = s.withdrawEnded i outcome := by
  unfold State.exchangeEnded
  rw [payload, owner]
  dsimp only
  rw [index]

theorem State.exchangeEnded_return {tool slot j : Nat} {n : SlotNo} {r : ReturnCtx} (payload : e.payload = .withdraw j tool slot)
    (owner : e.owner = .slot n) (work : s.work n = .returning r) :
    s.exchangeEnded c e outcome = s.returnWithdrawEnded n r e outcome := by
  unfold State.exchangeEnded
  rw [payload, owner]
  dsimp only
  rw [work]

theorem State.exchangeEnded_poll (payload : e.payload = .poll) : s.exchangeEnded c e outcome = s := by
  unfold State.exchangeEnded
  rw [payload]

/-- An exchange ended by an answer, handed to its owner. -/
theorem State.deliver_answerEnds (flies : (s.cell c).inFlight = some e) : State.deliverAll (s.answerEnds c outcome) =
    (s.afterAnswer c).exchangeEnded c { e with acknowledged := true, window := none } outcome := by
  rw [State.answerEnds_eq flies]
  rfl

end

/-! ## The deferral (R99, R135) -/

section
variable {s : State} {c : CellNo} {e : Exchange}

/-- The offer as a deferral leaves it (R99). -/
def State.deferred (s : State) (e : Exchange) : Exchange :=
  { e with
    acknowledged := true, triesUsed := e.triesUsed - 1, deferrals := e.deferrals + 1, step := .deferred
    buffer := none, window := none, deferralTimer := some s.link.deferralDelay }

/-- The state that a deferral leaves: the success counted, the offer deferred, its buffer granted anew. -/
def State.afterDeferral (c : CellNo) (e : Exchange) (s : State) : State :=
  (((s.countSuccess c).modCell c (Cell.modInFlight fun _ => s.deferred e)).detachAttempt c).grantBuffers

theorem State.deferOffer_eq (flies : (s.cell c).inFlight = some e) (few : e.deferrals < 8) (answer : List Byte) :
    s.deferOffer c answer = (s.afterDeferral c e, [.deferred c (s.deferred e)]) := by
  unfold State.deferOffer
  rw [flies]
  exact if_neg (Nat.not_le.mpr few)

theorem State.deferOffer_ninth (flies : (s.cell c).inFlight = some e) (many : 8 ≤ e.deferrals) (answer : List Byte) :
    s.deferOffer c answer = (s.modCell c (Cell.modInFlight fun e => { e with triesUsed := e.triesUsed - 1 })).answerEnds c
      (.refused .notNow answer) := by
  unfold State.deferOffer
  rw [flies]
  exact if_pos many

theorem mem_modHead {g : Exchange → Exchange} {d : Exchange} {l : List Exchange} (isIn : d ∈ l) (waits : d.step ≠ .queued) :
    d ∈ modHead g l := by
  induction l with
  | nil => cases isIn
  | cons x l ih =>
    unfold modHead
    split
    · rename_i queued
      rcases List.mem_cons.mp isIn with rfl | isIn
      · exact absurd queued waits
      · exact List.mem_cons_of_mem _ isIn
    · rcases List.mem_cons.mp isIn with rfl | isIn
      · exact List.mem_cons_self
      · exact List.mem_cons_of_mem _ (ih isIn)

/-- A grant leaves every exchange that is not QUEUED where it is. -/
theorem State.mem_grantBuffers {d : Exchange} (isIn : d ∈ (s.cell c).queue) (waits : d.step ≠ .queued) :
    d ∈ (s.grantBuffers.cell c).queue := by
  refine s.grantBuffers_keeps (P := fun t => d ∈ (t.cell c).queue) (fun t b _ _ stands => ?_) (fun t b stands => ?_) isIn
  all_goals
    rw [State.cell_modCell]
    split
    · rename_i here
      subst here
      exact mem_modHead stands waits
    · exact stands

theorem State.afterDeferral_linkOnly : s.LinkOnly (s.afterDeferral c e) :=
  .trans State.countSuccess_linkOnly (.of_link (State.grantBuffers_eq _))

theorem State.cell_afterDeferral : (s.afterDeferral c e).cell c =
    { (s.cell c).succeeded with
      queue := ((s.afterDeferral c e).cell c).queue, lastGrant := ((s.afterDeferral c e).cell c).lastGrant } := by
  refine (State.cell_grantBuffers _ c).trans ?_
  rw [State.cell_detachAttempt, State.cell_modCell, if_pos rfl, State.cell_countSuccess]
  rfl

theorem State.deferred_mem (flies : (s.cell c).inFlight = some e) :
    s.deferred e ∈ ((s.afterDeferral c e).cell c).queue := by
  refine State.mem_grantBuffers ?_ (show ExchangeStep.deferred ≠ .queued by decide)
  rw [State.cell_detachAttempt, State.cell_modCell, if_pos rfl, State.cell_countSuccess]
  unfold Cell.modInFlight
  rw [Cell.queue_succeeded]
  have isFlying : e.step = .inFlight := by simpa using List.find?_some flies
  exact List.mem_map.mpr ⟨e, List.mem_of_find?_eq_some flies, if_pos isFlying⟩

theorem State.length_afterDeferral : ((s.afterDeferral c e).cell c).queue.length = (s.cell c).queue.length := by
  have queue := congrArg List.length (State.queue_grantBuffers (g := fun _ => ()) (fun _ _ => rfl)
    (((s.countSuccess c).modCell c (Cell.modInFlight fun _ => s.deferred e)).detachAttempt c) c)
  rw [List.length_map, List.length_map] at queue
  refine queue.trans ?_
  rw [State.cell_detachAttempt, State.cell_modCell, if_pos rfl, State.cell_countSuccess]
  unfold Cell.modInFlight
  rw [List.length_map, Cell.queue_succeeded]

/-- The recall of an exchange, whatever it answers (R95). -/
theorem State.recall_keeps {owner : ExchangeOwner} {u : State} {answer : RecallAnswer}
    (recalls : s.recall c owner = (u, answer)) : u = { s with link := u.link } ∧
      (u.cell c).faultCount = (s.cell c).faultCount ∧ (u.cell c).standing = (s.cell c).standing ∧
      (u.cell c).queue.length ≤ (s.cell c).queue.length := by
  cases first : (s.cell c).queue.find? fun e => e.owner == owner with
  | none =>
    have same : s.recall c owner = (s, .inFlight) := by
      unfold State.recall
      rw [first]
    obtain rfl : s = u := congrArg Prod.fst (same.symm.trans recalls)
    exact ⟨rfl, rfl, rfl, Nat.le_refl _⟩
  | some e =>
    by_cases flies : e.step = .inFlight
    · obtain rfl : s = u := congrArg Prod.fst ((State.recall_of_inFlight first flies).symm.trans recalls)
      exact ⟨rfl, rfl, rfl, Nat.le_refl _⟩
    · obtain rfl : s.recalled c owner = u := congrArg Prod.fst ((State.recall_of_waiting first flies).symm.trans recalls)
      refine ⟨State.recalled_eq, ?_, State.standing_recalled c, Nat.le_of_lt (State.length_recalled first)⟩
      rw [State.recalled, State.faultCount_grantBuffers, State.cell_modCell, if_pos rfl]

end

end Sys2Proof.Machine
end

section
/-! The frames of the answers, handed on (R98, R99, R114, R118, R135, R142, R160). -/

namespace Sys2Proof.Machine

section
variable {s s' : State} {f : RxFrame} {rest : List RxFrame} {e : Exchange} {id : Nat} {i : IssueNo} {x : Issue}
  {tool slot : Nat} {length radius : Int} {remaining : Nat} {unit : LifeUnit} {lowered : Nat}

/-! ## DATA_TAKEN and DATA_REFUSED -/

/-- An answer to an offer that reaches its issue. -/
structure State.OfferAnswered (s : State) (f : RxFrame) (e : Exchange) (id : Nat) (i : IssueNo) (x : Issue) : Prop where
  flies : (s.cell f.source).inFlight = some e
  payload : ∃ tool slot length radius remaining unit, e.payload = .dataOffer id tool slot length radius remaining unit
  owner : e.owner = .issue id
  named : f.field 0 1 = id
  index : s.openIndex id = some i
  isOpen : (s.issueRec i).issue = some x

theorem exec_dataTaken_matched (hands : s.handsOn 0x11 f rest) (left : s' = { s with link := { s.link with rx := rest } })
    (answers : s.OfferAnswered f e id i x) : exec .dataTaken s =
      .next (State.settle ((s'.afterAnswer f.source).offerEnded i { e with acknowledged := true, window := none }
        (.answered f.payload))) := by
  obtain ⟨flies, ⟨tool, slot, length, radius, remaining, unit, payload⟩, owner, named, index, isOpen⟩ := answers
  have flies' : (s'.cell f.source).inFlight = some e := by rw [left]; exact flies
  refine State.handOn_settled (take := State.takeDataTaken) hands left ?_
  unfold State.takeDataTaken
  rw [named, State.offerInFlight_of_some flies' payload, if_pos rfl, State.deliver_answerEnds flies']
  refine State.exchangeEnded_offer payload owner ?_
  rw [(State.answeredBy_received left).only.openIndex, index]

theorem refusal_eq_notNow : f.refusal = .notNow ↔ f.field 1 1 = 3 := by
  unfold RxFrame.refusal
  split
  · simp [*]
  · simp [*]
  · rename_i no3
    exact ⟨fun is => (nomatch is), fun is => absurd is no3⟩

/-- A try given back (R99). -/
def Exchange.untried (e : Exchange) : Exchange := { e with triesUsed := e.triesUsed - 1 }

/-- A refusal that ends the offer (R98, R99). -/
theorem State.takeDataRefused_ends (answers : s.OfferAnswered f e id i x) (ends : f.field 1 1 ≠ 3 ∨ 8 ≤ e.deferrals) :
    ∃ (w : State) (g : Exchange → Exchange) (d : Exchange) (reason : RefusalReason), w = { s with link := w.link } ∧
      w.cell f.source = (s.cell f.source).modInFlight g ∧ (∀ d, d.step = .inFlight → (g d).step = .inFlight) ∧
      s.takeDataRefused f = (w.afterAnswer f.source).exchangeEnded f.source d (.refused reason f.payload) ∧
      d.payload = e.payload ∧ d.owner = e.owner := by
  obtain ⟨flies, ⟨tool, slot, length, radius, remaining, unit, payload⟩, owner, named, index, isOpen⟩ := answers
  have offer := State.offerInFlight_of_some flies payload
  by_cases notNow : f.refusal = .notNow
  · have many : 8 ≤ e.deferrals := ends.resolve_left fun other => other (refusal_eq_notNow.mp notNow)
    have cell : (s.modCell f.source (Cell.modInFlight Exchange.untried)).cell f.source =
        (s.cell f.source).modInFlight Exchange.untried := (State.cell_modCell ..).trans (if_pos rfl)
    have marked := Cell.inFlight_modInFlight (f := Exchange.untried) flies fun d step => step
    rw [← cell] at marked
    refine ⟨s.modCell f.source (Cell.modInFlight Exchange.untried), Exchange.untried,
      { e.untried with acknowledged := true, window := none }, .notNow, rfl, cell, fun d step => step, ?_, rfl, rfl⟩
    rw [← State.deliver_answerEnds marked]
    unfold State.takeDataRefused
    rw [named, offer, if_pos rfl, notNow]
    dsimp only
    rw [State.deferOffer_ninth flies many]
    rfl
  · refine ⟨s, fun d => d, { e with acknowledged := true, window := none }, f.refusal, rfl, ?_, fun d step => step, ?_, rfl, rfl⟩
    · unfold Cell.modInFlight
      simp
    · rw [← State.deliver_answerEnds flies]
      unfold State.takeDataRefused
      rw [named, offer, if_pos rfl]
      cases isReason : f.refusal with
      | notNow => exact absurd isReason notNow
      | _ => rfl

theorem exec_dataRefused_ends (hands : s.handsOn 0x12 f rest) (left : s' = { s with link := { s.link with rx := rest } })
    (answers : s.OfferAnswered f e id i x) (ends : f.field 1 1 ≠ 3 ∨ 8 ≤ e.deferrals)
    (isLowered : lowered = if (s.cell f.source).standing = .cutOff then (s.cell f.source).faultCount
      else (s.cell f.source).faultCount - 1) : ∃ t, exec .dataRefused s = .next t ∧
      (t.issueRec i).issue = none ∧ t.crib = s.crib ∧ (t.cell f.source).faultCount = lowered ∧
      ∀ n, x.origin = .order n → s.working n (.issue id) → t.formedStatus n = some (x.failure.getD .refused) := by
  have answers' : s'.OfferAnswered f e id i x := by
    rw [left]
    exact ⟨answers.flies, answers.payload, answers.owner, answers.named, answers.index, answers.isOpen⟩
  obtain ⟨w, g, d, reason, only, cell, stays, takes, payload, owner⟩ := State.takeDataRefused_ends answers' ends
  obtain ⟨-, ⟨_, _, _, _, _, _, isOffer⟩, isOwner, -, index, isOpen⟩ := answers
  have onlyS : s.LinkOnly w := .trans (.of_link (by rw [left])) (.of_link only)
  have answered : s.AnsweredBy f.source (w.afterAnswer f.source) :=
    State.answeredBy_afterAnswer onlyS stays (by rw [cell, left]; rfl)
  rw [State.exchangeEnded_offer (payload.trans isOffer) (owner.trans isOwner) (by rw [answered.only.openIndex, index]),
    State.offerEnded_refused] at takes
  obtain ⟨t, isT, issue, crib, count, formed⟩ := answered.closes (id := id) (x := x) (st := .refused) (w := .notSent)
    (u := State.modIssue i d.ends _) rfl (State.issue_modIssue d.ends (answered.isOpen isOpen)) rfl rfl
  rw [isT] at takes
  exact ⟨t.settle, State.handOn_settled hands left takes, issue, crib, count.trans (answered.faultCount.trans isLowered.symm),
    formed⟩

/-- A deferral that reaches its issue (R99, R135). -/
theorem exec_dataRefused_defers (hands : s.handsOn 0x12 f rest) (left : s' = { s with link := { s.link with rx := rest } })
    (answers : s.OfferAnswered f e id i x) (notNow : f.field 1 1 = 3) (few : e.deferrals < 8) : exec .dataRefused s =
      .next (State.settle ((s'.afterDeferral f.source e).offerDeferred i (s'.deferred e))) := by
  obtain ⟨flies, ⟨tool, slot, length, radius, remaining, unit, payload⟩, owner, named, index, isOpen⟩ := answers
  have flies' : (s'.cell f.source).inFlight = some e := by rw [left]; exact flies
  have index' : (s'.afterDeferral f.source e).openIndex id = some i := by
    rw [State.afterDeferral_linkOnly.openIndex, left]
    exact index
  refine State.handOn_settled (take := State.takeDataRefused) hands left ?_
  unfold State.takeDataRefused
  rw [named, State.offerInFlight_of_some flies' payload, if_pos rfl, refusal_eq_notNow.mpr notNow]
  dsimp only
  rw [State.deferOffer_eq flies' few]
  have owner' : (s'.deferred e).owner = .issue id := owner
  change State.exchangeDeferred (s'.deferred e) (s'.afterDeferral f.source e) = _
  unfold State.exchangeDeferred
  rw [owner']
  dsimp only
  rw [index']

theorem State.offerDeferred_of_kept (isOpen : (s.issueRec i).issue = some x) (keeps : x.cancelPending = false) :
    s.offerDeferred i e = s.modIssue i fun x => { x with deferrals := e.deferrals } := by
  unfold State.offerDeferred
  rw [isOpen]
  exact if_neg (by simp [keeps])

/-- A pending cancel recalls the deferred offer, and the issue withdraws (R147). -/
theorem State.offerDeferred_of_pending (isOpen : (s.issueRec i).issue = some x) (pending : x.cancelPending = true)
    (room : (s.cell x.cell).queue.length < 16) (standing : (s.cell x.cell).standing ≠ .cutOff) : ∃ t,
      s.offerDeferred i e = t ∧
      (t.issueRec i).issue = some
        { x with
          deferrals := e.deferrals, offer := .unknown, phase := .withdrawing, request := none
          failure := some (x.failure.getD .cancelled) } ∧
      (t.cell x.cell).faultCount = (s.cell x.cell).faultCount ∧ t.crib = s.crib ∧ t.order = s.order := by
  have marked := State.issue_modIssue (fun x => { x with deferrals := e.deferrals }) isOpen
  unfold State.offerDeferred
  rw [isOpen]
  dsimp only
  rw [if_pos pending]
  generalize isM : (s.modIssue i fun x => { x with deferrals := e.deferrals }) = m at marked
  have onlyM : m = { s with issues := m.issues } := by rw [← isM]; rfl
  have cellM : m.cell x.cell = s.cell x.cell := by rw [onlyM]; rfl
  cases recalls : m.recall x.cell (.issue (s.issueId i)) with
  | mk u answer =>
    obtain ⟨only, count, standingU, lengthU⟩ := State.recall_keeps recalls
    rw [cellM] at count standingU lengthU
    have markedU := State.issue_modIssue (fun x => { x with offer := .unknown })
      ((congrArg IssueRecord.issue (State.issueRec_congr (s := m) (t := u) (by rw [only]))).trans marked)
    have withdraws := State.withdrawnBy_enterWithdrawing (st := .cancelled) markedU (Nat.lt_of_le_of_lt lengthU room)
      (standingU ▸ standing)
    dsimp only
    generalize State.enterWithdrawing i .cancelled (u.modIssue i fun x => { x with offer := .unknown }) = t at withdraws ⊢
    have changed := withdraws.only
    refine ⟨t, rfl, withdraws.issue, (withdraws.faultCount x.cell).trans count, ?_, ?_⟩
    · rw [changed]
      change u.crib = s.crib
      rw [only, onlyM]
    · rw [changed]
      change u.order = s.order
      rw [only, onlyM]

end

end Sys2Proof.Machine
end

section
/-! PRESENT (R98, R114, R118). -/

namespace Sys2Proof.Machine

/-! ## The reports of a counted success (R113, R115) -/

section
variable {s : State} {c : CellNo}

/-- CELL_STANDING of a cell that is GOOD now, with its counts (R115, R198). -/
def recoveryReport (c : CellNo) (code former faults answers : Nat) : Report :=
  { Report.blank .cellStanding with
    cell := c.val + 1, code := code
    detail := .plain (le 1 former ++ le 1 0 ++ le 2 faults ++ le 1 answers) }

theorem State.reports_setCount_same {count : Nat} {cause : StandingCause}
    (same : standingFor (s.cell c).standing count = (s.cell c).standing) :
    (s.setCount c count cause).reports = s.reports := by
  rw [State.setCount_eq, if_pos same]
  rfl

theorem State.reports_setCount_good {count : Nat} (good : standingFor (s.cell c).standing count = .good)
    (rises : (s.cell c).standing ≠ .good) : (s.setCount c count .countFall).reports =
      (s.handReport (recoveryReport c 2 (s.cell c).standing.code count (s.cell c).answers)).reports := by
  have cell : (s.modCell c (Cell.counted count)).cell c = (s.cell c).counted count := by rw [State.cell_modCell, if_pos rfl]
  have report : (s.modCell c (Cell.counted count)).standingReport c (s.cell c).standing .countFall =
      recoveryReport c 2 (s.cell c).standing.code count (s.cell c).answers := by
    unfold State.standingReport
    rw [cell, Cell.counted, good]
    dsimp only
    rw [if_neg (by simp)]
    rfl
  rw [State.setCount_eq, if_neg (by rw [good]; exact rises.symm), report]
  exact State.reports_handReport_congr _ rfl rfl

theorem State.reports_countSuccess : (s.countSuccess c).reports =
    if (s.cell c).standing = .cutOff then s.reports else (s.setCount c ((s.cell c).faultCount - 1) .countFall).reports := by
  unfold State.countSuccess
  dsimp only
  split <;> rfl

/-- The reports of a matched answer are those of its counted success. -/
theorem State.reports_afterAnswer : (s.afterAnswer c).reports = ((s.modCell c
    (Cell.modInFlight fun e => { e with acknowledged := true, window := none })).countSuccess c).reports := by
  unfold State.afterAnswer State.removeInFlight
  rw [State.grantBuffers_eq]
  rfl

theorem State.reports_afterAnswer_same (same : (s.cell c).standing = .cutOff ∨
    standingFor (s.cell c).standing ((s.cell c).faultCount - 1) = (s.cell c).standing) :
    (s.afterAnswer c).reports = s.reports := by
  have cell : (s.modCell c (Cell.modInFlight fun e => { e with acknowledged := true, window := none })).cell c =
      (s.cell c).modInFlight fun e => { e with acknowledged := true, window := none } := by rw [State.cell_modCell, if_pos rfl]
  rw [State.reports_afterAnswer, State.reports_countSuccess, cell]
  split
  · rfl
  · rename_i standing
    exact State.reports_setCount_same (by rw [cell]; exact same.resolve_left standing)

theorem State.reports_afterAnswer_good (weak : (s.cell c).standing = .weak) (low : (s.cell c).faultCount ≤ 64) :
    (s.afterAnswer c).reports =
      (s.handReport (recoveryReport c 2 1 ((s.cell c).faultCount - 1) (s.cell c).answers)).reports := by
  have cell : (s.modCell c (Cell.modInFlight fun e => { e with acknowledged := true, window := none })).cell c =
      (s.cell c).modInFlight fun e => { e with acknowledged := true, window := none } := by rw [State.cell_modCell, if_pos rfl]
  have standing : ((s.cell c).modInFlight fun e => { e with acknowledged := true, window := none }).standing = .weak := weak
  rw [State.reports_afterAnswer, State.reports_countSuccess, cell, if_neg (by rw [standing]; decide)]
  have good : standingFor .weak ((s.cell c).faultCount - 1) = .good := by
    unfold standingFor
    dsimp only
    rw [if_neg (by omega), if_pos (by omega)]
  refine (State.reports_setCount_good (by rw [cell, standing]; exact good) (by rw [cell, standing]; decide)).trans ?_
  rw [cell, standing]
  exact State.reports_handReport_congr _ rfl rfl

end

/-! ## The answers counted (R114, R118) -/

section
variable {s : State} {c : CellNo}

/-- A cell with one more consecutive answer (R114). -/
def Cell.presented (x : Cell) : Cell := { x with answers := min 16 (x.answers + 1) }

/-- A cell returned to GOOD (R118). -/
def Cell.recovered (x : Cell) : Cell := { x with standing := .good, faultCount := 0, answers := 0 }

theorem State.countPresent_of_few (few : (s.cell c).standing ≠ .cutOff ∨ (s.cell c).answers < 15) :
    s.countPresent c = s.modCell c Cell.presented := by
  have cell : (s.modCell c Cell.presented).cell c = (s.cell c).presented := by rw [State.cell_modCell, if_pos rfl]
  refine if_neg fun ⟨cut, sixteenth⟩ => ?_
  have cut' : (s.cell c).standing = .cutOff := (congrArg Cell.standing cell).symm.trans cut
  have count : min 16 ((s.cell c).answers + 1) = 16 := (congrArg Cell.answers cell).symm.trans sixteenth
  rcases few with good | few
  · exact good cut'
  · omega

/-- The sixteenth answer of a CUT_OFF cell (R118). -/
theorem State.countPresent_of_sixteenth (cut : (s.cell c).standing = .cutOff) (many : 15 ≤ (s.cell c).answers) :
    (s.countPresent c).cell c = (s.cell c).recovered ∧ s.LinkOnly (s.countPresent c) ∧
      (s.countPresent c).reports = (s.handReport (recoveryReport c 3 2 0 0)).reports := by
  have cell : (s.modCell c Cell.presented).cell c = (s.cell c).presented := by rw [State.cell_modCell, if_pos rfl]
  have standing : ((s.modCell c Cell.presented).cell c).standing = .cutOff := (congrArg Cell.standing cell).trans cut
  have sixteenth : ((s.modCell c Cell.presented).cell c).answers = 16 := by
    rw [cell]
    change min 16 ((s.cell c).answers + 1) = 16
    omega
  have becomes : s.countPresent c = (s.modCell c Cell.presented).makeGood c .pollRecovery := if_pos ⟨standing, sixteenth⟩
  rw [becomes, State.makeGood_of_not_good _ (by rw [standing]; decide), standing]
  refine ⟨?_, .trans (.of_link rfl) (.handReport _ _), State.reports_handReport_congr _ rfl rfl⟩
  rw [State.cell_handReport, State.cell_modCell, if_pos rfl, cell]
  rfl

theorem State.countPresent_linkOnly : s.LinkOnly (s.countPresent c) := by
  by_cases few : (s.cell c).standing ≠ .cutOff ∨ (s.cell c).answers < 15
  · rw [State.countPresent_of_few few]
    exact .of_link rfl
  · rw [not_or, not_not, not_lt] at few
    exact (State.countPresent_of_sixteenth few.1 few.2).2.1

theorem State.queue_countPresent : ((s.countPresent c).cell c).queue = (s.cell c).queue := by
  by_cases few : (s.cell c).standing ≠ .cutOff ∨ (s.cell c).answers < 15
  · rw [State.countPresent_of_few few, State.cell_modCell, if_pos rfl]
    rfl
  · rw [not_or, not_not, not_lt] at few
    rw [(State.countPresent_of_sixteenth few.1 few.2).1]
    rfl

end

/-! ## PRESENT (R98, R114, R118) -/

section
variable {s : State} {c : CellNo}

/-- What PRESENT leaves of its cell and of the reports (R113 to R115, R118). -/
structure State.PresentTaken (s : State) (c : CellNo) (t : State) : Prop where
  recovers : (s.cell c).standing = .cutOff → 15 ≤ (s.cell c).answers →
    (t.cell c).standing = .good ∧ (t.cell c).answers = 0 ∧ (t.cell c).faultCount = 0 ∧
    t.reports = (s.handReport (recoveryReport c 3 2 0 0)).reports
  counts : (s.cell c).standing = .cutOff → (s.cell c).answers < 15 →
    (t.cell c).standing = .cutOff ∧ (t.cell c).answers = (s.cell c).answers + 1 ∧
    (t.cell c).faultCount = (s.cell c).faultCount ∧ t.reports = s.reports
  lowers : (s.cell c).standing ≠ .cutOff → (s.cell c).faultCount ≤ 256 →
    (t.cell c).answers = min 16 ((s.cell c).answers + 1) ∧ (t.cell c).faultCount = (s.cell c).faultCount - 1
  rises : (s.cell c).standing = .weak → (s.cell c).faultCount ≤ 64 → (t.cell c).standing = .good ∧
    t.reports = (s.handReport (recoveryReport c 2 1 ((s.cell c).faultCount - 1) (min 16 ((s.cell c).answers + 1)))).reports
  stays : ((s.cell c).standing = .weak ∧ 64 < (s.cell c).faultCount ∧ (s.cell c).faultCount ≤ 256) ∨
      ((s.cell c).standing = .good ∧ (s.cell c).faultCount ≤ 96) →
    (t.cell c).standing = (s.cell c).standing ∧ t.reports = s.reports

theorem State.PresentTaken.congr {u t : State} (taken : u.PresentTaken c t) (cell : u.cell c = s.cell c)
    (reports : u.reports = s.reports) (order : u.order = s.order) : s.PresentTaken c t := by
  have handed (r : Report) : (u.handReport r).reports = (s.handReport r).reports :=
    State.reports_handReport_congr r reports order
  obtain ⟨recovers, counts, lowers, rises, stays⟩ := taken
  rw [cell] at recovers counts lowers rises stays
  rw [handed] at recovers rises
  rw [reports] at counts stays
  exact ⟨recovers, counts, lowers, rises, stays⟩

theorem standingFor_of_stays {st : Standing} {count : Nat} (stays : (st = .weak ∧ 64 < count ∧ count ≤ 256) ∨
    (st = .good ∧ count ≤ 96)) : st ≠ .cutOff ∧ standingFor st (count - 1) = st := by
  unfold standingFor
  rcases stays with ⟨rfl, above, below⟩ | ⟨rfl, below⟩
  · refine ⟨by decide, ?_⟩
    dsimp only
    rw [if_neg (by omega), if_neg (by omega)]
  · refine ⟨by decide, ?_⟩
    dsimp only
    rw [if_neg (by omega), if_neg (by omega)]

theorem Cell.succeeded_of_ne {x : Cell} (standing : x.standing ≠ .cutOff) : x.succeeded = x.counted (x.faultCount - 1) :=
  if_neg standing

theorem State.presentTaken : s.PresentTaken c ((s.countPresent c).afterAnswer c) := by
  have cellFew : (s.modCell c Cell.presented).cell c = (s.cell c).presented := by rw [State.cell_modCell, if_pos rfl]
  refine ⟨fun cut many => ?_, fun cut few => ?_, fun standing low => ?_, fun weak low => ?_, fun stays => ?_⟩
  · obtain ⟨cell, -, reports⟩ := State.countPresent_of_sixteenth cut many
    have unchanged : (s.cell c).recovered.succeeded = (s.cell c).recovered := rfl
    refine ⟨?_, ?_, ?_, (State.reports_afterAnswer_same (.inr ?_)).trans reports⟩
    · rw [State.cell_afterAnswer, cell]
      rfl
    · rw [State.cell_afterAnswer, cell]
      rfl
    · rw [State.cell_afterAnswer, cell]
      rfl
    · rw [cell]
      rfl
  · rw [State.countPresent_of_few (.inr few), State.cell_afterAnswer, cellFew, Cell.succeeded]
    have standing : (s.cell c).presented.standing = .cutOff := cut
    rw [if_pos standing]
    refine ⟨cut, ?_, rfl, (State.reports_afterAnswer_same (.inl ?_)).trans rfl⟩
    · change min 16 ((s.cell c).answers + 1) = _
      omega
    · rw [cellFew]
      exact cut
  · rw [State.countPresent_of_few (.inl standing), State.cell_afterAnswer, cellFew,
      Cell.succeeded_of_ne (x := (s.cell c).presented) standing]
    have below : (s.cell c).faultCount - 1 < 256 := by omega
    exact ⟨if_neg fun both => standingFor_ne_cutOff standing below both.2, rfl⟩
  · have standing : (s.cell c).standing ≠ .cutOff := by rw [weak]; decide
    have good : standingFor (s.cell c).standing ((s.cell c).faultCount - 1) = .good := by
      rw [weak]
      unfold standingFor
      dsimp only
      rw [if_neg (by omega), if_pos (by omega)]
    rw [State.countPresent_of_few (.inl standing)]
    refine ⟨?_, (State.reports_afterAnswer_good (by rw [cellFew]; exact weak) (by rw [cellFew]; exact low)).trans ?_⟩
    · rw [State.cell_afterAnswer, cellFew, Cell.succeeded_of_ne (x := (s.cell c).presented) standing]
      exact good
    · rw [cellFew]
      exact State.reports_handReport_congr _ rfl rfl
  · obtain ⟨standing, same⟩ := standingFor_of_stays stays
    rw [State.countPresent_of_few (.inl standing)]
    refine ⟨?_, (State.reports_afterAnswer_same (.inr ?_)).trans rfl⟩
    · rw [State.cell_afterAnswer, cellFew, Cell.succeeded_of_ne (x := (s.cell c).presented) standing]
      exact same
    · rw [cellFew]
      exact same

end

end Sys2Proof.Machine
end

section
/-! Answers matched against the exchange in flight (R98). -/

namespace Sys2Proof.Machine

section
variable {s s' : State} {f : RxFrame} {rest : List RxFrame} {e : Exchange} {id tool slot : Nat} {i : IssueNo} {x : Issue}
  {lowered : Nat}

/-! ## Answers that match nothing -/

theorem exec_answers_unmatched (left : s' = { s with link := { s.link with rx := rest } }) :
    ((∀ e, (s.cell f.source).inFlight = some e → ∀ tool slot length radius remaining unit,
        e.payload ≠ .dataOffer (f.field 0 1) tool slot length radius remaining unit) →
      (s.handsOn 0x11 f rest → exec .dataTaken s = .next s') ∧
      (s.handsOn 0x12 f rest → exec .dataRefused s = .next s')) ∧
    (s.handsOn 0x13 f rest → (∀ e, (s.cell f.source).inFlight = some e → ∀ tool slot,
        e.payload = .withdraw (f.field 0 1) tool slot → f.field 0 1 = 255 ∧ tool ≠ f.field 1 2) →
      exec .withdrawn s = .next s') ∧
    (s.handsOn 0x17 f rest → (∀ e, (s.cell f.source).inFlight = some e → e.payload ≠ .poll) →
      exec .present s = .next s') := by
  have cell : s'.cell f.source = s.cell f.source := by rw [left]; rfl
  have alone (unformed : s.order.formedNow = []) : s'.order.formedNow = [] := by rw [left]; exact unformed
  refine ⟨fun other => ?_, fun hands other => ?_, fun hands other => ?_⟩
  · have missed := State.offerInFlight_of_none (s := s') (by rw [cell]; exact other)
    have notMissed : ¬ s'.offerInFlight f.source (f.field 0 1) = true := by rw [missed]; decide
    exact ⟨fun hands => State.handOn_alone (take := State.takeDataTaken) hands left (if_neg notMissed) (alone hands.2.2),
      fun hands => State.handOn_alone (take := State.takeDataRefused) hands left (if_neg notMissed) (alone hands.2.2)⟩
  · have missed := State.withdrawInFlight_of_none (s := s') (by rw [cell]; exact other)
    have notMissed : ¬ s'.withdrawInFlight f.source (f.field 0 1) (f.field 1 2) = true := by rw [missed]; decide
    exact State.handOn_alone (take := State.takeWithdrawn) hands left (if_neg notMissed) (alone hands.2.2)
  · refine State.handOn_alone (take := State.takePresent) hands left (if_neg fun polls => ?_) (alone hands.2.2)
    unfold State.flying at polls
    rw [cell] at polls
    obtain ⟨e, flies, payload⟩ := Option.map_eq_some_iff.mp polls
    exact other e flies payload

/-! ## DATA_TAKEN -/

theorem exec_dataTaken_opens (left : s' = { s with link := { s.link with rx := rest } })
    (isLowered : lowered = if (s.cell f.source).standing = .cutOff then (s.cell f.source).faultCount
      else (s.cell f.source).faultCount - 1) (answers : s.OfferAnswered f e id i x) (hands : s.handsOn 0x11 f rest)
    (keeps : x.cancelPending = false) (permits : (s.attributeOf x.pocket).permits .issuePick = true)
    (free : (s.pocket x.pocket).claim = none) (stocked : (s.pocket x.pocket).stocked = true)
    (budget : s.budgetCount < s.crib.lockBudget) : ∃ num t, exec .dataTaken s = .next t ∧
      (t.issueRec i).issue = some
        { x with
          tries := e.triesUsed, deferrals := e.deferrals, offer := .taken, phase := .unlockWait
          request := some num } ∧
      t.pocket x.pocket = { s.pocket x.pocket with
        lock := .opening, confirm := some 250, claim := some num, stamp := s.clock } ∧
      (t.cell f.source).faultCount = lowered := by
  have answered : s.AnsweredBy f.source (s'.afterAnswer f.source) := State.answeredBy_received left
  have done := exec_dataTaken_matched hands left answers
  obtain ⟨num, issue, pocket, link, order⟩ := answered.opens (e := { e with acknowledged := true, window := none })
    (answer := f.payload) answers.isOpen keeps permits free stocked budget
  generalize (s'.afterAnswer f.source).offerEnded i { e with acknowledged := true, window := none } (.answered f.payload) = t
    at done issue pocket link order
  rw [State.settle_of_none (by rw [order]; exact answered.only.formedNow.trans hands.2.2)] at done
  refine ⟨num, t, done, issue, pocket, ?_⟩
  rw [isLowered, ← answered.faultCount, State.cell, link]
  rfl

theorem exec_dataTaken_withdraws (left : s' = { s with link := { s.link with rx := rest } })
    (isLowered : lowered = if (s.cell f.source).standing = .cutOff then (s.cell f.source).faultCount
      else (s.cell f.source).faultCount - 1) (answers : s.OfferAnswered f e id i x) (hands : s.handsOn 0x11 f rest)
    (isCell : x.cell = f.source) (full : (s.cell f.source).queue.length ≤ 16)
    (standing : (s.cell f.source).standing ≠ .cutOff) (low : (s.cell f.source).faultCount ≤ 256) (why : Status)
    (fails : (x.cancelPending = true ∧ why = .cancelled) ∨
      (x.cancelPending = false ∧
        (((s.attributeOf x.pocket).permits .issuePick = false ∧ why = .drawerClosed) ∨
          ((s.attributeOf x.pocket).permits .issuePick = true ∧ why = .notStocked ∧
            ((s.pocket x.pocket).claim.isSome = true ∨ (s.pocket x.pocket).stocked = false)) ∨
          ((s.attributeOf x.pocket).permits .issuePick = true ∧ (s.pocket x.pocket).claim = none ∧
            (s.pocket x.pocket).stocked = true ∧ s.crib.lockBudget ≤ s.budgetCount ∧ 16 ≤ s.queuedCount ∧
            why = .cribBusy)))) :
    ∃ t, exec .dataTaken s = .next t ∧ t.crib = s.crib ∧ (t.cell f.source).faultCount = lowered ∧
      (t.issueRec i).issue = some
        { x with
          tries := e.triesUsed, deferrals := e.deferrals, offer := .taken, phase := .withdrawing, request := none
          failure := some (x.failure.getD why) } := by
  have answered : s.AnsweredBy f.source (s'.afterAnswer f.source) := State.answeredBy_received left
  have done := exec_dataTaken_matched hands left answers
  obtain ⟨t, isT, crib, count, alone, issue⟩ := answered.withdraws (answer := f.payload)
    (d := { e with acknowledged := true, window := none }) answers.flies answers.isOpen isCell full standing low fails
  rw [isT, State.settle_of_none (alone.trans hands.2.2)] at done
  exact ⟨t, done, crib, count.trans (answered.faultCount.trans isLowered.symm), issue⟩

/-! ## DATA_REFUSED with NOT_NOW -/

theorem exec_dataRefused_deferred (left : s' = { s with link := { s.link with rx := rest } })
    (isLowered : lowered = if (s.cell f.source).standing = .cutOff then (s.cell f.source).faultCount
      else (s.cell f.source).faultCount - 1) (answers : s.OfferAnswered f e id i x) (hands : s.handsOn 0x12 f rest)
    (notNow : f.field 1 1 = 3) (few : e.deferrals < 8) :
    (x.cancelPending = false → ∃ t, exec .dataRefused s = .next t ∧
      (t.issueRec i).issue = some { x with deferrals := e.deferrals + 1 } ∧
      { e with
        acknowledged := true, triesUsed := e.triesUsed - 1, deferrals := e.deferrals + 1, step := .deferred
        buffer := none, window := none, deferralTimer := some s.link.deferralDelay } ∈ (t.cell f.source).queue ∧
      (t.cell f.source).faultCount = lowered ∧ t.crib = s.crib) ∧
    (x.cancelPending = true → x.cell = f.source → (s.cell f.source).queue.length < 16 →
      (s.cell f.source).standing ≠ .cutOff → (s.cell f.source).faultCount ≤ 256 → ∃ t, exec .dataRefused s = .next t ∧
      (t.issueRec i).issue = some
        { x with
          deferrals := e.deferrals + 1, offer := .unknown, phase := .withdrawing, request := none
          failure := some (x.failure.getD .cancelled) } ∧
      (t.cell f.source).faultCount = lowered ∧ t.crib = s.crib) := by
  have done := exec_dataRefused_defers hands left answers notNow few
  have cell' : s'.cell f.source = s.cell f.source := by rw [left]; rfl
  have only : s.LinkOnly (s'.afterDeferral f.source e) := .trans (.of_link (by rw [left])) State.afterDeferral_linkOnly
  have stands := State.deferred_mem (s := s') (c := f.source) (e := e) (by rw [cell']; exact answers.flies)
  have isDeferred : s'.deferred e = s.deferred e := by rw [left]; rfl
  have cell := State.cell_afterDeferral (s := s') (c := f.source) (e := e)
  have length := State.length_afterDeferral (s := s') (c := f.source) (e := e)
  rw [cell'] at cell length
  rw [isDeferred] at done stands
  generalize s'.afterDeferral f.source e = v at done only stands cell length
  have isOpen : (v.issueRec i).issue = some x := by rw [only.issueRec, answers.isOpen]
  have count : (v.cell f.source).faultCount = lowered := by
    rw [cell, isLowered]
    exact Cell.faultCount_succeeded _
  refine ⟨fun keeps => ?_, fun pending isCell room standing low => ?_⟩
  · rw [State.offerDeferred_of_kept isOpen keeps, State.settle_of_none
      (s := State.modIssue ..) (only.formedNow.trans hands.2.2)] at done
    exact ⟨_, done, State.issue_modIssue _ isOpen, stands, count, only.crib⟩
  · have good : (v.cell f.source).standing ≠ .cutOff := by
      rw [cell]
      exact Cell.standing_succeeded standing low
    obtain ⟨t, isT, issue, counts, crib, order⟩ := State.offerDeferred_of_pending (e := s.deferred e) isOpen pending
      (by rw [isCell, length]; exact room) (by rw [isCell]; exact good)
    rw [isT, State.settle_of_none (by rw [order]; exact only.formedNow.trans hands.2.2)] at done
    rw [isCell] at counts
    exact ⟨t, done, issue, counts.trans count, crib.trans only.crib⟩

/-! ## WITHDRAWN and PRESENT -/

theorem exec_withdrawn_matched (hands : s.handsOn 0x13 f rest) (left : s' = { s with link := { s.link with rx := rest } })
    (flies : (s.cell f.source).inFlight = some e) (payload : e.payload = .withdraw id tool slot) (named : f.field 0 1 = id)
    (broad : id = 255 → f.field 1 2 = tool) : exec .withdrawn s = .next (State.settle
      ((s'.afterAnswer f.source).exchangeEnded f.source { e with acknowledged := true, window := none }
        (.answered f.payload))) := by
  have flies' : (s'.cell f.source).inFlight = some e := by rw [left]; exact flies
  refine State.handOn_settled (take := State.takeWithdrawn) hands left ?_
  unfold State.takeWithdrawn
  rw [named, State.withdrawInFlight_of_some flies' payload broad, if_pos rfl, State.deliver_answerEnds flies']

/-- WITHDRAWN of an issue (R142). -/
theorem exec_withdrawn_issue (hands : s.handsOn 0x13 f rest) (left : s' = { s with link := { s.link with rx := rest } })
    (isLowered : lowered = if (s.cell f.source).standing = .cutOff then (s.cell f.source).faultCount
      else (s.cell f.source).faultCount - 1)
    (flies : (s.cell f.source).inFlight = some e) (payload : e.payload = .withdraw id tool slot) (named : f.field 0 1 = id)
    (broad : id = 255 → f.field 1 2 = tool) (owner : e.owner = .issue id) (index : s.openIndex id = some i)
    (isOpen : (s.issueRec i).issue = some x) : ∃ t, exec .withdrawn s = .next t ∧ (t.issueRec i).issue = none ∧
      t.crib = s.crib ∧ (t.cell f.source).faultCount = lowered ∧
      ∀ n, x.origin = .order n → s.working n (.issue id) → t.formedStatus n = some (x.failure.getD .cancelled) := by
  have answered : s.AnsweredBy f.source (s'.afterAnswer f.source) := State.answeredBy_received left
  have done := exec_withdrawn_matched hands left flies payload named broad
  rw [State.exchangeEnded_withdraw (e := { e with acknowledged := true, window := none }) payload owner
    (by rw [answered.only.openIndex, index])] at done
  obtain ⟨t, isT, issue, crib, count, formed⟩ := answered.closes (id := id) (x := x) (st := .cancelled) (w := .confirmed)
    (u := s'.afterAnswer f.source) rfl (answered.isOpen isOpen) rfl rfl
  change exec .withdrawn s = .next (State.settle ((s'.afterAnswer f.source).closeFailed i .cancelled .confirmed)) at done
  rw [isT] at done
  exact ⟨t.settle, done, issue, crib, count.trans (answered.faultCount.trans isLowered.symm), formed⟩

theorem State.returnStep_of_none {n : SlotNo} {r : ReturnCtx} (none : r.outcome = none) :
    s.returnStep n r = s.setWork n (.returning r) := by
  unfold State.returnStep
  rw [none]

theorem State.returnStep_of_some {n : SlotNo} {r : ReturnCtx} {outcome : MoveOutcome} (moved : r.outcome = some outcome)
    (settled : r.withdraw ≠ .pending) : s.returnStep n r = s.complete n (insertionStatus outcome) (returnResult r) := by
  unfold State.returnStep
  rw [moved]
  exact if_neg settled

/-- WITHDRAWN of a RETURN (R160). -/
theorem exec_withdrawn_return {n : SlotNo} {r : ReturnCtx} (hands : s.handsOn 0x13 f rest)
    (left : s' = { s with link := { s.link with rx := rest } })
    (isLowered : lowered = if (s.cell f.source).standing = .cutOff then (s.cell f.source).faultCount
      else (s.cell f.source).faultCount - 1)
    (flies : (s.cell f.source).inFlight = some e) (payload : e.payload = .withdraw id tool slot) (named : f.field 0 1 = id)
    (broad : id = 255 → f.field 1 2 = tool) (owner : e.owner = .slot n) (works : s.working n (.returning r)) :
    ∃ t, exec .withdrawn s = .next t ∧ t.crib = s.crib ∧ t.tools = s.tools ∧ (t.cell f.source).faultCount = lowered ∧
      (r.outcome = none →
        t.work n = .returning { r with tries := e.triesUsed, acknowledged := true, withdraw := .confirmed }) ∧
      ∀ outcome, r.outcome = some outcome → t.formedStatus n = some (insertionStatus outcome) := by
  have answered : s.AnsweredBy f.source (s'.afterAnswer f.source) := State.answeredBy_received left
  have done := exec_withdrawn_matched hands left flies payload named broad
  have works' := answered.only.working works
  rw [State.exchangeEnded_return (e := { e with acknowledged := true, window := none }) payload owner
    (State.work_of_working works')] at done
  have only := answered.only
  have counts := answered.faultCount
  rw [← isLowered] at counts
  generalize s'.afterAnswer f.source = v at done works' only counts
  obtain ⟨⟨c, context, work, unfinished⟩, alone⟩ := works'
  change exec .withdrawn s = .next (State.settle (v.returnStep n
    { r with tries := e.triesUsed, acknowledged := true, withdraw := .confirmed })) at done
  have frame := State.returnStep_frame n { r with tries := e.triesUsed, acknowledged := true, withdraw := .confirmed } v
  obtain ⟨-, tools, crib, -, -, link, -⟩ := frame
  refine ⟨_, done, crib.trans only.crib, tools.trans only.tools, ?_, fun noMove => ?_, fun outcome moved => ?_⟩
  · rw [← counts]
    exact congrArg (fun l : Link => (l.cells.get f.source).faultCount) link
  · rw [State.returnStep_of_none (r := { r with tries := e.triesUsed, acknowledged := true, withdraw := .confirmed }) noMove]
    exact State.work_setWork context _
  · rw [State.returnStep_of_some (r := { r with tries := e.triesUsed, acknowledged := true, withdraw := .confirmed }) moved
      (show WithdrawStatus.confirmed ≠ .pending by decide)]
    exact State.formedStatus_complete _ _ context unfinished

/-- PRESENT of a POLL (R98, R114, R118). -/
theorem exec_present_matched (hands : s.handsOn 0x17 f rest) (left : s' = { s with link := { s.link with rx := rest } })
    (flies : (s.cell f.source).inFlight = some e) (polls : e.payload = .poll) :
    exec .present s = .next ((s'.countPresent f.source).afterAnswer f.source) := by
  have flies' : (s'.cell f.source).inFlight = some e := by rw [left]; exact flies
  have flies'' : ((s'.countPresent f.source).cell f.source).inFlight = some e := by
    rw [Cell.inFlight, State.queue_countPresent]
    exact flies'
  have only : s.LinkOnly ((s'.countPresent f.source).afterAnswer f.source) :=
    .trans (.of_link (by rw [left])) (.trans State.countPresent_linkOnly State.afterAnswer_linkOnly)
  refine State.handOn_alone (take := State.takePresent) hands left ?_ (only.formedNow.trans hands.2.2)
  unfold State.takePresent
  rw [State.flying_eq_some flies', polls, if_pos rfl, State.deliver_answerEnds flies'']
  exact State.exchangeEnded_poll polls

end

/-- Settles O52: answers that match nothing, the outcomes of an offer, of a withdraw and of a poll. -/
theorem answersMatched : Obligations.AnswersMatched := by
  unfold Obligations.AnswersMatched
  intro f rest s s' c lowered left isCell isLowered
  subst isCell
  obtain ⟨offers, withdraws, polls⟩ := exec_answers_unmatched (f := f) left
  refine ⟨offers, withdraws, polls, ?_, ?_, ?_⟩
  · intro e id i x tool slot length radius remaining unit flies payload owner named index isOpen
    have answers : s.OfferAnswered f e id i x :=
      ⟨flies, ⟨tool, slot, length, radius, remaining, unit, payload⟩, owner, named, index, isOpen⟩
    exact ⟨exec_dataTaken_opens left isLowered answers, exec_dataTaken_withdraws left isLowered answers,
      exec_dataRefused_deferred left isLowered answers,
      fun hands ends => exec_dataRefused_ends hands left answers ends isLowered⟩
  · intro e id tool slot hands flies payload named broad
    exact ⟨fun i x owner index isOpen =>
        exec_withdrawn_issue hands left isLowered flies payload named broad owner index isOpen,
      fun n r owner works => exec_withdrawn_return hands left isLowered flies payload named broad owner works⟩
  · intro e hands flies payload
    have only : s.LinkOnly ((s'.countPresent f.source).afterAnswer f.source) :=
      .trans (.of_link (by rw [left])) (.trans State.countPresent_linkOnly State.afterAnswer_linkOnly)
    have cell : s'.cell f.source = s.cell f.source := by rw [left]; rfl
    obtain ⟨recovers, counts, lowers, rises, stays⟩ := (State.presentTaken (s := s') (c := f.source)).congr (s := s) cell
      (by rw [left]) (by rw [left])
    refine ⟨_, exec_present_matched hands left flies payload, only.crib, only.tools, only.issues, ?_, fun report isReport => ?_⟩
    · rw [State.length_afterAnswer, State.queue_countPresent, cell]
    subst isReport
    refine ⟨recovers, fun cut few => ?_, fun standing low => ?_, fun weak low => ?_, stays⟩
    · rw [isLowered, if_pos cut]
      exact counts cut few
    · rw [isLowered, if_neg standing]
      exact lowers standing low
    · rw [isLowered, if_neg (by rw [weak]; decide)]
      exact rises weak low

end Sys2Proof.Machine
end

section
/-! The end of a measure cycle by a fault, as its owner takes it (R59, R60, R65, R71, R72, R75). -/

namespace Sys2Proof.Machine

/-! ## The outcome of a cycle (R57, R59) -/

/-- The outcome of a cycle that a fault ends: no captures in SEAT. -/
def Presetter.ends (p : Presetter) (fault : Status) : CycleOutcome :=
  { fault := some fault, zCaptures := p.captured.1, xCaptures := p.captured.2, means := none, axes := p.axes }

section
variable {s u : State} {c : Cycle} {fault : Status} {n : SlotNo}

theorem State.working_of_slots {w : Work} (slots : u.order.slots = s.order.slots)
    (formedNow : u.order.formedNow = s.order.formedNow) (works : s.working n w) : u.working n w := by
  obtain ⟨held, alone⟩ := works
  refine ⟨?_, formedNow.trans alone⟩
  rw [State.slot, slots]
  exact held

theorem State.faultCycle_of_none (idle : s.presetter.cycle = none) : s.faultCycle fault = s := by
  unfold State.faultCycle
  rw [idle]

/-- The cycle made IDLE. -/
def State.idled (s : State) : State := s.modPresetter fun p => { p with cycle := none }

theorem State.faultCycle_of_some (cycle : s.presetter.cycle = some c) :
    s.faultCycle fault = s.idled.deliverCycle c.owner (s.presetter.ends fault) := by
  unfold State.faultCycle
  rw [cycle]
  rfl

theorem Presetter.captured_of_seat {p : Presetter} (cycle : p.cycle = some c) (seat : c.state = .seat) :
    p.captured = ([], []) := by
  unfold Presetter.captured
  rw [cycle]
  exact if_pos (by simp [seat])

theorem Presetter.captured_eq {p : Presetter} (cycle : p.cycle = some c) : p.captured =
    (if c.state = .seat then [] else p.z.captures, if c.state = .seat then [] else p.x.captures) := by
  unfold Presetter.captured
  rw [cycle]
  simp only [Option.any_some, beq_iff_eq]
  split <;> rfl

theorem Presetter.faulted_eq {p : Presetter} (cycle : p.cycle = some c) (touch : c.state = .touch) :
    p.faulted fault = p.ends fault := by
  rw [Presetter.faulted, Presetter.ends, Presetter.captured_of_touch cycle touch]

theorem State.enforceLimits_eq (cycle : s.presetter.cycle = some c) (touch : c.state = .touch)
    (beyond : ∃ a, (s.axis a).softLimit ≤ (s.axis a).counter.toNat) :
    s.enforceLimits = s.idled.deliverCycle c.owner (s.presetter.ends .overtravel) := by
  rw [State.enforceLimits_of_beyond cycle touch (State.beyondLimit_iff.mpr beyond), Presetter.faulted_eq cycle touch]
  rfl

/-! ## CALIBRATE (R65) -/

theorem calibrateRecord_of_fault {o : CycleOutcome} (noMeans : o.means = none) : calibrateRecord o none =
    le 1 0 ++ captureBytes o.zCaptures ++ captureBytes o.xCaptures ++ List.replicate 26 0 ++ o.axes.bytes := by
  have empty : meansBytes none ++ optField 10 none = List.replicate 26 0 := rfl
  have nothing : le 1 (presence [o.means.isSome, (none : Option Reference).isSome]) = le 1 0 := by rw [noMeans]; rfl
  unfold calibrateRecord
  rw [nothing, noMeans, ← empty]
  simp only [List.append_assoc, Option.map_none]

/-- A CALIBRATE whose cycle a fault ends. -/
theorem State.settle_calibrate_ends {ml mr : Nat} (cycle : s.presetter.cycle = some c)
    (works : s.working c.owner (.calibrate ml mr)) :
    (s.idled.deliverCycle c.owner (s.presetter.ends fault)).settle = s.calibrateFailed c fault := by
  have works' : s.idled.working c.owner (.calibrate ml mr) := works
  rw [State.deliverCycle_of_calibrate (State.work_of_working works')]
  change State.settle (s.idled.completeWith c.owner fault (le 2 (calibrateRecord (s.presetter.ends fault) none).length)
    (calibrateRecord (s.presetter.ends fault) none)) = _
  rw [State.settle_completeWith_of_working works', calibrateRecord_of_fault rfl, Presetter.ends,
    Presetter.captured_eq cycle]
  rfl

/-! ## MEASURE (R71, R72, R75) -/

/-- A MEASURE that ended, its claim released (R71). -/
structure State.MeasureEnded (s : State) (n : SlotNo) (m : MeasureCtx) (st : Status) (t : State) : Prop where
  status : t.formedStatus n = some st
  presetter : t.presetter = s.presetter
  crib : t.crib = s.crib
  reports : t.reports = s.reports
  tools : t.tools = (s.modTool m.tool (measureRelease m)).tools

variable {m : MeasureCtx} {w : Work} {t : State}

theorem State.measureEnded_finishMeasure {o : MeasureCtx} (works : s.working n w) (same : o.tool = m.tool)
    (release : measureRelease o = measureRelease m) : s.MeasureEnded n m fault (s.finishMeasure n o fault).settle := by
  obtain ⟨⟨c, context, -, unfinished⟩, -⟩ := works
  obtain ⟨-, crib, presetter, -, -, reports, -⟩ := State.finishMeasure_frame n o fault s
  refine ⟨State.formedStatus_finishMeasure fault context unfinished o, presetter, crib, reports, ?_⟩
  rw [← same, ← release]
  exact State.tools_completeWith ..

/-- The tool of a MEASURE that ends before its evaluation has its state before the claim (R71). -/
theorem State.MeasureEnded.released {x : Tool} (ended : s.MeasureEnded n m fault t) (found : s.findTool m.tool = some x)
    (unjudged : m.evaluation = none) (held : x.stateBefore ≠ some .astray)
    (ready : x.before = .ready → x.meetsReady = true) :
    t.findTool m.tool = some { x with claim := none, stateBefore := none, state := x.before } := by
  have released := State.findTool_releaseBack found
  rw [State.findTool, ended.tools, State.modTool_measureRelease_of_none unjudged]
  refine released.trans (congrArg some ?_)
  rw [Tool.release_eq (fun both => held both.2) rfl, if_neg]
  rintro ⟨isReady, fails⟩
  exact absurd ((ready isReady).symm.trans fails) (by decide)

theorem Tool.held_of_before {x : Tool} (other : x.before ≠ .astray) : x.stateBefore ≠ some .astray := by
  intro astray
  rw [Tool.before, astray] at other
  exact other rfl

/-- A MEASURE in SEATING or TOUCHING whose cycle a fault ends (R72, R75). -/
theorem State.measure_ends (works : s.working n (.measure m)) (phase : m.phase = .seating ∨ m.phase = .touching) :
    s.idled.MeasureEnded n m fault (s.idled.deliverCycle n (s.presetter.ends fault)).settle := by
  have works' : s.idled.working n (.measure m) := works
  rw [State.deliverCycle_of_measure (State.work_of_working works')]
  have ends : s.idled.measureCycleOutcome n m (s.presetter.ends fault) =
      s.idled.finishMeasure n { m with outcome := some (s.presetter.ends fault) } fault := by
    unfold State.measureCycleOutcome
    rcases phase with phase | phase <;> rw [phase] <;> rfl
  rw [ends]
  exact State.measureEnded_finishMeasure works' rfl rfl

/-- A MEASURE that gives up its fetch: the request cancelled, the order ended (R43, R73). -/
theorem State.abandonFetch_of_live {num : Nat} {r : Request} (works : s.working n w) (fetch : m.fetch = some num)
    (found : s.findRequest num = some r) (live : r.state = .queued ∨ r.state = .opening ∨ r.state = .opened) :
    ∃ v : State, s.StoppedBy r v ∧ v = { s with crib := v.crib } ∧ v.MeasureEnded n m fault (s.abandonFetch n m fault).settle := by
  obtain ⟨v, cancelled, stops, only⟩ := State.cancelRequest_of_live found live
  have ends : s.abandonFetch n m fault =
      v.finishMeasure n { m with pendingStatus := some fault, fetch := none, fetchOutcome := some .cancelled } fault := by
    unfold State.abandonFetch
    dsimp only
    rw [fetch]
    dsimp only
    rw [cancelled]
  rw [ends]
  exact ⟨v, stops, only, State.measureEnded_finishMeasure (State.working_congr (by rw [only]) works) rfl rfl⟩

/-- The outcome of a cycle is no matter of the release. -/
theorem State.MeasureEnded.of_outcome {o : Option CycleOutcome} (ended : s.MeasureEnded n { m with outcome := o } fault t) :
    s.MeasureEnded n m fault t :=
  ⟨ended.status, ended.presetter, ended.crib, ended.reports, ended.tools⟩

/-- A MEASURE in FETCHING whose cycle a fault ends: its request is cancelled (R72, R73). -/
theorem State.measure_ends_fetching {num : Nat} {r : Request} (works : s.working n (.measure m)) (phase : m.phase = .fetching)
    (goesOn : m.pendingStatus = none) (fetch : m.fetch = some num) (found : s.findRequest num = some r)
    (live : r.state = .queued ∨ r.state = .opening ∨ r.state = .opened) : ∃ v : State, s.idled.StoppedBy r v ∧
      v = { s.idled with crib := v.crib } ∧
      v.MeasureEnded n m fault (s.idled.deliverCycle n (s.presetter.ends fault)).settle := by
  have works' : s.idled.working n (.measure m) := works
  have ends : s.idled.measureCycleOutcome n m (s.presetter.ends fault) =
      s.idled.abandonFetch n { m with outcome := some (s.presetter.ends fault) } fault := by
    unfold State.measureCycleOutcome
    rw [phase]
    exact if_neg (by simp [goesOn])
  obtain ⟨v, stops, only, ended⟩ := State.abandonFetch_of_live (fault := fault)
    (m := { m with outcome := some (s.presetter.ends fault) }) works' fetch found live
  rw [State.deliverCycle_of_measure (State.work_of_working works'), ends]
  exact ⟨v, stops, only, ended.of_outcome⟩

end

end Sys2Proof.Machine
end

section
/-! TOUCH_EDGE (R56, R57, R61, R65, R76 to R78). -/

namespace Sys2Proof.Machine

/-! ## Means and spreads (R61) -/

theorem foldl_max_eq {captures : List Nat} {hi base : Nat} (reached : base = hi ∨ hi ∈ captures)
    (below : ∀ v ∈ captures, v ≤ hi) (low : base ≤ hi) : captures.foldl max base = hi := by
  induction captures generalizing base with
  | nil => exact reached.resolve_right nofun
  | cons v captures ih =>
    have bound := below v List.mem_cons_self
    refine ih ?_ (fun w isIn => below w (List.mem_cons_of_mem _ isIn)) (Nat.max_le.mpr ⟨low, bound⟩)
    rcases reached with rfl | isIn
    · exact .inl (Nat.max_eq_left bound)
    · rcases List.mem_cons.mp isIn with rfl | isIn
      · exact .inl (Nat.max_eq_right low)
      · exact .inr isIn

theorem spreadOf_eq {captures : List Nat} {lo hi : Nat} (lowest : lo ∈ captures) (highest : hi ∈ captures)
    (between : ∀ v ∈ captures, lo ≤ v ∧ v ≤ hi) : spreadOf captures = hi - lo := by
  have max := foldl_max_eq (base := 0) (.inr highest) (fun v isIn => (between v isIn).2) (Nat.zero_le _)
  have min : captures.min? = some lo := List.min?_eq_some_iff.mpr ⟨lowest, fun v isIn => (between v isIn).1⟩
  rw [spreadOf, max, min]
  rfl

/-! ## The cycle evaluated (R61) -/

section
variable {s u : State} {c : Cycle} {a : Axis} {means : Means}

theorem execTouchEdge_of_ignored
    (ignored : (∀ c, s.presetter.cycle = some c → c.state ≠ .touch) ∨ (s.axis a).bounce.isSome = true) :
    exec (.touchEdge a) s = .next s := by
  change execTouchEdge a s = _
  unfold execTouchEdge
  cases cycle : s.presetter.cycle with
  | none => rfl
  | some c =>
    refine if_neg fun ⟨touch, free⟩ => ?_
    rcases ignored with other | barred
    · exact other c cycle touch
    · rw [free] at barred
      cases barred

theorem execTouchEdge_of_accepted (cycle : s.presetter.cycle = some c) (touch : c.state = .touch)
    (free : (s.axis a).bounce = none) (isU : u = s.modAxis a (AxisRec.touch c.touches)) :
    exec (.touchEdge a) s = .next u.evaluateIfComplete.settle := by
  subst isU
  change execTouchEdge a s = _
  unfold execTouchEdge
  rw [cycle]
  exact if_pos ⟨touch, free⟩

theorem State.cycle_modAxis (f : AxisRec → AxisRec) : (s.modAxis a f).presetter.cycle = s.presetter.cycle := by
  cases a <;> rfl

theorem State.order_modAxis (f : AxisRec → AxisRec) : (s.modAxis a f).order = s.order := by
  cases a <;> rfl

theorem State.evaluateIfComplete_of_short (cycle : u.presetter.cycle = some c)
    (short : u.presetter.z.captures.length ≠ c.touches ∨ u.presetter.x.captures.length ≠ c.touches) :
    u.evaluateIfComplete = u := by
  unfold State.evaluateIfComplete State.evaluateCycle
  rw [cycle]
  dsimp only
  rw [if_neg fun ⟨_, z, x⟩ => short.elim (· z) (· x)]

/-- The outcome of a cycle that is complete (R61). -/
def Presetter.completed (p : Presetter) (c : Cycle) (means : Means) : CycleOutcome :=
  { fault := if c.spreadLimit < means.zSpread ∨ c.spreadLimit < means.xSpread then some .spread else none
    zCaptures := p.z.captures, xCaptures := p.x.captures, means := some means, axes := p.axes }

theorem State.evaluateIfComplete_of_full (cycle : u.presetter.cycle = some c) (touch : c.state = .touch)
    (z : u.presetter.z.captures.length = c.touches) (x : u.presetter.x.captures.length = c.touches)
    (isMeans : means = u.presetter.means c.touches) :
    u.evaluateIfComplete = u.idled.deliverCycle c.owner (u.presetter.completed c means) := by
  subst isMeans
  unfold State.evaluateIfComplete State.evaluateCycle State.endCycle
  rw [cycle]
  dsimp only
  rw [if_pos ⟨touch, z, x⟩, Presetter.captured_of_touch cycle touch]
  rfl

/-! ## The owner of a complete cycle (R65, R76 to R78) -/

theorem State.calibrate_spread {ml mr : Nat} (works : s.working c.owner (.calibrate ml mr))
    (wide : c.spreadLimit < means.zSpread ∨ c.spreadLimit < means.xSpread) :
    (s.idled.deliverCycle c.owner (s.presetter.completed c means)).settle = State.ended c.owner .spread
      (le 2 (calibrateRecord (s.presetter.completed c means) none).length)
      (calibrateRecord (s.presetter.completed c means) none) s.idled := by
  have works' : s.idled.working c.owner (.calibrate ml mr) := works
  have fault : (s.presetter.completed c means).fault = some .spread := if_pos wide
  rw [State.deliverCycle_of_calibrate (State.work_of_working works'),
    ← State.settle_completeWith_of_working works']
  unfold State.calibrateOutcome
  rw [fault]
  rfl

theorem State.calibrate_stores {ml mr : Nat} (works : s.working c.owner (.calibrate ml mr))
    (narrow : ¬ (c.spreadLimit < means.zSpread ∨ c.spreadLimit < means.xSpread)) {ref : Reference}
    (isRef : ref =
      { refZ := (means.zMean : Int) - ml, refX := (means.xMean : Int) - mr
        generation := if 65535 ≤ s.presetter.generation then 1 else s.presetter.generation + 1
        uses := 0, stamp := s.clock }) :
    (s.idled.deliverCycle c.owner (s.presetter.completed c means)).settle = State.ended c.owner .ok
      (le 2 (calibrateRecord (s.presetter.completed c means) (some ref)).length)
      (calibrateRecord (s.presetter.completed c means) (some ref))
      { s with presetter := { s.presetter with cycle := none, generation := ref.generation, reference := some ref } } := by
  have works' : s.idled.working c.owner (.calibrate ml mr) := works
  have works'' : State.working { s with presetter :=
      { s.presetter with cycle := none, generation := ref.generation, reference := some ref } } c.owner (.calibrate ml mr) :=
    works
  have fault : (s.presetter.completed c means).fault = none := if_neg narrow
  rw [State.deliverCycle_of_calibrate (State.work_of_working works'), ← State.settle_completeWith_of_working works'']
  unfold State.calibrateOutcome
  rw [fault]
  subst isRef
  rfl

theorem State.measure_spread {m : MeasureCtx} (works : s.working c.owner (.measure m)) (phase : m.phase = .touching)
    (wide : c.spreadLimit < means.zSpread ∨ c.spreadLimit < means.xSpread) :
    s.idled.MeasureEnded c.owner m .spread (s.idled.deliverCycle c.owner (s.presetter.completed c means)).settle := by
  have works' : s.idled.working c.owner (.measure m) := works
  have fault : (s.presetter.completed c means).fault = some .spread := if_pos wide
  rw [State.deliverCycle_of_measure (State.work_of_working works')]
  have ends : s.idled.measureCycleOutcome c.owner m (s.presetter.completed c means) =
      s.idled.finishMeasure c.owner { m with outcome := some (s.presetter.completed c means) } .spread := by
    unfold State.measureCycleOutcome
    rw [phase, fault]
    rfl
  rw [ends]
  exact State.measureEnded_finishMeasure works' rfl rfl

end

end Sys2Proof.Machine
end

section
/-! A MEASURE evaluated (R76 to R78), and the touch edges put together. -/

namespace Sys2Proof.Machine

/-! ## The insertion that a MEASURE asks for (R78) -/

/-- A release that names another state than READY keeps the measurement (R9). -/
theorem Tool.measurement_release {named : ToolState} (other : named ≠ .ready) (isReturn : Bool) (loc : Location) (x : Tool) :
    (x.release isReturn named loc).geometry = x.geometry ∧ (x.release isReturn named loc).outOfTol = x.outOfTol := by
  by_cases back : isReturn = false ∧ x.stateBefore = some .astray
  · rw [Tool.release_astray back]
    exact ⟨rfl, rfl⟩
  · rw [Tool.release_eq back rfl, if_neg fun both => other both.1]
    exact ⟨rfl, rfl⟩

theorem number_measureRelease (m : MeasureCtx) (y : Tool) : (measureRelease m y).number = y.number := by
  unfold measureRelease
  split <;> exact Tool.number_release ..

section
variable {s : State} {n : SlotNo} {m : MeasureCtx} {y z : Tool} {r : Reference} {means : Means} {e : Evaluation}

/-- What an evaluated MEASURE leaves: its tool with the measurement, and the order under way in STORING or ended OK. -/
structure State.Evaluated (s : State) (n : SlotNo) (m : MeasureCtx) (z : Tool) (mv : Movement) (t : State) : Prop where
  tool : ∃ x, t.findTool m.tool = some x ∧ x.geometry = z.geometry ∧ x.outOfTol = z.outOfTol
  presetter : t.presetter = s.presetter
  storing : ∀ m', t.work n = .measure m' → m'.phase = .storing ∧ m'.storeMovement = some mv
  ended : (∀ m', t.work n ≠ .measure m') → t.formedStatus n = some .ok

theorem State.work_completeWith {c : Context} (context : (s.slot n).context = some c) (unfinished : c.output = none) (st : Status)
    (result buffer : List Byte) : (s.completeWith n st result buffer).work n = .idle := by
  refine State.work_of_context (c := c.formed ⟨st, s.clock, result, buffer⟩) ?_
  rw [State.slot_completeWith st result buffer context unfinished]

theorem State.evaluated_askStore {w : Work} (works : s.working n w) (found : s.findTool m.tool = some z)
    (judged : m.evaluation = some e) (verdict : e.verdict ≠ .ready) :
    s.Evaluated n m z (if e.verdict = .passed then .store else .returnPut) (s.askStore n m e.verdict).settle := by
  obtain ⟨⟨c, context, -, unfinished⟩, alone⟩ := works
  unfold State.askStore
  dsimp only
  generalize (if e.verdict = .passed then Movement.store else .returnPut) = mv
  cases asks : s.requestInsertion mv m.tool (.slot n) with
  | mk t answer =>
    cases answer with
    | made num p =>
      dsimp only
      obtain ⟨-, order, tools, presetter, -⟩ := State.requestInsertion_frame mv m.tool (.slot n) s
      rw [asks] at order tools presetter
      have context' : (t.slot n).context = some c := by rw [State.slot, order]; exact context
      generalize isM : ({ m with
        storeMovement := some mv, phase := .storing, store := some num, storeMade := some (num, p) } : MeasureCtx) = m''
      have work : (t.setWork n (.measure m'')).work n = .measure m'' := State.work_setWork context' _
      have phase : m''.phase = .storing ∧ m''.storeMovement = some mv := by rw [← isM]; exact ⟨rfl, rfl⟩
      refine ⟨⟨z, ?_, rfl, rfl⟩, ?_, fun m' is => ?_, fun none => absurd work (none m'')⟩
      · refine Eq.trans ?_ found
        unfold State.findTool
        exact congrArg (fun l : List Tool => l.find? fun x => x.number == m.tool) ((State.tools_setWork ..).trans tools)
      · exact ((State.setWork_frame ..).2.2.2.1).trans presetter
      · obtain rfl := Work.measure.inj (work.symm.trans is)
        exact phase
    | denied st =>
      dsimp only
      obtain rfl := State.eq_of_requestInsertion_denied asks
      generalize isM : ({ m with
        storeMovement := some mv, phase := .storing, storeResult := .notStored (refusedReason st) } : MeasureCtx) = m''
      have release : measureRelease m'' z = z.release false e.verdict z.location := by
        rw [← isM]
        unfold measureRelease
        dsimp only
        rw [judged]
      have sameTool : m''.tool = m.tool := by rw [← isM]
      have finished := State.measureEnded_finishMeasure (s := t) (n := n) (m := m'') (o := m'') (fault := .ok)
        ⟨⟨c, context, rfl, unfinished⟩, alone⟩ rfl rfl
      have working : (t.finishMeasure n m'' .ok).settle.work n = .idle :=
        State.work_completeWith (s := t.modTool m''.tool (measureRelease m'')) context unfinished _ _ _
      obtain ⟨geometry, outOfTol⟩ := Tool.measurement_release verdict false z.location z
      refine ⟨⟨measureRelease m'' z, ?_, ?_, ?_⟩, finished.presetter, fun m' is => ?_, fun _ => finished.status⟩
      · rw [State.findTool, finished.tools, sameTool]
        exact (State.modTool_of_found (number_measureRelease m'') found rfl).2.1
      · rw [release, geometry]
      · rw [release, outOfTol]
      · cases working.symm.trans is

/-- The measurement of a tool (R76, R77). -/
def Tool.measured (now : Stamp) (r : Reference) (means : Means) (y : Tool) : Tool :=
  y.withGeometry { length := (means.zMean : Int) - r.refZ, radius := (means.xMean : Int) - r.refX, stamp := now
                   generation := r.generation }

theorem evaluateTool_verdict (y : Tool) (r : Reference) (means : Means) : (evaluateTool y r means).verdict =
    if y.sizesPass ((means.zMean : Int) - r.refZ) ((means.xMean : Int) - r.refX) = true ∧ y.lifeUsed < y.lifeLimit then .passed
    else .quarantine := rfl

/-- A MEASURE whose cycle is complete (R76 to R78). -/
theorem State.evaluated_evaluateMeasure {w : Work} {o : CycleOutcome} (works : s.working n w)
    (found : s.findTool m.tool = some y) (present : s.presetter.reference = some r) :
    State.Evaluated { s with presetter := { s.presetter with reference := some { r with uses := min 256 (r.uses + 1) } } } n m
      (y.measured s.clock r means)
      (if (y.measured s.clock r means).outOfTol = false ∧ y.lifeUsed < y.lifeLimit then .store else .returnPut)
      (s.evaluateMeasure n m o means).settle := by
  generalize isE : evaluateTool y r means = e
  have becomes : s.evaluateMeasure n m o means =
      (s.storeMeasurement m.tool e).askStore n { m with outcome := some o, evaluation := some e } e.verdict := by
    unfold State.evaluateMeasure
    dsimp only
    rw [found, present, ← isE]
  have presetter : (s.storeMeasurement m.tool e).presetter =
      { s.presetter with reference := some { r with uses := min 256 (r.uses + 1) } } := by
    unfold State.storeMeasurement
    rw [← isE]
    change ({ s.presetter with reference := s.presetter.reference.map _ } : Presetter) = _
    rw [present]
    rfl
  have tool : (s.storeMeasurement m.tool e).findTool m.tool = some (y.measured s.clock r means) := by
    rw [← isE]
    exact (State.modTool_of_found (f := Tool.withGeometry _) (fun _ => rfl) found rfl).2.1
  have verdict : e.verdict = if (y.measured s.clock r means).outOfTol = false ∧ y.lifeUsed < y.lifeLimit then .passed
      else .quarantine := by
    rw [← isE, evaluateTool_verdict, Tool.measured, Tool.withGeometry]
    simp only [Bool.not_eq_false']
  have movement : (if e.verdict = .passed then Movement.store else .returnPut) =
      if (y.measured s.clock r means).outOfTol = false ∧ y.lifeUsed < y.lifeLimit then .store else .returnPut := by
    rw [verdict]
    split <;> rfl
  have notReady : e.verdict ≠ .ready := by
    rw [verdict]
    split <;> decide
  have works' : (s.storeMeasurement m.tool e).working n w := works
  obtain ⟨kept, sameParts, storing, ended⟩ := State.evaluated_askStore
    (m := { m with outcome := some o, evaluation := some e }) works' tool rfl notReady
  rw [movement] at storing
  rw [becomes]
  exact ⟨kept, sameParts.trans presetter, storing, ended⟩

end

end Sys2Proof.Machine
end

section
/-! The touch edges put together (R56, R57, R61). -/

namespace Sys2Proof.Machine

section
variable {s u : State} {a : Axis} {c : Cycle} {means : Means}

theorem exec_touchEdge_complete (cycle : s.presetter.cycle = some c) (touch : c.state = .touch)
    (free : (s.axis a).bounce = none) (isU : u = s.modAxis a (AxisRec.touch c.touches))
    (z : u.presetter.z.captures.length = c.touches) (x : u.presetter.x.captures.length = c.touches)
    (isMeans : means = u.presetter.means c.touches) : exec (.touchEdge a) s =
      .next (u.idled.deliverCycle c.owner (u.presetter.completed c means)).settle := by
  have cycleU : u.presetter.cycle = some c := by rw [isU, State.cycle_modAxis, cycle]
  rw [execTouchEdge_of_accepted cycle touch free isU, State.evaluateIfComplete_of_full cycleU touch z x isMeans]

/-- A MEASURE whose cycle completes within the spread limit (R76 to R78). -/
theorem State.measure_completes {m : MeasureCtx} {y : Tool} {r : Reference} (works : s.working c.owner (.measure m))
    (phase : m.phase = .touching) (found : s.findTool m.tool = some y) (present : s.presetter.reference = some r)
    (narrow : ¬ (c.spreadLimit < means.zSpread ∨ c.spreadLimit < means.xSpread)) :
    State.Evaluated
      { s with presetter := { s.presetter with cycle := none, reference := some { r with uses := min 256 (r.uses + 1) } } }
      c.owner m (y.measured s.clock r means)
      (if (y.measured s.clock r means).outOfTol = false ∧ y.lifeUsed < y.lifeLimit then .store else .returnPut)
      (s.idled.deliverCycle c.owner (s.presetter.completed c means)).settle := by
  have works' : s.idled.working c.owner (.measure m) := works
  have fault : (s.presetter.completed c means).fault = none := if_neg narrow
  have evaluates : s.idled.measureCycleOutcome c.owner m (s.presetter.completed c means) =
      s.idled.evaluateMeasure c.owner m (s.presetter.completed c means) means := by
    unfold State.measureCycleOutcome
    rw [phase, fault]
    rfl
  rw [State.deliverCycle_of_measure (State.work_of_working works'), evaluates]
  exact State.evaluated_evaluateMeasure works' found present

end

/-- Settles O46: the edges that are ignored, those that capture, and the cycle evaluated for a CALIBRATE and for a MEASURE. -/
theorem touchEdge : Obligations.TouchEdge := by
  unfold Obligations.TouchEdge
  refine ⟨fun captures touches lo hi => ⟨rfl, spreadOf_eq⟩, fun a s alone => ⟨execTouchEdge_of_ignored,
    fun c u cycle touch free isU => ?_⟩⟩
  replace isU : u = s.modAxis a (AxisRec.touch c.touches) := isU
  have order : u.order = s.order := by rw [isU, State.order_modAxis]
  have cycleU : u.presetter.cycle = some c := by rw [isU, State.cycle_modAxis, cycle]
  have worksU {w : Work} (works : s.working c.owner w) : u.working c.owner w := State.working_congr order works
  refine ⟨fun short => ?_, fun z x means isMeans => ?_⟩
  · rw [execTouchEdge_of_accepted cycle touch free isU, State.evaluateIfComplete_of_short cycleU short,
      State.settle_of_none (order ▸ alone)]
  have done := exec_touchEdge_complete cycle touch free isU z x isMeans
  refine ⟨fun ml mr works outcome isOutcome => ?_, fun m y r works phase found present => ?_⟩
  · replace isOutcome : outcome = u.presetter.completed c means := isOutcome
    subst isOutcome
    refine ⟨fun wide => ?_, fun zNarrow xNarrow ref isRef => ?_⟩
    · rw [State.calibrate_spread (worksU works) wide] at done
      exact done
    · have generation : u.presetter.generation = s.presetter.generation := by rw [isU]; cases a <;> rfl
      have clock : u.clock = s.clock := congrArg OrderBlock.clock order
      rw [State.calibrate_stores (worksU works) (by omega) (ref := ref) (by rw [isRef, generation, clock])] at done
      exact done
  · have foundU : u.findTool m.tool = some y := by rw [isU]; cases a <;> exact found
    have presentU : u.presetter.reference = some r := by rw [isU]; cases a <;> exact present
    refine ⟨fun wide => ?_, fun zNarrow xNarrow length radius isLength isRadius => ?_⟩
    · have ended := State.measure_spread (worksU works) phase wide
      exact ⟨_, done, ended.status, ended.presetter⟩
    · obtain ⟨⟨x, tool, geometry, outOfTol⟩, presetter, storing, ended⟩ :=
        State.measure_completes (means := means) (worksU works) phase foundU presentU (by omega)
      have clock : u.clock = s.clock := congrArg OrderBlock.clock order
      refine ⟨_, x, done, tool, ?_, ?_, presetter, fun m' is => ?_, ended⟩
      · rw [geometry, isLength, isRadius, ← clock]
        rfl
      · rw [outOfTol, isLength, isRadius]
        simp only [Tool.measured, Tool.withGeometry, Tool.sizesPass, decide_not, Bool.decide_and]
      · rw [outOfTol]
        exact storing m' is

end Sys2Proof.Machine
end

section
/-! The edges of SEATED and the windows of a cycle (R54, R55, R58 to R60, R72, R74). -/

namespace Sys2Proof.Machine

section
variable {s : State} {c : Cycle} {n : SlotNo}

theorem State.working_setWork {w v : Work} (works : s.working n w) : (s.setWork n v).working n v := by
  obtain ⟨⟨c, context, -, unfinished⟩, alone⟩ := works
  refine ⟨⟨{ c with work := v, long := true }, ?_, rfl, unfinished⟩, (State.formedNow_setWork _).trans alone⟩
  rw [State.setWork_of_context context]
  exact congrArg Slot.context ((State.slot_setSlot ..).trans (if_pos rfl))

/-! ## Where no cycle is concerned -/

theorem execSeatedRisingEdge_of_other (other : ∀ c, s.presetter.cycle = some c → c.state ≠ .seat) :
    exec .seatedRisingEdge s = .next { s with presetter := { s.presetter with seated := true } } ∧
      exec .seatWindowExpires s = .next s := by
  have notIn : ¬ s.cycleIn .seat = true := fun isIn =>
    have ⟨c, cycle, seat⟩ := State.cycleIn_iff.mp isIn
    other c cycle seat
  refine ⟨?_, if_neg notIn⟩
  change execSeatedRisingEdge s = _
  unfold execSeatedRisingEdge
  cases cycle : s.presetter.cycle with
  | none => rfl
  | some c => exact if_neg (other c cycle)

/-- SEATED fallen: the level, and a tool at PRESETTER made LOOSE (R55, R74). -/
def State.unseated (s : State) : State :=
  { s with
    presetter := { s.presetter with seated := false }
    tools := s.tools.map fun x => if x.location = .presetter then { x with location := .loose } else x }

theorem execSeatedFallingEdge_of_other (other : ∀ c, s.presetter.cycle = some c → c.state ≠ .touch) :
    exec .seatedFallingEdge s = .next s.unseated ∧ exec .touchWindowExpires s = .next s := by
  have notIn : ¬ s.cycleIn .touch = true := fun isIn =>
    have ⟨c, cycle, touch⟩ := State.cycleIn_iff.mp isIn
    other c cycle touch
  exact ⟨if_neg notIn, if_neg notIn⟩

/-! ## Where the edge or the window ends or moves the cycle -/

variable (cycle : s.presetter.cycle = some c)
include cycle

/-- SEATED risen in SEAT: the cycle in TOUCH, its lists empty (R58, R59). -/
def State.seatedNow (c : Cycle) (s : State) : State :=
  { s with presetter :=
    { s.presetter with
      seated := true, z := { s.presetter.z with captures := [], bounce := none }
      x := { s.presetter.x with captures := [], bounce := none }
      cycle := some { c with state := .touch, seatTimer := none, touchTimer := some (1000 * c.touchLength) } } }

theorem execSeatedRisingEdge_of_seat (seat : c.state = .seat) :
    exec .seatedRisingEdge s = .next ((s.seatedNow c).deliverSeated c.owner).enforceLimits.settle := by
  have entered : (s.modPresetter fun p => { p with seated := true }).modPresetter Presetter.enterTouch = s.seatedNow c := by
    unfold State.modPresetter Presetter.enterTouch State.seatedNow
    dsimp only
    rw [cycle]
    rfl
  change execSeatedRisingEdge s = _
  unfold execSeatedRisingEdge State.seatCycle
  rw [cycle]
  dsimp only
  rw [if_pos seat, entered]

theorem execSeatWindowExpires_of_seat (seat : c.state = .seat) : exec .seatWindowExpires s =
    .next (s.idled.deliverCycle c.owner (s.presetter.ends .seatTimeout)).settle := by
  rw [← State.faultCycle_of_some cycle]
  exact if_pos (State.cycleIn_iff.mpr ⟨c, cycle, seat⟩)

theorem execTouchWindowExpires_of_touch (touch : c.state = .touch) : exec .touchWindowExpires s =
    .next (s.idled.deliverCycle c.owner (s.presetter.ends .touchTimeout)).settle := by
  rw [← State.faultCycle_of_some cycle]
  exact if_pos (State.cycleIn_iff.mpr ⟨c, cycle, touch⟩)

theorem execSeatedFallingEdge_of_touch (touch : c.state = .touch) : exec .seatedFallingEdge s =
    .next (s.unseated.idled.deliverCycle c.owner (s.unseated.presetter.ends .seatLost)).settle := by
  rw [← State.faultCycle_of_some (s := s.unseated) cycle]
  exact if_pos (State.cycleIn_iff.mpr ⟨c, cycle, touch⟩)

end

/-! ## A CALIBRATE seated (R54, R59) -/

section
variable {s : State} {c : Cycle}

theorem State.deliverSeated_of_calibrate {n : SlotNo} {ml mr : Nat} (work : s.work n = .calibrate ml mr) :
    s.deliverSeated n = s := by
  unfold State.deliverSeated
  rw [work]

theorem State.deliverSeated_of_measure {n : SlotNo} {m : MeasureCtx} (work : s.work n = .measure m) :
    s.deliverSeated n = s.measureSeated n m := by
  unfold State.deliverSeated
  rw [work]

theorem State.enforceLimits_of_below {s : State} (below : ∀ a, (s.axis a).counter.toNat < (s.axis a).softLimit) :
    s.enforceLimits = s := by
  refine State.enforceLimits_of_within fun ⟨_, beyond⟩ => ?_
  obtain ⟨a, high⟩ := State.beyondLimit_iff.mp beyond
  exact absurd high (Nat.not_le.mpr (below a))

theorem State.enforceLimits_of_idle {s : State} (idle : s.presetter.cycle = none) : s.enforceLimits = s := by
  refine State.enforceLimits_of_within fun ⟨touching, _⟩ => ?_
  obtain ⟨c, cycle, -⟩ := State.cycleIn_iff.mp touching
  rw [idle] at cycle
  cases cycle

theorem State.counters_seatedNow (a : Axis) : ((s.seatedNow c).axis a).counter = (s.axis a).counter ∧
    ((s.seatedNow c).axis a).softLimit = (s.axis a).softLimit := by
  cases a <;> exact ⟨rfl, rfl⟩

theorem State.below_seatedNow (below : ∀ a, (s.axis a).counter.toNat < (s.axis a).softLimit) (a : Axis) :
    ((s.seatedNow c).axis a).counter.toNat < ((s.seatedNow c).axis a).softLimit := by
  obtain ⟨counter, limit⟩ := State.counters_seatedNow (s := s) (c := c) a
  rw [counter, limit]
  exact below a

theorem State.beyond_seatedNow (beyond : ∃ a, (s.axis a).softLimit ≤ (s.axis a).counter.toNat) :
    ∃ a, ((s.seatedNow c).axis a).softLimit ≤ ((s.seatedNow c).axis a).counter.toNat := by
  obtain ⟨a, high⟩ := beyond
  obtain ⟨counter, limit⟩ := State.counters_seatedNow (s := s) (c := c) a
  exact ⟨a, by rw [counter, limit]; exact high⟩

theorem exec_seated_calibrate {ml mr : Nat} (cycle : s.presetter.cycle = some c) (seat : c.state = .seat)
    (works : s.working c.owner (.calibrate ml mr)) :
    ((∀ a, (s.axis a).counter.toNat < (s.axis a).softLimit) → exec .seatedRisingEdge s = .next (s.seatedNow c)) ∧
    ((∃ a, (s.axis a).softLimit ≤ (s.axis a).counter.toNat) →
      exec .seatedRisingEdge s = .next (State.calibrateFailed { c with state := .touch } .overtravel (s.seatedNow c))) ∧
    exec .seatWindowExpires s = .next (s.calibrateFailed c .seatTimeout) := by
  have works' : (s.seatedNow c).working c.owner (.calibrate ml mr) := works
  have rises := execSeatedRisingEdge_of_seat cycle seat
  rw [State.deliverSeated_of_calibrate (State.work_of_working works')] at rises
  refine ⟨fun below => ?_, fun beyond => ?_, ?_⟩
  · rw [State.enforceLimits_of_below (State.below_seatedNow below), State.settle_of_none works'.2] at rises
    exact rises
  · rw [State.enforceLimits_eq (s := s.seatedNow c) rfl rfl (State.beyond_seatedNow beyond)] at rises
    exact rises.trans (congrArg _ (State.settle_calibrate_ends (s := s.seatedNow c) rfl works'))
  · rw [execSeatWindowExpires_of_seat cycle seat, State.settle_calibrate_ends cycle works]

/-! ## A MEASURE seated (R54, R59, R72, R74) -/

/-- SEATED risen for a MEASURE in SEATING: its tool at PRESETTER, TOUCHING. -/
def State.measureTouches (c : Cycle) (m : MeasureCtx) (s : State) : State :=
  ((s.seatedNow c).modTool m.tool fun x => { x with location := .presetter }).setWork c.owner
    (.measure { m with phase := .touching })

variable {m : MeasureCtx}

theorem State.presetter_measureTouches : (s.measureTouches c m).presetter = (s.seatedNow c).presetter :=
  (State.setWork_frame ..).2.2.2.1

theorem State.axis_measureTouches (a : Axis) : (s.measureTouches c m).axis a = (s.seatedNow c).axis a := by
  cases a
  · exact congrArg Presetter.z State.presetter_measureTouches
  · exact congrArg Presetter.x State.presetter_measureTouches

section
variable (cycle : s.presetter.cycle = some c) (seat : c.state = .seat) (works : s.working c.owner (.measure m))
include cycle seat works

theorem execSeatedRisingEdge_of_seating (phase : m.phase = .seating) :
    exec .seatedRisingEdge s = .next (s.measureTouches c m).enforceLimits.settle := by
  have works' : (s.seatedNow c).working c.owner (.measure m) := works
  rw [execSeatedRisingEdge_of_seat cycle seat, State.deliverSeated_of_measure (State.work_of_working works')]
  unfold State.measureSeated
  rw [phase]
  rfl

theorem exec_seated_measure (phase : m.phase = .seating) (below : ∀ a, (s.axis a).counter.toNat < (s.axis a).softLimit) :
    ∃ t, exec .seatedRisingEdge s = .next t ∧ t.work c.owner = .measure { m with phase := .touching } ∧
      t = { s.modTool m.tool (fun x => { x with location := .presetter }) with
        presetter := (s.seatedNow c).presetter, order := t.order } := by
  have rises := execSeatedRisingEdge_of_seating cycle seat works phase
  have works' : State.working ((s.seatedNow c).modTool m.tool fun x => { x with location := .presetter }) c.owner (.measure m) :=
    works
  have touches : (s.measureTouches c m).working c.owner (.measure { m with phase := .touching }) :=
    State.working_setWork works'
  rw [State.enforceLimits_of_below fun a => by rw [State.axis_measureTouches]; exact State.below_seatedNow below a,
    State.settle_of_none touches.2] at rises
  exact ⟨_, rises, State.work_of_working touches, State.setWork_eq _⟩

theorem exec_seated_measure_overtravel (phase : m.phase = .seating)
    (beyond : ∃ a, (s.axis a).softLimit ≤ (s.axis a).counter.toNat) :
    ∃ t, exec .seatedRisingEdge s = .next t ∧ t.formedStatus c.owner = some .overtravel ∧
      t.presetter = { (s.seatedNow c).presetter with cycle := none } ∧ t.crib = s.crib ∧ t.reports = s.reports ∧
      ∀ x, s.findTool m.tool = some x → m.evaluation = none → x.before ≠ .ready → x.before ≠ .astray →
        t.findTool m.tool = some
          { x with claim := none, stateBefore := none, state := x.before, location := .presetter } := by
  have rises := execSeatedRisingEdge_of_seating cycle seat works phase
  have works' : State.working ((s.seatedNow c).modTool m.tool fun x => { x with location := .presetter }) c.owner (.measure m) :=
    works
  have touches : (s.measureTouches c m).working c.owner (.measure { m with phase := .touching }) :=
    State.working_setWork works'
  have cycle' := congrArg Presetter.cycle (State.presetter_measureTouches (s := s) (c := c) (m := m))
  have ended := State.measure_ends (fault := .overtravel) touches (.inr rfl)
  rw [State.enforceLimits_eq cycle' rfl (by
    simp only [State.axis_measureTouches]
    exact State.beyond_seatedNow beyond)] at rises
  obtain ⟨-, tools, crib, -, -, -, reports, -⟩ := State.setWork_frame c.owner (.measure { m with phase := .touching })
    ((s.seatedNow c).modTool m.tool fun x => { x with location := .presetter })
  refine ⟨_, rises, ended.status, ?_, ended.crib.trans crib, ended.reports.trans reports,
    fun x found unjudged notReady notAstray => ?_⟩
  · rw [ended.presetter]
    exact congrArg (fun p : Presetter => { p with cycle := none }) State.presetter_measureTouches
  · have placed : (s.measureTouches c m).idled.findTool m.tool = some { x with location := .presetter } := by
      refine Eq.trans ?_ (State.modTool_of_found (f := fun x => { x with location := .presetter }) (fun _ => rfl) found rfl).2.1
      exact congrArg (fun l : List Tool => l.find? fun x => x.number == m.tool) tools
    exact ended.released placed unjudged (Tool.held_of_before notAstray) fun ready => absurd ready notReady

/-- SEATED too early for a MEASURE (R72). -/
theorem exec_seated_early {num : Nat} {r : Request} (phase : m.phase = .fetching) (fetch : m.fetch = some num)
    (found : s.findRequest num = some r) (live : r.state = .queued ∨ r.state = .opening ∨ r.state = .opened) :
    ∃ t, exec .seatedRisingEdge s = .next t ∧ t.formedStatus c.owner = some .stationOccupied ∧
      t.presetter.cycle = none ∧ t.presetter.seated = true := by
  have rises := execSeatedRisingEdge_of_seat cycle seat
  have works' : (s.seatedNow c).working c.owner (.measure m) := works
  have withdrawn : (s.seatedNow c).withdrawCycle c.owner = (s.seatedNow c).idled := by
    unfold State.withdrawCycle
    exact if_pos (by simp [State.seatedNow])
  have early : (s.seatedNow c).measureSeated c.owner m = (s.seatedNow c).idled.abandonFetch c.owner m .stationOccupied := by
    unfold State.measureSeated State.earlySeat
    rw [phase, ← withdrawn]
  obtain ⟨v, -, only, ended⟩ := State.abandonFetch_of_live (s := (s.seatedNow c).idled) (fault := .stationOccupied)
    works' fetch found live
  rw [State.deliverSeated_of_measure (State.work_of_working works'), early] at rises
  generalize (s.seatedNow c).idled.abandonFetch c.owner m .stationOccupied = t at rises ended
  have presetter : t.presetter = (s.seatedNow c).idled.presetter := by
    have same := ended.presetter
    rw [only] at same
    exact same
  rw [State.enforceLimits_of_idle (by rw [presetter]; rfl)] at rises
  exact ⟨_, rises, ended.status, (congrArg Presetter.cycle presetter), congrArg Presetter.seated presetter⟩

/-! ## The seat window of a MEASURE (R59, R72) -/

theorem exec_seatWindow_measure (phase : m.phase = .seating) :
    ∃ t, exec .seatWindowExpires s = .next t ∧ t.formedStatus c.owner = some .seatTimeout ∧
      t.presetter = { s.presetter with cycle := none } ∧ t.crib = s.crib ∧ t.reports = s.reports ∧
      ∀ x, s.findTool m.tool = some x → m.evaluation = none → x.before ≠ .ready → x.before ≠ .astray →
        t.findTool m.tool = some { x with claim := none, stateBefore := none, state := x.before } := by
  have ended := State.measure_ends (fault := .seatTimeout) works (.inl phase)
  exact ⟨_, execSeatWindowExpires_of_seat cycle seat, ended.status, ended.presetter, ended.crib, ended.reports,
    fun x found unjudged notReady notAstray =>
      ended.released found unjudged (Tool.held_of_before notAstray) fun ready => absurd ready notReady⟩

theorem exec_seatWindow_fetching {num : Nat} {r : Request} (phase : m.phase = .fetching) (goesOn : m.pendingStatus = none)
    (fetch : m.fetch = some num) (found : s.findRequest num = some r)
    (live : r.state = .queued ∨ r.state = .opening ∨ r.state = .opened) :
    ∃ t, exec .seatWindowExpires s = .next t ∧ (t.formedStatus c.owner = some .seatTimeout ∧
      t.presetter = { s.presetter with cycle := none } ∧ t.reports = s.reports ∧
      ∀ x, s.findTool m.tool = some x → m.evaluation = none → x.before ≠ .ready → x.before ≠ .astray →
        t.findTool m.tool = some { x with claim := none, stateBefore := none, state := x.before }) ∧ s.StoppedBy r t := by
  obtain ⟨v, stops, only, ended⟩ := State.measure_ends_fetching (fault := .seatTimeout) works phase goesOn fetch found live
  have stops' : s.StoppedBy r v := ⟨stops.queued, stops.opened⟩
  refine ⟨_, execSeatWindowExpires_of_seat cycle seat, ⟨ended.status, ?_, ?_, fun x found unjudged notReady notAstray => ?_⟩,
    stops'.congr ended.crib⟩
  · rw [ended.presetter, only]
    rfl
  · rw [ended.reports, only]
    rfl
  · exact ended.released (by rw [only]; exact found) unjudged (Tool.held_of_before notAstray)
      fun ready => absurd ready notReady

end

end

end Sys2Proof.Machine
end

section
/-! The falling edge of SEATED in TOUCH, and the edges and windows put together (R60, R74). -/

namespace Sys2Proof.Machine

theorem Tool.release_loose (isReturn : Bool) (named : ToolState) (x : Tool) :
    (x.release isReturn named .loose).location = .loose ∧ (x.release isReturn named .loose).geometry = x.geometry := by
  by_cases back : isReturn = false ∧ x.stateBefore = some .astray
  · rw [Tool.release_astray back]
    exact ⟨rfl, rfl⟩
  · rw [Tool.release_eq back rfl]
    unfold Tool.insteadOfReady
    grind

theorem measureRelease_loose {y : Tool} (m : MeasureCtx) (loose : y.location = .loose) :
    (measureRelease m y).location = .loose ∧ (measureRelease m y).geometry = y.geometry := by
  unfold measureRelease
  rw [loose]
  split <;> exact Tool.release_loose ..

section
variable {s : State} {c : Cycle} {m : MeasureCtx}

theorem State.findTool_unseated {t : Nat} {x : Tool} (found : s.findTool t = some x) (place : x.location = .presetter) :
    s.unseated.findTool t = some { x with location := .loose } := by
  have number : (fun y : Tool => y.number == t) ∘
      (fun x : Tool => if x.location = .presetter then { x with location := .loose } else x) = fun y : Tool => y.number == t := by
    funext y
    simp only [Function.comp_apply]
    split <;> rfl
  unfold State.findTool State.unseated
  rw [List.find?_map, number]
  unfold State.findTool at found
  rw [found, Option.map_some, if_pos place]

theorem exec_unseated_measure (cycle : s.presetter.cycle = some c) (touch : c.state = .touch)
    (works : s.working c.owner (.measure m)) (phase : m.phase = .touching) :
    ∃ t, exec .seatedFallingEdge s = .next t ∧ t.formedStatus c.owner = some .seatLost ∧
      t.presetter = { s.presetter with seated := false, cycle := none } ∧
      ∀ x, s.findTool m.tool = some x → x.location = .presetter → ∃ y, t.findTool m.tool = some y ∧
        y.location = .loose ∧ y.geometry = x.geometry := by
  have works' : s.unseated.working c.owner (.measure m) := works
  have ended := State.measure_ends (fault := .seatLost) works' (.inr phase)
  refine ⟨_, execSeatedFallingEdge_of_touch cycle touch, ended.status, ended.presetter, fun x found place => ?_⟩
  obtain ⟨location, geometry⟩ := measureRelease_loose (y := { x with location := .loose }) m rfl
  refine ⟨measureRelease m { x with location := .loose }, ?_, location, geometry⟩
  rw [State.findTool, ended.tools]
  exact (State.modTool_of_found (number_measureRelease m) (State.findTool_unseated found place) rfl).2.1

end

/-- Settles O45: the edges and windows that change nothing but the level, and those that move or end a cycle. -/
theorem seatedEdgesAndWindows : Obligations.SeatedEdgesAndWindows := by
  unfold Obligations.SeatedEdgesAndWindows
  refine fun s alone => ⟨execSeatedRisingEdge_of_other, execSeatedFallingEdge_of_other,
    fun c cycle seat touching isTouching => ?_, fun c cycle touch => ?_⟩
  · subst isTouching
    refine ⟨fun ml mr works => exec_seated_calibrate cycle seat works, fun m works => ⟨exec_seated_measure cycle seat works,
      exec_seated_measure_overtravel cycle seat works, exec_seatWindow_measure cycle seat works,
      fun num r ends phase goesOn fetch found isEnds => ?_, fun num r phase fetch found live =>
        exec_seated_early cycle seat works phase fetch found live⟩⟩
    simp only [isEnds]
    have expires := exec_seatWindow_fetching cycle seat works phase goesOn fetch found
    refine ⟨fun queued => ?_, fun opened => ?_⟩
    · obtain ⟨t, done, ended, stops⟩ := expires (.inl queued)
      exact ⟨t, done, ended, stops.queued queued⟩
    · obtain ⟨t, done, ended, stops⟩ := expires (.inr opened)
      exact ⟨t, done, ended, stops.opened opened⟩
  · refine ⟨fun ml mr works => ⟨?_, ?_⟩, fun m works phase => ⟨?_, exec_unseated_measure cycle touch works phase⟩⟩
    · have works' : s.unseated.working c.owner (.calibrate ml mr) := works
      exact (execSeatedFallingEdge_of_touch cycle touch).trans
        (congrArg _ (State.settle_calibrate_ends (s := s.unseated) cycle works'))
    · rw [execTouchWindowExpires_of_touch cycle touch, State.settle_calibrate_ends cycle works]
    · have ended := State.measure_ends (fault := .touchTimeout) works (.inr phase)
      exact ⟨_, execTouchWindowExpires_of_touch cycle touch, ended.status, ended.presetter⟩

end Sys2Proof.Machine
end

section
/-! Steps of a scale, the loss of an axis, the index mark and the home window (R50 to R54). -/

namespace Sys2Proof.Machine

/-! ## A step (R50, R54) -/

theorem beyondRange_iff {up : Bool} {c : BitVec 20} : beyondRange up c = true ↔ c.toNat = if up then 1048575 else 0 := by
  unfold beyondRange
  cases up with
  | true => simp only [if_true, beq_iff_eq, ← BitVec.toNat_inj]; rfl
  | false => simp only [Bool.false_eq_true, if_false, beq_iff_eq, ← BitVec.toNat_inj]; rfl

section
variable {s u v w : State} {a : Axis} {c : Cycle}

theorem State.modAxis_congr {f g : AxisRec → AxisRec} (same : f (s.axis a) = g (s.axis a)) : s.modAxis a f = s.modAxis a g := by
  cases a with
  | z => exact congrArg (fun z => ({ s with presetter := { s.presetter with z := z } } : State)) same
  | x => exact congrArg (fun x => ({ s with presetter := { s.presetter with x := x } } : State)) same

theorem State.modAxis_eq (f : AxisRec → AxisRec) : s.modAxis a f = { s with presetter := (s.modAxis a f).presetter } := by
  cases a <;> rfl

theorem State.reference_modAxis (f : AxisRec → AxisRec) : (s.modAxis a f).presetter.reference = s.presetter.reference := by
  cases a <;> rfl

theorem execScaleStep_of_step {up : Bool} {move : ScaleMove} (isMove : move = if up then .up else .down) :
    exec (.scaleStep a move) s = .next (s.stepScale a up).settle := by
  subst isMove
  cases up <;> rfl

/-- The counter of an axis after a step (R50). -/
def State.stepped (a : Axis) (up : Bool) (s : State) : State :=
  s.modAxis a fun x => { x with counter := if up then x.counter + 1 else x.counter - 1 }

theorem State.stepScale_of_inside {up : Bool}
    (inside : (s.axis a).state ≠ .homed ∨ (s.axis a).counter.toNat ≠ if up then 1048575 else 0) :
    s.stepScale a up = (s.stepped a up).enforceLimits :=
  if_neg fun ⟨homed, beyond⟩ => inside.elim (· homed) (· (beyondRange_iff.mp beyond))

theorem State.stepScale_of_beyond {up : Bool} (homed : (s.axis a).state = .homed)
    (beyond : (s.axis a).counter.toNat = if up then 1048575 else 0) :
    s.stepScale a up = (s.stepped a up).loseAxis a := if_pos ⟨homed, beyondRange_iff.mpr beyond⟩

/-- A step inside the range (R54). -/
theorem exec_scaleStep_inside (alone : s.order.formedNow = []) {up : Bool} {move : ScaleMove}
    (isMove : move = if up then .up else .down) (isU : u = s.stepped a up)
    (inside : (s.axis a).state ≠ .homed ∨ (s.axis a).counter.toNat ≠ if up then 1048575 else 0) :
    ((∀ c, s.presetter.cycle = some c → c.state ≠ .touch) ∨ (∀ b, (u.axis b).counter.toNat < (u.axis b).softLimit) →
      exec (.scaleStep a move) s = .next u) ∧
    (∀ c ml mr, s.presetter.cycle = some c → c.state = .touch → s.working c.owner (.calibrate ml mr) →
      (∃ b, (u.axis b).softLimit ≤ (u.axis b).counter.toNat) →
      exec (.scaleStep a move) s = .next (u.calibrateFailed c .overtravel)) ∧
    (∀ c m, s.presetter.cycle = some c → c.state = .touch → s.working c.owner (.measure m) → m.phase = .touching →
      (∃ b, (u.axis b).softLimit ≤ (u.axis b).counter.toNat) →
      ∃ t, exec (.scaleStep a move) s = .next t ∧ t.formedStatus c.owner = some .overtravel ∧
        t.presetter = { u.presetter with cycle := none } ∧ t.crib = s.crib ∧ t.reports = s.reports ∧
        ∀ x, s.findTool m.tool = some x → m.evaluation = none → x.before ≠ .ready → x.before ≠ .astray →
          t.findTool m.tool = some { x with claim := none, stateBefore := none, state := x.before }) := by
  have done := (execScaleStep_of_step (s := s) (a := a) isMove).trans
    (congrArg (fun t : State => (Host.Outcome.next t.settle : Result)) (State.stepScale_of_inside inside))
  rw [← isU] at done
  have only : u = { s with presetter := u.presetter } := by rw [isU]; exact State.modAxis_eq _
  have order : u.order = s.order := by rw [only]
  have cycleU : u.presetter.cycle = s.presetter.cycle := by rw [isU]; exact State.cycle_modAxis _
  refine ⟨fun within => ?_, fun c ml mr cycle touch works beyond => ?_, fun c m cycle touch works phase beyond => ?_⟩
  · have stays : u.enforceLimits = u := by
      rcases within with other | below
      · refine State.enforceLimits_of_within fun ⟨touching, _⟩ => ?_
        obtain ⟨c, cycle, touch⟩ := State.cycleIn_iff.mp touching
        exact other c (cycleU ▸ cycle) touch
      · exact State.enforceLimits_of_below below
    rw [stays, State.settle_of_none (order ▸ alone)] at done
    exact done
  · rw [State.enforceLimits_eq (cycleU.trans cycle) touch beyond,
      State.settle_calibrate_ends (cycleU.trans cycle) (State.working_congr order works)] at done
    exact done
  · rw [State.enforceLimits_eq (cycleU.trans cycle) touch beyond] at done
    have ended := State.measure_ends (fault := .overtravel) (State.working_congr order works) (.inr phase)
    refine ⟨_, done, ended.status, ended.presetter, ended.crib.trans (by rw [only]; rfl), ended.reports.trans (by rw [only]; rfl),
      fun x found unjudged notReady notAstray => ?_⟩
    exact ended.released (by rw [only]; exact found) unjudged (Tool.held_of_before notAstray) fun ready => absurd ready notReady

/-! ## The loss of an axis (R50) -/

theorem State.homesOf_congr {t : State} (slots : t.order.slots = s.order.slots) : t.homesOf a = s.homesOf a := by
  have work : t.work = s.work := by
    funext n
    unfold State.work State.slot
    rw [slots]
  unfold State.homesOf
  rw [work]

/-- The reference lost for an axis, in the words of the statements. -/
structure State.Loses (v : State) (a : Axis) (w : State) : Prop where
  keeps : v.presetter.reference = none → w = v
  reports : ∀ r, v.presetter.reference = some r → w = State.handReport
    { Report.blank .referenceLost with
      code := 2
      detail := .plain (le 1 (oneAxis a).code ++ le 2 r.generation ++ le 2 r.uses ++ v.presetter.axes.bytes) }
    { v with presetter := { v.presetter with reference := none } }

theorem State.Loses.eq (loses : v.Loses a w) : v.loseReference 2 (oneAxis a) = w := by
  cases reference : v.presetter.reference with
  | none => rw [State.loseReference_of_none reference, loses.keeps reference]
  | some r => rw [State.loseReference_of_some reference, loses.reports r reference]; rfl

/-- What the loss of the reference leaves. -/
structure State.KeptByLoss (v w : State) : Prop where
  slots : w.order.slots = v.order.slots
  formedNow : w.order.formedNow = v.order.formedNow
  clock : w.clock = v.clock
  cycle : w.presetter.cycle = v.presetter.cycle
  crib : w.crib = v.crib
  tools : w.tools = v.tools

theorem State.Loses.kept (loses : v.Loses a w) : v.KeptByLoss w := by
  cases reference : v.presetter.reference with
  | none =>
    rw [loses.keeps reference]
    exact ⟨rfl, rfl, rfl, rfl, rfl, rfl⟩
  | some r =>
    rw [loses.reports r reference]
    have only := State.LinkOnly.handReport
      { Report.blank .referenceLost with
        code := 2
        detail := .plain (le 1 (oneAxis a).code ++ le 2 r.generation ++ le 2 r.uses ++ v.presetter.axes.bytes) }
      { v with presetter := { v.presetter with reference := none } }
    exact ⟨only.slots, only.formedNow, only.clock, (congrArg Presetter.cycle (State.handReport_frame _ _).2.2.2.1).trans rfl, only.crib,
      only.tools⟩

theorem State.loseAxis_eq (isV : v = s.modAxis a fun x => { x with state := .lost }) (loses : v.Loses a w) :
    s.loseAxis a = ((s.homesOf a).foldl (fun u n => u.endHome n .axisLost) w).faultCycle .axisLost := by
  have slots : w.order.slots = s.order.slots := by
    rw [loses.kept.slots, isV, State.order_modAxis]
  unfold State.loseAxis
  rw [← isV]
  dsimp only
  rw [loses.eq, State.homesOf_congr slots]

/-- The reference of a state is no matter of an axis record changed. -/
theorem State.loses_of {base : State} (same : base.presetter.reference = s.presetter.reference)
    (isV : v = base.modAxis a fun x => { x with state := .lost }) (keeps : s.presetter.reference = none → w = v)
    (reports : ∀ r, s.presetter.reference = some r → w = State.handReport
      { Report.blank .referenceLost with
        code := 2
        detail := .plain (le 1 (oneAxis a).code ++ le 2 r.generation ++ le 2 r.uses ++ v.presetter.axes.bytes) }
      { v with presetter := { v.presetter with reference := none } }) : v.Loses a w := by
  have reference : v.presetter.reference = s.presetter.reference := by rw [isV, State.reference_modAxis, same]
  exact ⟨fun none => keeps (reference ▸ none), fun r some => reports r (reference ▸ some)⟩

/-- An axis lost with no HOME that waits for it and no cycle. -/
theorem State.settle_loseAxis_idle (alone : s.order.formedNow = []) (homes : s.homesOf a = []) (idle : s.presetter.cycle = none)
    (isV : v = s.modAxis a fun x => { x with state := .lost }) (loses : v.Loses a w) : (s.loseAxis a).settle = w := by
  have kept := loses.kept
  have cycle : w.presetter.cycle = none := by rw [kept.cycle, isV, State.cycle_modAxis, idle]
  rw [State.loseAxis_eq isV loses, homes, List.foldl_nil, State.faultCycle_of_none cycle]
  refine State.settle_of_none (kept.formedNow.trans ?_)
  rw [isV, State.order_modAxis, alone]

/-- An axis lost with no HOME that waits for it, in a cycle. -/
theorem State.loseAxis_cycle (homes : s.homesOf a = []) (cycle : s.presetter.cycle = some c)
    (isV : v = s.modAxis a fun x => { x with state := .lost }) (loses : v.Loses a w) : w.presetter.cycle = some c ∧
      s.loseAxis a = w.idled.deliverCycle c.owner (w.presetter.ends .axisLost) := by
  have cycleW : w.presetter.cycle = some c := by rw [loses.kept.cycle, isV, State.cycle_modAxis, cycle]
  refine ⟨cycleW, ?_⟩
  rw [State.loseAxis_eq isV loses, homes, List.foldl_nil, State.faultCycle_of_some cycleW]

end

end Sys2Proof.Machine
end

section
/-! O44: the scale steps that lose an axis, the index mark and the home window (R50 to R54). -/

namespace Sys2Proof.Machine

section
variable {s u v w base : State} {a : Axis} {c : Cycle} {move : ScaleMove}

/-! ## The steps that lose an axis (R50) -/

/-- A step that loses the axis, from the state whose loss it is. -/
structure State.LosingStep (s : State) (a : Axis) (move : ScaleMove) (base : State) : Prop where
  runs : exec (.scaleStep a move) s = .next (base.loseAxis a).settle
  only : base = { s with presetter := base.presetter }
  cycle : base.presetter.cycle = s.presetter.cycle
  reference : base.presetter.reference = s.presetter.reference

theorem State.losingStep_of_beyond {up : Bool} (isMove : move = if up then .up else .down) (homed : (s.axis a).state = .homed)
    (beyond : (s.axis a).counter.toNat = if up then 1048575 else 0) : s.LosingStep a move (s.stepped a up) where
  runs := (execScaleStep_of_step isMove).trans
    (congrArg (fun t : State => (Host.Outcome.next t.settle : Result)) (State.stepScale_of_beyond homed beyond))
  only := State.modAxis_eq _
  cycle := State.cycle_modAxis _
  reference := State.reference_modAxis _

theorem State.losingStep_of_both (watched : (s.axis a).state = .homing ∨ (s.axis a).state = .homed) :
    s.LosingStep a .both s where
  runs := by
    have loses : s.quadratureFault a = s.loseAxis a := if_pos watched
    rw [← loses]
    rfl
  only := rfl
  cycle := rfl
  reference := rfl

/-- The three kinds of steps that lose an axis. -/
theorem State.losingStep_of_cases
    (kinds : (move = .both ∧ base = s ∧ ((s.axis a).state = .homing ∨ (s.axis a).state = .homed)) ∨
      (move = .up ∧ (s.axis a).state = .homed ∧ (s.axis a).counter.toNat = 1048575 ∧
        base = s.modAxis a fun x => { x with counter := 0 }) ∨
      (move = .down ∧ (s.axis a).state = .homed ∧ (s.axis a).counter.toNat = 0 ∧
        base = s.modAxis a fun x => { x with counter := 1048575 })) : s.LosingStep a move base := by
  rcases kinds with ⟨both, isBase, watched⟩ | ⟨isMove, homed, beyond, isBase⟩ | ⟨isMove, homed, beyond, isBase⟩
  · rw [both, isBase]
    exact State.losingStep_of_both watched
  · have wraps : base = s.stepped a true := by
      refine isBase.trans (State.modAxis_congr (congrArg (fun n => { s.axis a with counter := n }) ?_))
      rw [if_pos rfl, ← BitVec.toNat_inj, BitVec.toNat_add, beyond]
      rfl
    rw [wraps]
    exact State.losingStep_of_beyond (up := true) isMove homed beyond
  · have wraps : base = s.stepped a false := by
      refine isBase.trans (State.modAxis_congr (congrArg (fun n => { s.axis a with counter := n }) ?_))
      rw [if_neg Bool.false_ne_true, ← BitVec.toNat_inj, BitVec.toNat_sub, beyond]
      rfl
    rw [wraps]
    exact State.losingStep_of_beyond (up := false) isMove homed beyond

theorem State.LosingStep.homes (step : s.LosingStep a move base) : base.homesOf a = s.homesOf a :=
  State.homesOf_congr (by rw [step.only])

/-- What stands when an axis is lost stood before the step. -/
theorem State.LosingStep.kept (step : s.LosingStep a move base)
    (isV : v = base.modAxis a fun x => { x with state := .lost }) (loses : v.Loses a w) : s.KeptByLoss w := by
  have kept := loses.kept
  have only : v = { s with presetter := v.presetter } := by
    rw [isV, State.modAxis_eq, step.only]
  have cycle : v.presetter.cycle = s.presetter.cycle := by rw [isV, State.cycle_modAxis, step.cycle]
  have order : v.order = s.order := by rw [only]
  exact ⟨kept.slots.trans (by rw [order]), kept.formedNow.trans (by rw [order]), kept.clock.trans (by rw [only]; rfl),
    kept.cycle.trans cycle, kept.crib.trans (by rw [only]), kept.tools.trans (by rw [only])⟩

/-- A step that loses the axis, with no HOME and no cycle (R50). -/
theorem State.LosingStep.idle (step : s.LosingStep a move base) (alone : s.order.formedNow = []) (homes : s.homesOf a = [])
    (idle : s.presetter.cycle = none) (isV : v = base.modAxis a fun x => { x with state := .lost }) (loses : v.Loses a w) :
    exec (.scaleStep a move) s = .next w := by
  have order : base.order = s.order := by rw [step.only]
  rw [step.runs, State.settle_loseAxis_idle (order ▸ alone) (step.homes.trans homes) (step.cycle.trans idle) isV loses]

/-- A step that loses the axis in a cycle ends the cycle. -/
theorem State.LosingStep.inCycle (step : s.LosingStep a move base) (homes : s.homesOf a = [])
    (cycle : s.presetter.cycle = some c) (isV : v = base.modAxis a fun x => { x with state := .lost }) (loses : v.Loses a w) :
    w.presetter.cycle = some c ∧
      exec (.scaleStep a move) s = .next (w.idled.deliverCycle c.owner (w.presetter.ends .axisLost)).settle := by
  obtain ⟨cycleW, runs⟩ := State.loseAxis_cycle (step.homes.trans homes) (step.cycle.trans cycle) isV loses
  exact ⟨cycleW, step.runs.trans (congrArg (fun t : State => (Host.Outcome.next t.settle : Result)) runs)⟩

theorem State.StoppedBy.of_same {r : Request} {t : State} (stopped : u.StoppedBy r t) (crib : u.crib = s.crib)
    (clock : u.clock = s.clock) : s.StoppedBy r t := by
  have pocket : u.pocket = s.pocket := by funext p; rw [State.pocket, crib]; rfl
  exact ⟨crib ▸ pocket ▸ stopped.queued, crib ▸ pocket ▸ clock ▸ stopped.opened⟩

/-- A MEASURE that a lost axis ends, in the words of the statement. -/
theorem State.MeasureEnded.ends {m : MeasureCtx} {t : State} {n : SlotNo} (ended : v.MeasureEnded n m .axisLost t)
    (presetter : v.presetter = { w.presetter with cycle := none }) (reports : v.reports = w.reports)
    (tools : v.tools = s.tools) {ends : State → Prop}
    (means : ∀ t, ends t ↔ t.formedStatus n = some .axisLost ∧
      t.presetter = { w.presetter with cycle := none } ∧ t.reports = w.reports ∧
      ∀ x, s.findTool m.tool = some x → m.evaluation = none → x.stateBefore ≠ some .astray →
        (x.before = .ready → x.meetsReady = true) →
        t.findTool m.tool = some { x with claim := none, stateBefore := none, state := x.before }) : ends t := by
  refine (means t).mpr ⟨ended.status, ended.presetter.trans presetter, ended.reports.trans reports,
    fun x found unjudged held ready => ended.released ?_ unjudged held ready⟩
  rw [State.findTool, tools]
  exact found

/-- A step that loses the axis in the cycle of a MEASURE (R50, R72, R73). -/
theorem State.LosingStep.ofMeasure (step : s.LosingStep a move base) (homes : s.homesOf a = [])
    (cycle : s.presetter.cycle = some c) (isV : v = base.modAxis a fun x => { x with state := .lost }) (loses : v.Loses a w)
    {m : MeasureCtx} {ends : State → Prop}
    (means : ∀ t, ends t ↔ t.formedStatus c.owner = some .axisLost ∧
      t.presetter = { w.presetter with cycle := none } ∧ t.reports = w.reports ∧
      ∀ x, s.findTool m.tool = some x → m.evaluation = none → x.stateBefore ≠ some .astray →
        (x.before = .ready → x.meetsReady = true) →
        t.findTool m.tool = some { x with claim := none, stateBefore := none, state := x.before })
    (works : s.working c.owner (.measure m)) :
    (m.phase = .seating ∨ m.phase = .touching → ∃ t, exec (.scaleStep a move) s = .next t ∧ ends t ∧ t.crib = s.crib) ∧
    (∀ num r, m.phase = .fetching → m.pendingStatus = none → m.fetch = some num → s.findRequest num = some r →
      (r.state = .queued → ∃ t, exec (.scaleStep a move) s = .next t ∧ ends t ∧
        t.crib.requests = s.crib.requests.filter (fun q => q.number != r.number) ∧
        t.pocket r.pocket = { s.pocket r.pocket with claim := none }) ∧
      (r.state = .opening ∨ r.state = .opened → ∃ t, exec (.scaleStep a move) s = .next t ∧ ends t ∧
        t.crib.requests = s.crib.requests.map (fun q => if q.number = r.number then
          { q with state := .closing, window := none, outcome := some .cancelled } else q) ∧
        t.pocket r.pocket = { s.pocket r.pocket with lock := .closing, confirm := some 250, stamp := s.clock })) := by
  have kept := step.kept isV loses
  obtain ⟨-, runs⟩ := step.inCycle homes cycle isV loses
  have worksW := State.working_of_slots kept.slots kept.formedNow works
  refine ⟨fun phase => ?_, fun num r phase goesOn fetch found => ?_⟩
  · have ended := State.measure_ends (fault := .axisLost) worksW phase
    exact ⟨_, runs, ended.ends rfl rfl kept.tools means, ended.crib.trans kept.crib⟩
  · have foundW : w.findRequest num = some r := by rw [State.findRequest, kept.crib]; exact found
    have stops (live : r.state = .queued ∨ r.state = .opening ∨ r.state = .opened) :
        ∃ t, exec (.scaleStep a move) s = .next t ∧ ends t ∧ s.StoppedBy r t := by
      obtain ⟨y, stopped, only, ended⟩ := State.measure_ends_fetching (fault := .axisLost) worksW phase goesOn fetch foundW live
      exact ⟨_, runs, ended.ends (by rw [only]; rfl) (by rw [only]; rfl) ((by rw [only]; rfl : y.tools = w.tools).trans kept.tools)
        means, (stopped.of_same kept.crib kept.clock).congr ended.crib⟩
    refine ⟨fun queued => ?_, fun isOpen => ?_⟩
    · obtain ⟨t, runs, ends, stopped⟩ := stops (.inl queued)
      exact ⟨t, runs, ends, stopped.queued queued⟩
    · obtain ⟨t, runs, ends, stopped⟩ := stops (.inr isOpen)
      exact ⟨t, runs, ends, stopped.opened isOpen⟩

/-! ## The HOMEs that wait for an axis (R51, R53) -/

variable {n : SlotNo} {axes : AxisSet} {fz fx : AxisState} {window : Nat}

theorem State.homeResult_eq : s.homeResult axes fz fx =
    le 1 (if axes.z then fz.code else 0) ++ le 1 (if axes.x then fx.code else 0) ++ s.presetter.axes.bytes := by
  rw [State.homeResult, apply_ite (le 1), apply_ite (le 1)]

theorem State.endHome_of_home (work : s.work n = .home axes fz fx window) (status : Status) :
    s.endHome n status = (s.unhome axes).complete n status ((s.unhome axes).homeResult axes fz fx) := by
  unfold State.endHome
  rw [work]

theorem State.endHome_of_other (other : ∀ axes fz fx w, s.work n ≠ .home axes fz fx w) (status : Status) :
    s.endHome n status = s := by
  unfold State.endHome
  split
  next axes fz fx w work => exact absurd work (other axes fz fx w)
  next => rfl

theorem State.settle_endHome (works : s.working n (.home axes fz fx window)) (isU : u = s.unhome axes) (status : Status) :
    (s.endHome n status).settle = State.ended n status
      (le 1 (if axes.z then fz.code else 0) ++ le 1 (if axes.x then fx.code else 0) ++ u.presetter.axes.bytes) [] u := by
  have worksU : (s.unhome axes).working n (.home axes fz fx window) := works
  rw [State.endHome_of_home (State.work_of_working works), isU, ← State.homeResult_eq]
  exact State.settle_completeWith_of_working worksU _ _ _

theorem State.unhome_eq : s.unhome axes = { s with presetter :=
    { s.presetter with
      z := if axes.z = true ∧ s.presetter.z.state = .homing then { s.presetter.z with state := .unhomed } else s.presetter.z
      x := if axes.x = true ∧ s.presetter.x.state = .homing then { s.presetter.x with state := .unhomed } else s.presetter.x } } :=
  rfl

/-- A fault of both channels while one HOME waits, without cycle and reference (R50, R53). -/
theorem State.loseAxis_home (homes : s.homesOf a = [n]) (works : s.working n (.home axes fz fx window))
    (idle : s.presetter.cycle = none) (absent : s.presetter.reference = none)
    (isV : v = s.modAxis a fun x => { x with state := .lost }) (isU : u = v.unhome axes) :
    (s.loseAxis a).settle = State.ended n .axisLost
      (le 1 (if axes.z then fz.code else 0) ++ le 1 (if axes.x then fx.code else 0) ++ u.presetter.axes.bytes) [] u := by
  have reference : v.presetter.reference = none := by rw [isV, State.reference_modAxis, absent]
  have loses : v.Loses a v := ⟨fun _ => rfl, fun r some => nomatch reference.symm.trans some⟩
  have worksV : v.working n (.home axes fz fx window) := by
    rw [isV]; exact State.working_congr (State.order_modAxis _) works
  have cycle : (v.endHome n .axisLost).presetter.cycle = none := by
    rw [State.endHome_of_home (State.work_of_working worksV)]
    refine (congrArg Presetter.cycle (State.complete_frame n .axisLost _ _).2.2.2.1).trans ?_
    change v.presetter.cycle = none
    rw [isV, State.cycle_modAxis, idle]
  rw [State.loseAxis_eq isV loses, homes, List.foldl_cons, List.foldl_nil, State.faultCycle_of_none cycle,
    State.settle_endHome worksV isU]

/-- The index mark of the axis that one HOME waits for (R51, R53). -/
theorem State.markAxis_home (homes : s.homesOf a = [n]) (works : s.working n (.home axes fz fx window))
    (isU : u = s.modAxis a fun x => { x with counter := 0, state := .homed }) :
    ((∀ b, axes.names b = true → (u.axis b).state = .homed) → (s.markAxis a).settle = State.ended n .ok
      (le 1 (if axes.z then fz.code else 0) ++ le 1 (if axes.x then fx.code else 0) ++ u.presetter.axes.bytes) [] u) ∧
    ((∃ b, axes.names b = true ∧ (u.axis b).state ≠ .homed) → (s.markAxis a).settle = u) := by
  have order : u.order = s.order := by rw [isU, State.order_modAxis]
  have worksU := State.working_congr order works
  have marks : s.markAxis a = u.checkHomed n := by
    unfold State.markAxis
    rw [homes, ← isU]
    rfl
  have checks : u.checkHomed n = if (axes.z → (u.axis .z).state = .homed) ∧ (axes.x → (u.axis .x).state = .homed) then
      u.complete n .ok (u.homeResult axes fz fx) else u := by
    unfold State.checkHomed
    rw [State.work_of_working worksU]
  rw [marks, checks]
  refine ⟨fun all => ?_, fun ⟨b, named, notHomed⟩ => ?_⟩
  · rw [if_pos ⟨all .z, all .x⟩, ← State.homeResult_eq]
    exact State.settle_completeWith_of_working worksU _ _ _
  · rw [if_neg fun ⟨z, x⟩ => by cases b with
      | z => exact notHomed (z named)
      | x => exact notHomed (x named)]
    exact State.settle_of_none worksU.2

end

/-- Settles O44: case by case, each step of a scale, mark of an index and window of a HOME as the operation it makes. -/
theorem scaleAndIndexMark : Obligations.ScaleAndIndexMark := by
  unfold Obligations.ScaleAndIndexMark
  intro a s alone
  refine ⟨fun up move u isMove isU => ⟨exec_scaleStep_inside alone isMove (isU : u = s.stepped a up), ?_⟩, fun off => ?_,
    fun move base v w c kinds cycle homes isV keeps reports => ?_, fun watched idle v isV => ⟨?_, ?_⟩, fun other => ?_,
    fun homing n axes fz fx w u homes works isU => ?_, fun n other => ?_, fun n axes fz fx w u works isU => ?_⟩
  · intro homed beyond idle homes v w isV keeps reports
    subst isU
    have step := State.losingStep_of_beyond isMove homed beyond
    exact step.idle alone homes idle isV (State.loses_of step.reference isV keeps reports)
  · have stays : s.quadratureFault a = s := if_neg fun watched => by
      rcases off with off | off <;> rw [off] at watched <;> exact absurd watched (by decide)
    exact congrArg Host.Outcome.next ((congrArg State.settle stays).trans (State.settle_of_none alone))
  · have step := State.losingStep_of_cases kinds
    have loses := State.loses_of step.reference isV keeps reports
    obtain ⟨cycleW, runs⟩ := step.inCycle homes cycle isV loses
    have kept := step.kept isV loses
    refine ⟨fun ml mr works => runs.trans (congrArg Host.Outcome.next (State.settle_calibrate_ends (ml := ml) (mr := mr) cycleW ?_)),
      fun m ends means works => step.ofMeasure homes cycle isV loses means works⟩
    exact State.working_of_slots kept.slots kept.formedNow works
  · intro w homes keeps reports
    have step := State.losingStep_of_both watched
    exact step.idle alone homes idle isV (State.loses_of step.reference isV keeps reports)
  · intro n axes fz fx w u homes works absent isU
    rw [(State.losingStep_of_both watched).runs, State.loseAxis_home homes works idle absent isV isU]
  · exact if_neg other
  · obtain ⟨all, waits⟩ := State.markAxis_home homes works isU
    have runs : exec (.indexMark a) s = .next (s.markAxis a).settle := if_pos homing
    exact ⟨fun homed => runs.trans (congrArg Host.Outcome.next (all homed)),
      fun open' => runs.trans (congrArg Host.Outcome.next (waits open'))⟩
  · exact congrArg Host.Outcome.next
      ((congrArg State.settle (State.endHome_of_other other .homeTimeout)).trans (State.settle_of_none alone))
  · exact congrArg Host.Outcome.next (State.settle_endHome works (isU.trans State.unhome_eq.symm) .homeTimeout)

end Sys2Proof.Machine
end

section
/-! The outcomes of a movement that was not sensed, by its owner (R15, R43, R46, R72, R78, R82, R138, R161). -/

namespace Sys2Proof.Machine

section
variable {s u v : State} {n : SlotNo} {outcome : MoveOutcome}

/-! ## What a movement's outcome and a report leave (R180, R196) -/

theorem State.reports_deliverMove_slot : (s.deliverMove (.slot n) outcome).reports = s.reports := by
  unfold State.deliverMove
  dsimp only
  cases s.work n with
  | measure m => exact (State.measureMove_frame n m outcome s).2.2.2.2.1
  | stow w => exact (State.stowEnded_frame n w outcome s).2.2.2.2.2.1
  | returning r => exact (State.returnMove_frame n r outcome s).2.2.2.2.1
  | remove t num => exact (State.removeEnded_frame n t outcome s).2.2.2.2.2.1
  | clearOut p num => exact (State.clearOutEnded_frame n p outcome s).2.2.2.2.2.2.1
  | _ => rfl

theorem State.settle_handReport (r : Report) (s : State) : (s.handReport r).settle = s.settle.handReport r := by
  unfold State.handReport
  dsimp only
  rw [apply_ite State.settle, apply_ite State.settle]
  rfl

theorem State.canAccess_of_portPart (port : u.order.portPart = s.order.portPart) : u.canAccess = s.canAccess := by
  have enable := congrArg OrderBlock.portEnable port
  have halted := congrArg OrderBlock.halted port
  unfold State.canAccess
  rw [show u.order.portEnable = s.order.portEnable from enable, show u.order.halted = s.order.halted from halted]

/-- The Report Writer after a report, by what the report reads. -/
theorem State.reports_handReport_of (r : Report) (reports : u.reports = s.reports)
    (port : u.order.portPart = s.order.portPart) (clock : u.order.clock = s.order.clock) :
    (u.handReport r).reports = (s.handReport r).reports := by
  have access := State.canAccess_of_portPart port
  unfold State.handReport State.enterStall State.placeCribState State.clock
  simp only [reports, access, clock, State.modReports, State.modOrder, State.modLink]
  split <;> (try split) <;> rfl

theorem State.settle_startQueued (s : State) : s.startQueued.settle = s.settle.startQueued := by
  have one (t : State) : t.startOne.settle = t.settle.startOne := by
    unfold State.startOne
    rw [apply_ite State.settle]
    have next : t.settle.nextToStart = t.nextToStart := rfl
    rw [next]
    cases t.nextToStart <;> rfl
  have rounds (m : Nat) (t : State) : (repeatStep State.startOne m t).settle = repeatStep State.startOne m t.settle := by
    induction m generalizing t with
    | zero => rfl
    | succ m ih => rw [repeatStep, repeatStep, ih, one]
  exact rounds s.queuedCount s

/-! ## Movements that were not sensed -/

variable (failed : outcome ≠ .sensed)
include failed

theorem stowRelease_of_failed (w : StowCtx) : stowRelease w outcome = fun y => y.release false y.before y.location := by
  funext y
  cases outcome with
  | sensed => exact absurd rfl failed
  | _ => rfl

theorem returnRelease_of_failed : returnRelease outcome = fun y => y.release true y.before y.location := by
  funext y
  cases outcome with
  | sensed => exact absurd rfl failed
  | _ => rfl

theorem State.stow_fails {w : StowCtx} (works : s.working n (.stow w)) : (s.deliverMove (.slot n) outcome).settle =
    State.ended n (insertionStatus outcome) ((s.releaseBack w.tool).stowResult w false) [] (s.releaseBack w.tool) := by
  have works' : (s.releaseBack w.tool).working n (.stow w) := works
  have unsensed : (outcome == .sensed) = false := by simpa using failed
  rw [State.deliverMove_stow _ (State.work_of_working works), State.stowEnded, stowRelease_of_failed failed, unsensed]
  exact State.settle_completeWith_of_working works' _ _ _

theorem State.remove_fails {tool num : Nat} (works : s.working n (.remove tool num)) :
    (s.deliverMove (.slot n) outcome).settle = State.ended n (removalStatus outcome) [] [] (s.releaseBack tool) := by
  have works' : (s.releaseBack tool).working n (.remove tool num) := works
  have ends : s.removeEnded n tool outcome = (s.releaseBack tool).refuse n (removalStatus outcome) := by
    cases outcome with
    | sensed => exact absurd rfl failed
    | _ => rfl
  rw [State.deliverMove_remove _ (State.work_of_working works), ends]
  exact State.settle_completeWith_of_working works' _ _ _

theorem State.clearOut_fails {q : PocketNo} {num : Nat} (works : s.working n (.clearOut q num)) :
    (s.deliverMove (.slot n) outcome).settle = State.ended n (removalStatus outcome) [] [] s := by
  have ends : s.clearOutEnded n q outcome = s.refuse n (removalStatus outcome) := by
    cases outcome with
    | sensed => exact absurd rfl failed
    | _ => rfl
  rw [State.deliverMove_clearOut _ (State.work_of_working works), ends]
  exact State.settle_completeWith_of_working works _ _ _

/-! ## MEASURE (R72, R78) -/

omit failed in
theorem State.withdrawCycle_of_owner {c : Cycle} (cycle : s.presetter.cycle = some c) (owner : c.owner = n) :
    s.withdrawCycle n = s.idled := if_pos (by rw [cycle]; simpa using owner)

omit failed in
theorem State.withdrawCycle_of_other (other : ∀ c, s.presetter.cycle = some c → c.owner ≠ n) : s.withdrawCycle n = s := by
  refine if_neg fun owned => ?_
  obtain ⟨c, cycle, owner⟩ := (Option.any_eq_true _ _).mp owned
  exact other c cycle (by simpa using owner)

/-- A FETCH that was not sensed ends the MEASURE, its cycle withdrawn (R72, R73). -/
theorem State.fetch_fails {m : MeasureCtx} (works : s.working n (.measure m)) (phase : m.phase = .fetching)
    (goesOn : m.pendingStatus = none) :
    (s.withdrawCycle n).MeasureEnded n m (removalStatus outcome) (s.deliverMove (.slot n) outcome).settle := by
  have order : (s.withdrawCycle n).order = s.order := (State.withdrawCycle_frame n s).2.1
  have ends : s.fetchEnded n m outcome =
      (s.withdrawCycle n).finishMeasure n { m with fetch := none, fetchOutcome := some outcome } (removalStatus outcome) := by
    unfold State.fetchEnded
    dsimp only
    rw [goesOn]
    cases outcome with
    | sensed => exact absurd rfl failed
    | _ => rfl
  rw [State.deliverMove_measure _ (State.work_of_working works), State.measureMove_fetching _ phase, ends]
  exact State.measureEnded_finishMeasure (State.working_congr order works) rfl rfl

omit failed in
theorem State.store_settles {m : MeasureCtx} (works : s.working n (.measure m)) (phase : m.phase = .storing)
    {m' : MeasureCtx} (isM : m' = { m with store := none, storeResult := storeResultOf outcome })
    (isV : v = s.modTool m.tool (measureRelease m')) : (s.deliverMove (.slot n) outcome).settle =
      State.ended n .ok (le 2 (v.measureRecord m').length) (v.measureRecord m') v := by
  have works' : v.working n (.measure m) := by rw [isV]; exact works
  rw [State.deliverMove_measure _ (State.work_of_working works), State.measureMove_storing _ phase,
    ← State.settle_completeWith_of_working works', isV, isM]
  rfl

omit failed in
/-- The verdict names the release where the insertion was not sensed (R71). -/
theorem measureRelease_of_notStored {m : MeasureCtx} {e : Evaluation} {reason : StoreReason} (judged : m.evaluation = some e)
    (missed : m.storeResult = .notStored reason) (y : Tool) : measureRelease m y = y.release false e.verdict y.location := by
  unfold measureRelease
  rw [judged, missed]

/-! ## RETURN (R161, R162) -/

omit failed in
theorem State.tools_returnMove (r : ReturnCtx) :
    (s.returnMove n r outcome).tools = (s.modTool r.tool (returnRelease outcome)).tools := by
  unfold State.returnMove
  dsimp only
  split
  · exact (State.tools_returnStep ..).trans (State.recallWithdraw_frame n _ _).2.2.1
  · exact State.tools_returnStep ..

theorem State.returnMove_of_pending {r r' : ReturnCtx} {d : CellNo} {slot : Nat} (pending : r.withdraw = .pending)
    (target : r.withdrawTo = some (d, slot)) (isU : u = s.modTool r.tool (returnRelease outcome))
    (isR : r' = { r with outcome := some outcome, released := (u.findTool r.tool).map Tool.asReleased }) :
    (u.recall d (.slot n) = (v, .inFlight) → s.returnMove n r outcome = v.setWork n (.returning r')) ∧
    (∀ acknowledged tries deferrals, u.recall d (.slot n) = (v, .recalled acknowledged tries deferrals) →
      ∃ result, s.returnMove n r outcome = v.complete n (insertionStatus outcome) result) := by
  subst isR isU
  unfold State.returnMove
  dsimp only
  rw [if_pos ⟨failed, pending⟩]
  unfold State.recallWithdraw
  dsimp only
  rw [target]
  refine ⟨fun flies => ?_, fun acknowledged tries deferrals waits => ?_⟩
  · dsimp only
    rw [flies]
    exact if_pos pending
  · dsimp only
    rw [waits]
    exact ⟨_, State.returnStep_of_some rfl (by dsimp only; split <;> decide)⟩

/-- What is made of a RETURN whose insertion was not sensed (R161, R162). -/
structure State.ReturnFailed (s : State) (n : SlotNo) (x : ReturnCtx) (outcome : MoveOutcome) (t : State) : Prop where
  reports : t.reports = s.reports
  tools : t.tools = s.tools.map fun y => if y.number = x.tool then y.release true y.before y.location else y
  settled : x.withdraw ≠ .pending → t.formedStatus n = some (insertionStatus outcome)
  waiting : ∀ d slot e, x.withdraw = .pending → x.withdrawTo = some (d, slot) →
    (s.cell d).queue.find? (fun e => e.owner == .slot n) = some e → e.step ≠ .inFlight →
      t.formedStatus n = some (insertionStatus outcome) ∧ ∀ e' ∈ (t.cell d).queue, e'.owner ≠ .slot n
  flying : ∀ d slot e, x.withdraw = .pending → x.withdrawTo = some (d, slot) →
    (s.cell d).queue.find? (fun e => e.owner == .slot n) = some e → e.step = .inFlight → t.link = s.link ∧
      ∃ x', t.work n = .returning x' ∧ x'.outcome = some outcome ∧ x'.withdraw = .pending

theorem State.returning_fails {x : ReturnCtx} (works : s.working n (.returning x)) :
    s.ReturnFailed n x outcome (s.deliverMove (.slot n) outcome).settle := by
  have reports : (s.deliverMove (.slot n) outcome).reports = s.reports := State.reports_deliverMove_slot
  rw [State.deliverMove_returning _ (State.work_of_working works)] at reports ⊢
  obtain ⟨⟨c, context, -, unfinished⟩, -⟩ := works
  have tools : (s.returnMove n x outcome).tools =
      s.tools.map fun y => if y.number = x.tool then y.release true y.before y.location else y := by
    rw [State.tools_returnMove, returnRelease_of_failed failed]
    rfl
  refine ⟨reports, tools, fun settled => State.formedStatus_returnMove context unfinished x outcome settled,
    fun d slot e pending target first waits => ?_, fun d slot e pending target first flies => ?_⟩
  · have first' : ((s.modTool x.tool (returnRelease outcome)).cell d).queue.find? (fun e => e.owner == .slot n) = some e := first
    obtain ⟨result, ends⟩ := (State.returnMove_of_pending failed pending target rfl rfl).2 _ _ _
      (State.recall_of_waiting first' waits)
    generalize isV : (s.modTool x.tool (returnRelease outcome)).recalled d (.slot n) = v at ends
    have only : v = { s.modTool x.tool (returnRelease outcome) with link := v.link } := by rw [← isV]; exact State.recalled_eq
    have contextV : (v.slot n).context = some c := by rw [only]; exact context
    rw [ends]
    refine ⟨State.formedStatus_complete (st := insertionStatus outcome) (result := result) contextV unfinished, fun e' isIn => ?_⟩
    have link : (v.complete n (insertionStatus outcome) result).link = v.link := (State.complete_frame ..).2.2.2.2.2.1
    refine State.owner_recalled (s := s.modTool x.tool (returnRelease outcome)) (c := d) e' ?_
    rw [isV]
    change e' ∈ ((v.complete n (insertionStatus outcome) result).cell d).queue at isIn
    rw [State.cell, link] at isIn
    exact isIn
  · have first' : ((s.modTool x.tool (returnRelease outcome)).cell d).queue.find? (fun e => e.owner == .slot n) = some e := first
    have stays := (State.returnMove_of_pending failed pending target rfl rfl).1 (State.recall_of_inFlight first' flies)
    rw [stays]
    have contextV : ((s.modTool x.tool (returnRelease outcome)).slot n).context = some c := context
    refine ⟨?_, _, State.work_setWork contextV _, rfl, pending⟩
    change (State.setWork n _ _).link = _
    rw [State.setWork_eq]
    rfl

end

/-! ## Issues (R138, R142) -/

/-- A WITHDRAW queued makes the queue one longer (R142). -/
theorem State.length_enterWithdrawing {s : State} {i : IssueNo} {x : Issue} {st : Status}
    (isOpen : (s.issueRec i).issue = some x) (room : (s.cell x.cell).queue.length < 16)
    (standing : (s.cell x.cell).standing ≠ .cutOff) :
    ((s.enterWithdrawing i st).cell x.cell).queue.length = (s.cell x.cell).queue.length + 1 := by
  rw [State.enterWithdrawing_of_queued isOpen room standing]
  exact State.length_queueExchange (s := s.modIssue i _) (Cell.queueCheck_of_room room standing)

end Sys2Proof.Machine
end

section
/-! Lock confirmations, lock confirm windows and request windows with an owner (R24, R39, R41, R42, R45). -/

namespace Sys2Proof.Machine

section
variable {s t u : State} {p : PocketNo} {r : Request} {report : Report}

/-! ## A jam of a request's pocket (R41, R42) -/

/-- The request ENDED by a jam of its pocket, before its owner hears of it (R42). -/
def State.jamEnded (p : PocketNo) (r : Request) (s : State) : State := (s.jam p).endRequest r

theorem State.jamEnded_eq : s.jamEnded p r = { s with crib := (s.jamEnded p r).crib } := rfl

section
variable {w : Nat} (runs : (s.pocket p).confirm = some w)
include runs

/-- An UNLOCK whose window expires hands LOCK_JAM to the owner (R42). -/
theorem exec_jamOpening (opening : (s.pocket p).lock = .opening) (found : s.requestAt p = some r)
    (isReport : report = s.pocketFaultReport .lockJam p .jammed (s.pocket p).content (some r)) :
    exec (.lockConfirmWindowExpires p) s =
      .next (((s.jamEnded p r).deliverMove r.owner .lockJam).settle.handReport report) := by
  have jams : s.jamOpening p = ((s.jamEnded p r).deliverMove r.owner .lockJam).handReport report := by
    unfold State.jamOpening
    dsimp only
    rw [found, isReport]
    rfl
  rw [← State.settle_handReport, ← jams]
  exact execLockConfirm_of_opening runs opening

/-- A RELOCK whose window expires, with a request at the pocket (R41). -/
theorem exec_jamClosing_request (alone : s.order.formedNow = []) (closing : (s.pocket p).lock = .closing)
    (found : s.requestAt p = some r) : exec (.lockConfirmWindowExpires p) s = .next (State.handReport
      (s.pocketFaultReport .lockJam p .jammed (s.pocket p).content (some r)) (s.jamEnded p r)) := by
  have jams : s.jamClosing p = State.handReport
      (s.pocketFaultReport .lockJam p .jammed (s.pocket p).content (some r)) (s.jamEnded p r) := by
    unfold State.jamClosing
    dsimp only
    rw [found]
    rfl
  refine (execLockConfirm_of_closing runs closing).trans ?_
  rw [jams, State.settle_handReport, State.settle_of_none]
  exact alone

/-- The relock of the reset that jams (R48). -/
theorem exec_jamClosing_alone (alone : s.order.formedNow = []) (closing : (s.pocket p).lock = .closing)
    (noRequest : s.requestAt p = none) (free : s.relockOf p = none) : exec (.lockConfirmWindowExpires p) s = .next
      (State.handReport (s.pocketFaultReport .lockJam p .jammed (s.pocket p).content none) (s.jam p)) := by
  have jams : s.jamClosing p =
      State.handReport (s.pocketFaultReport .lockJam p .jammed (s.pocket p).content none) (s.jam p) := by
    unfold State.jamClosing
    dsimp only
    rw [noRequest, free]
  refine (execLockConfirm_of_closing runs closing).trans ?_
  rw [jams, State.settle_handReport, State.settle_of_none]
  exact alone

/-- The relock of a CLEAR_FAULT that jams (R45). -/
theorem exec_jamClosing_relock {n : SlotNo} (closing : (s.pocket p).lock = .closing) (noRequest : s.requestAt p = none)
    (relocks : s.relockOf p = some n) (works : s.working n (.clearRelock p)) :
    exec (.lockConfirmWindowExpires p) s = .next (State.ended n .lockJam [] [] (s.jam p)) := by
  have jams : s.jamClosing p = (s.jam p).refuse n .lockJam := by
    unfold State.jamClosing
    dsimp only
    rw [noRequest, relocks]
  have works' : (s.jam p).working n (.clearRelock p) := works
  refine (execLockConfirm_of_closing runs closing).trans ?_
  rw [jams]
  exact congrArg Host.Outcome.next (State.settle_completeWith_of_working works' _ _ _)

end

/-- The relock of a CLEAR_FAULT confirmed (R45). -/
theorem exec_engaged_relock {n : SlotNo} (closing : (s.pocket p).lock = .closing) (noRequest : s.requestAt p = none)
    (relocks : s.relockOf p = some n) (works : s.working n (.clearRelock p)) {fault : PocketFault}
    (isFault : fault = if (s.pocket p).sensor = .present ∧ (s.pocket p).content = none then .unknownItem else .clear)
    (isT : t = s.modPocket p fun k => { k with lock := .locked, fault := fault, confirm := none, stamp := s.clock }) :
    exec (.engagedConfirmation p) s =
      .next (State.startQueued (State.ended n .ok (le 1 (PocketFault.code fault)) [] t)) := by
  have changed : (s.setLock p .locked).changePocket p (fun k =>
      { k with fault := if k.sensor = .present ∧ k.content = none then .unknownItem else .clear }) = t := by
    have twice := State.modPocket_modPocket p
      (fun k => { k with
        fault := if k.sensor = .present ∧ k.content = none then .unknownItem else .clear, stamp := s.clock })
      (fun k => { k with lock := .locked, confirm := none, stamp := s.clock }) s
    refine Eq.trans twice ?_
    subst isT isFault
    rfl
  have works' : t.working n (.clearRelock p) := by rw [isT]; exact works
  have result : t.clearResult p = le 1 (PocketFault.code fault) := by
    have pocket : t.pocket p = { s.pocket p with
        lock := .locked, fault := fault, confirm := none, stamp := s.clock } := by
      rw [isT]; exact (State.pocket_modPocket ..).trans (if_pos rfl)
    rw [State.clearResult, pocket]
  have confirms : s.confirmEngaged p = (t.complete n .ok (le 1 (PocketFault.code fault))).startQueued := by
    unfold State.confirmEngaged
    dsimp only
    rw [noRequest, relocks]
    dsimp only
    rw [State.relockConfirmed, changed, result]
  rw [← State.settle_completeWith_of_working works', ← State.settle_startQueued]
  exact (execEngaged_of_closing closing).trans (congrArg (fun v : State => (Host.Outcome.next v.settle : Result)) confirms)

/-- A released confirmation to an issue (R137). -/
theorem exec_released_issue {id : Nat} {i : IssueNo} (alone : s.order.formedNow = []) (opening : (s.pocket p).lock = .opening)
    (found : s.requestAt p = some r) (owner : r.owner = .issue id) (isOpen : s.openIndex id = some i) :
    ∃ t, exec (.releasedConfirmation p) s = .next t ∧
      (t.issueRec i).issue = (s.issueRec i).issue.map (fun x => { x with unlocked := some s.clock, phase := .pickup }) ∧
      t = { s with crib := t.crib, issues := t.issues } := by
  generalize isU : ((s.setLock p .opened).modRequest r.number fun q =>
    { q with state := .opened, window := some (s.crib.windowFor r.movement) }) = u
  have only : u = { s with crib := u.crib } := by rw [← isU]; rfl
  have confirms : s.confirmReleased p = u.pickOpened i := by
    have isOpenU : u.openIndex id = some i := by rw [only]; exact isOpen
    rw [State.confirmReleased_of_some found, isU, owner]
    unfold State.deliverOpened
    dsimp only
    rw [isOpenU]
  refine ⟨u.pickOpened i, ?_, ?_, ?_⟩
  · refine (execReleased_of_opening opening).trans ?_
    rw [confirms, State.settle_of_none]
    rw [only]
    exact alone
  · rw [State.pickOpened, State.issueRec_modIssue, if_pos rfl, only]
    rfl
  · rw [only]
    rfl

/-! ## The request window (R39) -/

theorem exec_windowExpires (found : s.requestAt p = some r) (isOpened : r.state = .opened) (runs : r.window.isSome = true) :
    exec (.requestWindowExpires p) s =
      .next ((s.closing r .windowExpired).deliverMove r.owner .windowExpired).settle := by
  have live : (s.requestAt p).filter (fun r => r.state == .opened && r.window.isSome) = some r := by
    rw [found]
    exact if_pos (by simp [isOpened, runs])
  change execRequestWindowExpires p s = _
  unfold execRequestWindowExpires
  rw [live]
  rfl

theorem exec_windowExpires_of_none (idle : ∀ r, s.requestAt p = some r → r.state ≠ .opened ∨ r.window = none) :
    exec (.requestWindowExpires p) s = .next s := by
  have none : (s.requestAt p).filter (fun r => r.state == .opened && r.window.isSome) = none := by
    rw [Option.filter_eq_none_iff]
    intro r found
    rcases idle r found with other | unset
    · simp [other]
    · simp [unset]
  change execRequestWindowExpires p s = _
  unfold execRequestWindowExpires
  rw [none]

/-! ## An issue whose pick failed (R138, R142) -/

/-- What the failed pick of an issue whose WITHDRAW is queued leaves. -/
structure State.PickFailed (s : State) (i : IssueNo) (x : Issue) (st : Status) (t : State) : Prop where
  issue : (t.issueRec i).issue = some { x with phase := .withdrawing, request := none, failure := some (x.failure.getD st) }
  only : t = { s with issues := t.issues, link := t.link }
  length : (t.cell x.cell).queue.length = (s.cell x.cell).queue.length + 1

variable {id : Nat} {i : IssueNo} {x : Issue} {outcome : MoveOutcome} {st : Status}

theorem State.pick_fails (alone : s.order.formedNow = []) (isOpen : s.openIndex id = some i)
    (issue : (s.issueRec i).issue = some x) (room : (s.cell x.cell).queue.length < 16)
    (standing : (s.cell x.cell).standing ≠ .cutOff)
    (kinds : (outcome = .lockJam ∧ st = .lockJam) ∨ (outcome = .windowExpired ∧ st = .pickupTimeout)) :
    s.PickFailed i x st (s.deliverMove (.issue id) outcome).settle := by
  have withdraws := State.withdrawnBy_enterWithdrawing (st := st) issue room standing
  have length := State.length_enterWithdrawing (st := st) issue room standing
  have ends : s.pickEnded i outcome = s.enterWithdrawing i st := by
    rcases kinds with ⟨rfl, rfl⟩ | ⟨rfl, rfl⟩ <;> rfl
  rw [State.deliverMove_issue_open _ isOpen, ends, State.settle_of_none (by rw [withdraws.only]; exact alone)]
  exact ⟨withdraws.issue, withdraws.only, length⟩

end

end Sys2Proof.Machine
end

section
/-! O40: lock events and request windows reach the owner of the request (R39, R41, R42, R45). -/

namespace Sys2Proof.Machine

section
variable {s u : State} {p : PocketNo} {r : Request} {report : Report} {n : SlotNo} {w : Nat}

/-! ## An UNLOCK that jams (R42) -/

theorem State.formedStatus_handReport (r : Report) (s : State) : (s.handReport r).formedStatus n = s.formedStatus n := by
  unfold State.formedStatus State.slot
  rw [State.slots_handReport]

theorem State.formedStatus_jam {status : Status}
    (kinds : (status = .lockJam ∧ ((∃ stow, s.working n (.stow stow)) ∨ (∃ q num, s.working n (.clearOut q num)) ∨
        (∃ m, s.working n (.measure m) ∧ m.phase = .fetching ∧ m.pendingStatus = none) ∨
        (∃ x, s.working n (.returning x) ∧ x.withdraw ≠ .pending))) ∨
      (status = .ok ∧ ∃ m, s.working n (.measure m) ∧ m.phase = .storing)) :
    (s.deliverMove (.slot n) .lockJam).settle.formedStatus n = some status := by
  have failed : MoveOutcome.lockJam ≠ .sensed := by decide
  rcases kinds with ⟨rfl, ⟨stow, works⟩ | ⟨q, num, works⟩ | ⟨m, works, phase, goesOn⟩ | ⟨x, works, settled⟩⟩ |
    ⟨rfl, m, works, phase⟩
  · rw [State.deliverMove_stow _ (State.work_of_working works)]
    obtain ⟨⟨c, context, -, unfinished⟩, -⟩ := works
    exact State.formedStatus_stowEnded context unfinished stow .lockJam
  · rw [State.deliverMove_clearOut _ (State.work_of_working works)]
    exact State.formedStatus_of_working works .lockJam [] []
  · exact (State.fetch_fails failed works phase goesOn).status
  · exact (State.returning_fails failed works).settled settled
  · rw [State.deliverMove_measure _ (State.work_of_working works), State.measureMove_storing _ phase]
    obtain ⟨⟨c, context, -, unfinished⟩, -⟩ := works
    exact State.formedStatus_finishMeasure .ok context unfinished _

theorem State.reports_jamEnded : ((s.jamEnded p r).deliverMove (.slot n) .lockJam).settle.reports = s.reports :=
  State.reports_deliverMove_slot

theorem State.reports_jam_handReport : (((s.jamEnded p r).deliverMove (.slot n) .lockJam).settle.handReport report).reports =
    (s.handReport report).reports := by
  obtain ⟨-, -, -, -, port, clock, -⟩ := State.deliverMove_frame (.slot n) .lockJam (s.jamEnded p r)
  exact State.reports_handReport_of report State.reports_jamEnded port clock

section
variable (runs : (s.pocket p).confirm = some w) (opening : (s.pocket p).lock = .opening) (found : s.requestAt p = some r)
include runs opening found

theorem exec_jam_remove {tool num : Nat} (owner : r.owner = .slot n) (works : s.working n (.remove tool num)) :
    ∃ t, exec (.lockConfirmWindowExpires p) s = .next (State.handReport
        (s.pocketFaultReport .lockJam p .jammed (s.pocket p).content (some r)) (State.ended n .lockJam [] [] t)) ∧
      t = { s.releaseBack tool with crib := t.crib } := by
  have works' : (s.jamEnded p r).working n (.remove tool num) := works
  refine ⟨(s.jamEnded p r).releaseBack tool, ?_, rfl⟩
  rw [exec_jamOpening runs opening found rfl, owner, State.remove_fails (by decide) works']
  rfl

theorem exec_jam_slot {status : Status} (owner : r.owner = .slot n)
    (isReport : report = s.pocketFaultReport .lockJam p .jammed (s.pocket p).content (some r))
    (kinds : (status = .lockJam ∧ ((∃ stow, s.working n (.stow stow)) ∨ (∃ q num, s.working n (.clearOut q num)) ∨
        (∃ m, s.working n (.measure m) ∧ m.phase = .fetching ∧ m.pendingStatus = none) ∨
        (∃ x, s.working n (.returning x) ∧ x.withdraw ≠ .pending))) ∨
      (status = .ok ∧ ∃ m, s.working n (.measure m) ∧ m.phase = .storing)) :
    ∃ t, exec (.lockConfirmWindowExpires p) s = .next t ∧ t.formedStatus n = some status ∧
      t.reports = (s.handReport report).reports := by
  refine ⟨_, exec_jamOpening runs opening found isReport, ?_, ?_⟩
  · rw [State.formedStatus_handReport, owner]
    exact State.formedStatus_jam (s := s.jamEnded p r) kinds
  · rw [owner]
    exact State.reports_jam_handReport

theorem exec_jam_issue {id : Nat} {i : IssueNo} {x : Issue} (alone : s.order.formedNow = []) (owner : r.owner = .issue id)
    (isReport : report = s.pocketFaultReport .lockJam p .jammed (s.pocket p).content (some r))
    (isOpen : s.openIndex id = some i) (issue : (s.issueRec i).issue = some x) (room : (s.cell x.cell).queue.length < 16)
    (standing : (s.cell x.cell).standing ≠ .cutOff) : ∃ t, exec (.lockConfirmWindowExpires p) s = .next t ∧
      (t.issueRec i).issue = some
        { x with phase := .withdrawing, request := none, failure := some (x.failure.getD .lockJam) } ∧
      t.tools = s.tools ∧ t.reports = (s.handReport report).reports ∧
      (t.cell x.cell).queue.length = (s.cell x.cell).queue.length + 1 := by
  have ended := State.pick_fails (s := s.jamEnded p r) (id := id) alone isOpen issue room standing (.inl ⟨rfl, rfl⟩)
  have runs' := exec_jamOpening runs opening found isReport
  rw [owner] at runs'
  generalize ((s.jamEnded p r).deliverMove (.issue id) .lockJam).settle = v at ended runs'
  have only : State.LinkOnly v (v.handReport report) := State.LinkOnly.handReport report v
  refine ⟨_, runs', ?_, only.tools.trans (by rw [ended.only]; rfl), ?_, ?_⟩
  · rw [only.issueRec]
    exact ended.issue
  · exact State.reports_handReport_of report (by rw [ended.only]; rfl) (by rw [ended.only]; rfl) (by rw [ended.only]; rfl)
  · rw [State.cell_handReport]
    exact ended.length

end

/-! ## A request window that expires (R39) -/

/-- The request and its pocket CLOSING by a window that expired, in the words of the statement. -/
def State.windowClosed (s : State) (p : PocketNo) (r : Request) (t : State) : Prop :=
  t.pocket p = { s.pocket p with lock := .closing, confirm := some 250, stamp := s.clock } ∧
    (∀ q, q ≠ p → t.pocket q = s.pocket q) ∧ t.crib.requests = s.crib.requests.map fun q =>
      if q.number = r.number then { q with state := .closing, window := none, outcome := some .windowExpired } else q

theorem State.windowClosed_of_crib {t : State} (atP : r.pocket = p) (crib : t.crib = (s.closing r .windowExpired).crib) :
    s.windowClosed p r t := by
  subst atP
  have pocket := State.pocket_of_crib crib
  exact ⟨(pocket _).trans State.pocket_closing_self, fun q other => (pocket q).trans (State.pocket_closing_of_ne other),
    by rw [crib]; rfl⟩

section
variable (found : s.requestAt p = some r) (atP : r.pocket = p) (isOpened : r.state = .opened) (runs : r.window = some w)
include found atP isOpened runs

omit atP in
theorem exec_window_slot (owner : r.owner = .slot n) : exec (.requestWindowExpires p) s =
    .next ((s.closing r .windowExpired).deliverMove (.slot n) .windowExpired).settle := by
  rw [exec_windowExpires found isOpened (by simp [runs]), owner]

theorem exec_window_stow {stow : StowCtx} (owner : r.owner = .slot n) (works : s.working n (.stow stow)) :
    ∃ t, exec (.requestWindowExpires p) s =
        .next (State.ended n .insertTimeout (t.stowResult stow false) [] t) ∧
      t = { s.releaseBack stow.tool with crib := t.crib } ∧ s.windowClosed p r t := by
  have works' : (s.closing r .windowExpired).working n (.stow stow) := works
  refine ⟨(s.closing r .windowExpired).releaseBack stow.tool, ?_, rfl, State.windowClosed_of_crib atP rfl⟩
  rw [exec_window_slot found isOpened runs owner, State.stow_fails (by decide) works']
  rfl

theorem exec_window_remove {tool num : Nat} (owner : r.owner = .slot n) (works : s.working n (.remove tool num)) :
    ∃ t, exec (.requestWindowExpires p) s = .next (State.ended n .pickupTimeout [] [] t) ∧
      t = { s.releaseBack tool with crib := t.crib } ∧ s.windowClosed p r t := by
  have works' : (s.closing r .windowExpired).working n (.remove tool num) := works
  refine ⟨(s.closing r .windowExpired).releaseBack tool, ?_, rfl, State.windowClosed_of_crib atP rfl⟩
  rw [exec_window_slot found isOpened runs owner, State.remove_fails (by decide) works']
  rfl

theorem exec_window_clearOut {q : PocketNo} {num : Nat} (owner : r.owner = .slot n) (works : s.working n (.clearOut q num)) :
    ∃ t, exec (.requestWindowExpires p) s = .next (State.ended n .pickupTimeout [] [] t) ∧
      t = { s with crib := t.crib } ∧ s.windowClosed p r t := by
  have works' : (s.closing r .windowExpired).working n (.clearOut q num) := works
  refine ⟨s.closing r .windowExpired, ?_, rfl, State.windowClosed_of_crib atP rfl⟩
  rw [exec_window_slot found isOpened runs owner, State.clearOut_fails (by decide) works']
  rfl

theorem exec_window_fetch {m : MeasureCtx} (owner : r.owner = .slot n) (works : s.working n (.measure m))
    (phase : m.phase = .fetching) (goesOn : m.pendingStatus = none) (unjudged : m.evaluation = none) :
    ∃ t, exec (.requestWindowExpires p) s = .next t ∧ t.formedStatus n = some .pickupTimeout ∧ s.windowClosed p r t ∧
      t.tools = (s.releaseBack m.tool).tools ∧ t.reports = s.reports ∧
      (∀ c, s.presetter.cycle = some c → c.owner = n → t.presetter = { s.presetter with cycle := none }) ∧
      ((∀ c, s.presetter.cycle = some c → c.owner ≠ n) → t.presetter = s.presetter) := by
  have works' : (s.closing r .windowExpired).working n (.measure m) := works
  have ended := State.fetch_fails (outcome := .windowExpired) (by decide) works' phase goesOn
  obtain ⟨-, -, tools, crib, -, -, reports, -⟩ := State.withdrawCycle_frame n (s.closing r .windowExpired)
  refine ⟨_, exec_window_slot found isOpened runs owner, ended.status,
    State.windowClosed_of_crib atP (ended.crib.trans crib), ?_, ended.reports.trans reports, fun c cycle owner => ?_, fun other => ?_⟩
  · rw [ended.tools, State.modTool_measureRelease_of_none unjudged]
    exact congrArg (List.map _) tools
  · rw [ended.presetter, State.withdrawCycle_of_owner (s := s.closing r .windowExpired) cycle owner]
    rfl
  · rw [ended.presetter, State.withdrawCycle_of_other (s := s.closing r .windowExpired) other]
    rfl

theorem exec_window_store {m m' : MeasureCtx} {e : Evaluation} (owner : r.owner = .slot n) (works : s.working n (.measure m))
    (phase : m.phase = .storing) (judged : m.evaluation = some e)
    (isM : m' = { m with store := none, storeResult := .notStored .windowExpired }) :
    ∃ t, exec (.requestWindowExpires p) s =
        .next (State.ended n .ok (le 2 (t.measureRecord m').length) (t.measureRecord m') t) ∧
      t = { s with crib := t.crib, tools := t.tools } ∧ s.windowClosed p r t ∧
      t.tools = s.tools.map fun y => if y.number = m.tool then y.release false e.verdict y.location else y := by
  have works' : (s.closing r .windowExpired).working n (.measure m) := works
  refine ⟨(s.closing r .windowExpired).modTool m.tool (measureRelease m'), ?_, rfl, State.windowClosed_of_crib atP rfl, ?_⟩
  · rw [exec_window_slot found isOpened runs owner]
    exact congrArg Host.Outcome.next (State.store_settles works' phase isM rfl)
  · have release : measureRelease m' = fun y => y.release false e.verdict y.location :=
      funext (measureRelease_of_notStored (by rw [isM]; exact judged) (by rw [isM]))
    rw [release]
    rfl

theorem exec_window_issue {id : Nat} {i : IssueNo} {x : Issue} (alone : s.order.formedNow = []) (owner : r.owner = .issue id)
    (isOpen : s.openIndex id = some i) (issue : (s.issueRec i).issue = some x) (room : (s.cell x.cell).queue.length < 16)
    (standing : (s.cell x.cell).standing ≠ .cutOff) : ∃ t, exec (.requestWindowExpires p) s = .next t ∧
      (t.issueRec i).issue = some
        { x with phase := .withdrawing, request := none, failure := some (x.failure.getD .pickupTimeout) } ∧
      t.tools = s.tools ∧ t.reports = s.reports ∧
      t.pocket p = { s.pocket p with lock := .closing, confirm := some 250, stamp := s.clock } ∧
      (t.cell x.cell).queue.length = (s.cell x.cell).queue.length + 1 := by
  have ended := State.pick_fails (s := s.closing r .windowExpired) (id := id) alone isOpen issue room standing (.inr ⟨rfl, rfl⟩)
  have runs' := exec_windowExpires found isOpened (by simp [runs])
  rw [owner] at runs'
  generalize ((s.closing r .windowExpired).deliverMove (.issue id) .windowExpired).settle = v at ended runs'
  have closed := State.windowClosed_of_crib atP (by rw [ended.only] : v.crib = _)
  exact ⟨v, runs', ended.issue, by rw [ended.only]; rfl, by rw [ended.only]; rfl, closed.1, ended.length⟩

end

/-! ## A RETURN (R161, R162) -/

/-- A lock confirm window or a request window that ends the insertion of a RETURN. -/
theorem exec_return_fails {x : ReturnCtx} {cmd : Instr} {outcome : MoveOutcome} {status : Status} {reports : ReportWriter}
    (found : s.requestAt p = some r) (owner : r.owner = .slot n) (works : s.working n (.returning x))
    (kinds : (cmd = .lockConfirmWindowExpires p ∧ (s.pocket p).lock = .opening ∧ (s.pocket p).confirm.isSome = true ∧
          outcome = .lockJam ∧ status = .lockJam ∧ reports = (s.handReport
            (s.pocketFaultReport .lockJam p .jammed (s.pocket p).content (some r))).reports) ∨
        (cmd = .requestWindowExpires p ∧ r.pocket = p ∧ r.state = .opened ∧ r.window.isSome = true ∧
          outcome = .windowExpired ∧ status = .insertTimeout ∧ reports = s.reports)) :
    ∃ t, exec cmd s = .next t ∧ t.reports = reports ∧
      (t.tools = s.tools.map fun y => if y.number = x.tool then y.release true y.before y.location else y) ∧
      (x.withdraw ≠ .pending → t.formedStatus n = some status) ∧
      (∀ d slot e, x.withdraw = .pending → x.withdrawTo = some (d, slot) →
        (s.cell d).queue.find? (fun e => e.owner == .slot n) = some e →
        (e.step ≠ .inFlight → t.formedStatus n = some status ∧ ∀ e' ∈ (t.cell d).queue, e'.owner ≠ .slot n) ∧
        (e.step = .inFlight → t.link.cells = s.link.cells ∧ ∃ x', t.work n = .returning x' ∧
          x'.outcome = some outcome ∧ x'.withdraw = .pending)) := by
  rcases kinds with ⟨rfl, opening, runs, rfl, rfl, rfl⟩ | ⟨rfl, atP, isOpened, runs, rfl, rfl, rfl⟩
  · obtain ⟨w, runs⟩ := Option.isSome_iff_exists.mp runs
    have ended := State.returning_fails (s := s.jamEnded p r) (outcome := .lockJam) (by decide) works
    have runs' := exec_jamOpening runs opening found rfl
    have reports := State.reports_jam_handReport (s := s) (p := p) (r := r) (n := n)
      (report := s.pocketFaultReport .lockJam p .jammed (s.pocket p).content (some r))
    rw [owner] at runs'
    generalize ((s.jamEnded p r).deliverMove (.slot n) .lockJam).settle = v at ended runs' reports
    generalize s.pocketFaultReport .lockJam p .jammed (s.pocket p).content (some r) = report at runs' reports ⊢
    have only : State.LinkOnly v (v.handReport report) := State.LinkOnly.handReport report v
    refine ⟨_, runs', reports, only.tools.trans ended.tools, fun settled => ?_, fun d slot e pending target first => ⟨fun waits => ?_, fun flies => ?_⟩⟩
    · rw [State.formedStatus_handReport]
      exact ended.settled settled
    · rw [State.formedStatus_handReport, State.cell_handReport]
      exact ended.waiting d slot e pending target first waits
    · obtain ⟨link, x', work, moved, still⟩ := ended.flying d slot e pending target first flies
      refine ⟨(State.cells_handReport report v).trans (by rw [link]; rfl), x', ?_, moved, still⟩
      rw [State.work, only.slot]
      exact work
  · have ended := State.returning_fails (s := s.closing r .windowExpired) (outcome := .windowExpired) (by decide) works
    have runs' := exec_windowExpires found isOpened runs
    rw [owner] at runs'
    refine ⟨_, runs', ended.reports, ended.tools, ended.settled, fun d slot e pending target first =>
      ⟨ended.waiting d slot e pending target first, fun flies => ?_⟩⟩
    obtain ⟨link, more⟩ := ended.flying d slot e pending target first flies
    exact ⟨by rw [link]; rfl, more⟩

end

/-- Settles O40: each lock event and each window by the request at the pocket and its owner. -/
theorem lockEventsReachTheOwner : Obligations.LockEventsReachTheOwner := by
  unfold Obligations.LockEventsReachTheOwner
  intro p s alone
  refine ⟨fun r id i opening found owner isOpen => exec_released_issue alone opening found owner isOpen,
    fun w r n tool num opening runs found owner works => exec_jam_remove runs opening found owner works,
    fun w r report opening runs found isReport => ⟨fun n status owner kinds =>
      exec_jam_slot runs opening found owner isReport kinds, fun id i x owner isOpen issue room standing =>
      exec_jam_issue runs opening found alone owner isReport isOpen issue room standing⟩,
    fun w r closing runs found => ⟨_, exec_jamClosing_request runs alone closing found, rfl⟩,
    fun w closing runs noRequest free => exec_jamClosing_alone runs alone closing noRequest free,
    fun n closing noRequest relocks works => ⟨fun w runs => exec_jamClosing_relock runs closing noRequest relocks works,
      fun fault isFault => exec_engaged_relock closing noRequest relocks works isFault rfl⟩,
    fun r n w stow found atP isOpened runs owner works => ?_,
    fun r n w closing found atP isOpened runs owner means => ?_,
    fun r n x cmd outcome status reports found owner works kinds => exec_return_fails found owner works kinds,
    fun r id i x w found atP isOpened runs owner isOpen issue room standing =>
      exec_window_issue found atP isOpened runs alone owner isOpen issue room standing,
    exec_windowExpires_of_none⟩
  · obtain ⟨t, runs, only, pocket, -, requests⟩ := exec_window_stow found atP isOpened runs owner works
    exact ⟨t, runs, only, pocket, requests⟩
  · obtain rfl : closing = s.windowClosed p r := funext fun t => propext (means t)
    exact ⟨fun tool num works => exec_window_remove found atP isOpened runs owner works,
      fun q num works => exec_window_clearOut found atP isOpened runs owner works,
      fun m works phase goesOn unjudged => exec_window_fetch found atP isOpened runs owner works phase goesOn unjudged,
      fun m m' e works phase judged isM => exec_window_store found atP isOpened runs owner works phase judged isM⟩

end Sys2Proof.Machine
end

section
/-! CANCEL: the answer, and the target by slot (R184, R185). -/

namespace Sys2Proof.Machine

section
variable {s v w : State} {img : SlotImage} {n m : SlotNo} {c : Context} {st st' : Status} {result plain r b : List Byte}

/-! ## The answer of a CANCEL (R184) -/

/-- The step that takes a CANCEL whose target has been dealt with, giving `v`: its own result formed, nothing else changed. -/
structure State.CancelAnswered (s : State) (img : SlotImage) (n : SlotNo) (st : Status) (result : List Byte) (v t : State) :
    Prop where
  runs : exec (.cancel img) s = .next t
  output : (t.slot n).context.bind (·.output) = some { status := st, stamp := s.clock, result := result, buffer := [] }
  only : t = { v with order := t.order }
  slot : ∀ m, m ≠ n → t.slot m = v.slot m

theorem exec_cancel_of_accepted (ok : s.accepts .cancel img n) :
    exec (.cancel img) s = .next (doCancel img n (s.taken n 0x14 img)).settle := by
  have taken := exec_orderCommand (k := .cancel) img s
  rw [State.takeOrder_accepted _ ok] at taken
  exact taken

theorem State.cancelAnswered (ok : s.accepts .cancel img n) (does : doCancel img n (s.taken n 0x14 img) = v.complete n st result)
    (context : (v.slot n).context = some (newContext 0x14 img)) (clock : v.clock = s.clock) :
    s.CancelAnswered img n st result v (v.complete n st result).settle := by
  refine ⟨?_, ?_, ?_, fun m other => State.slot_completeWith_of_ne st result [] other⟩
  · rw [exec_cancel_of_accepted ok, does]
  · have slot := State.slot_completeWith st result [] context rfl
    change ((v.complete n st result).slot n).context.bind (·.output) = _
    rw [State.complete, slot, clock]
    rfl
  · exact (congrArg State.settle (State.completeWith_eq n st result [])).trans rfl

/-! ## The context of a slot that a CANCEL names -/

/-- A CANCEL by slot of a long order that has not ended (R184). -/
structure State.CancelsOrder (s : State) (img : SlotImage) (n m : SlotNo) (c : Context) : Prop where
  accepted : s.accepts .cancel img n
  kind : par1 img 0 = 0
  names : par1 img 1 = m.val
  other : m ≠ n
  context : (s.slot m).context = some c
  long : c.long = true
  unfinished : c.output = none

/-- The result of a CANCEL by slot of an order that is no ISSUE. -/
def plainResult (m : SlotNo) (c : Context) : List Byte :=
  le 1 0 ++ (le 1 m.val ++ le 1 c.kind ++ le 2 c.tag.toNat) ++ List.replicate 2 0

theorem State.cancelBySlot_of_long (context : (s.slot m).context = some c) (long : c.long = true) (unfinished : c.output = none) :
    s.cancelBySlot n m = State.answerCancel n (cancelResult (some (m, c)) (s.issueTarget m)) (s.cancelContext m) := by
  unfold State.cancelBySlot
  rw [context]
  exact if_pos ⟨long, by rw [unfinished]; rfl⟩

theorem State.cancelBySlot_of_idle (idle : ∀ c, (s.slot m).context = some c → c.long = false ∨ c.output.isSome = true) :
    s.cancelBySlot n m = s.refuse n .noOrder := by
  unfold State.cancelBySlot
  cases context : (s.slot m).context with
  | none => rfl
  | some c =>
    refine if_neg fun ⟨long, unfinished⟩ => ?_
    rcases idle c context with short | done
    · exact Bool.false_ne_true (short.symm.trans long)
    · rw [Option.isNone_iff_eq_none.mp unfinished] at done
      exact Bool.false_ne_true done

theorem doCancel_of_slot (kind : par1 img 0 = 0) (names : par1 img 1 = m.val) (other : m ≠ n) :
    doCancel img n s = s.cancelBySlot n m := by
  unfold doCancel
  dsimp only
  rw [kind, names, asFin_val]
  exact if_neg other

theorem doCancel_of_id (kind : par1 img 0 = 1) (low : par1 img 1 ≤ 254) :
    doCancel img n s = s.cancelById n (par1 img 1) := by
  unfold doCancel
  dsimp only
  rw [kind]
  exact if_pos low

section
variable (cancels : s.CancelsOrder img n m c)
include cancels

theorem State.CancelsOrder.contextTaken : ((s.taken n 0x14 img).slot m).context = some c := by
  rw [State.slot_taken_of_ne cancels.other]
  exact cancels.context

theorem State.CancelsOrder.work : (s.taken n 0x14 img).work m = c.work := State.work_of_context cancels.contextTaken

theorem State.CancelsOrder.does (noIssue : ∀ id, c.work ≠ .issue id)
    (answers : (s.taken n 0x14 img).cancelContext m = (v, st)) :
    doCancel img n (s.taken n 0x14 img) = v.complete n st (plainResult m c) := by
  have noTarget : (s.taken n 0x14 img).issueTarget m = none := by
    unfold State.issueTarget
    split
    · rename_i id work
      exact absurd (cancels.work.symm.trans work) (noIssue id)
    · rfl
  rw [doCancel_of_slot cancels.kind cancels.names cancels.other,
    State.cancelBySlot_of_long cancels.contextTaken cancels.long cancels.unfinished, noTarget, answers]
  rfl

/-- A CANCEL that changes nothing of its target. -/
theorem State.CancelsOrder.keeps (noIssue : ∀ id, c.work ≠ .issue id)
    (answers : (s.taken n 0x14 img).cancelContext m = (s.taken n 0x14 img, st)) :
    exec (.cancel img) s = .next (s.answered n 0x14 img st (plainResult m c) []) :=
  exec_completes (k := .cancel) cancels.accepted cancels.accepted.1.2 (cancels.does noIssue answers)

/-- A CANCEL that leaves the slot of its own order as it was taken. -/
theorem State.CancelsOrder.answered (noIssue : ∀ id, c.work ≠ .issue id)
    (answers : (s.taken n 0x14 img).cancelContext m = (v, st)) (slot : v.slot n = (s.taken n 0x14 img).slot n)
    (clock : v.clock = s.clock) : ∃ t, s.CancelAnswered img n st (plainResult m c) v t :=
  ⟨_, State.cancelAnswered cancels.accepted (cancels.does noIssue answers) (by rw [slot, State.slot_taken]) clock⟩

/-- A CANCEL in whose step the order of its target ends. -/
theorem State.CancelsOrder.ends (noIssue : ∀ id, c.work ≠ .issue id)
    (answers : (s.taken n 0x14 img).cancelContext m = (w.completeWith m st' r b, st))
    (order : w.order = (s.taken n 0x14 img).order) : ∃ t, exec (.cancel img) s = .next t ∧
      (t.slot n).context.bind (·.output) =
        some { status := st, stamp := s.clock, result := plainResult m c, buffer := [] } ∧
      t.formedStatus m = some st' ∧ t = { w with order := t.order } ∧
      t.order.writeOrder = s.order.writeOrder ++ (if m < n then [m, n] else [n, m]) := by
  have slotW (k : SlotNo) : w.slot k = (s.taken n 0x14 img).slot k := by rw [State.slot, order]; rfl
  have contextW : (w.slot m).context = some c := by rw [slotW]; exact cancels.contextTaken
  have slot : (w.completeWith m st' r b).slot n = (s.taken n 0x14 img).slot n :=
    (State.slot_completeWith_of_ne st' r b (Ne.symm cancels.other)).trans (slotW n)
  have context : ((w.completeWith m st' r b).slot n).context = some (newContext 0x14 img) := by rw [slot, State.slot_taken]
  have clock : (w.completeWith m st' r b).clock = s.clock := by
    rw [State.clock_completeWith, State.clock, order]
    rfl
  have answered := State.cancelAnswered cancels.accepted (cancels.does noIssue answers) context clock
  refine ⟨_, answered.runs, answered.output, ?_, ?_, ?_⟩
  · rw [State.formedStatus, answered.slot m cancels.other]
    exact State.formedStatus_completeWith st' r b contextW cancels.unfinished
  · refine answered.only.trans ?_
    rw [State.completeWith_eq m st' r b]
  · have second := State.completeWith_of_open st (plainResult m c) [] context rfl
    have first := State.completeWith_of_open st' r b contextW cancels.unfinished
    rw [State.complete, second, first]
    have writeOrder : w.order.writeOrder = s.order.writeOrder := by rw [order]; rfl
    have formedNow : w.order.formedNow = [] := by rw [order]; exact cancels.accepted.1.2
    change w.order.writeOrder ++ (n :: m :: w.order.formedNow).foldr insertSlot [] = _
    rw [writeOrder, formedNow]
    change s.order.writeOrder ++ (if n ≤ m then [n, m] else [m, n]) = _
    refine congrArg _ ?_
    rcases Nat.lt_or_ge m.val n.val with below | above
    · rw [if_pos (show m < n from below), if_neg (show ¬ n ≤ m from Nat.not_le.mpr below)]
    · rw [if_neg (show ¬ m < n from Nat.not_lt.mpr above), if_pos (show n ≤ m from above)]

end

end

end Sys2Proof.Machine
end

section
/-! CANCEL of an order by its slot: what each work makes of it (R43, R53, R65, R71, R82, R161, R185). -/

namespace Sys2Proof.Machine

section
variable {s v : State} {m : SlotNo} {num : Nat} {q : Request}

/-! ## The cancel of a request (R43) -/

theorem State.cancelMove_of_live (found : s.findRequest num = some q)
    (live : q.state = .queued ∨ q.state = .opening ∨ q.state = .opened) : ∃ v : State, s.StoppedBy q v ∧
      v = { s with crib := v.crib } ∧ ∀ ended, s.cancelMove num ended = ended v := by
  obtain ⟨v, cancelled, stops, only⟩ := State.cancelRequest_of_live found live
  refine ⟨v, stops, only, fun ended => ?_⟩
  unfold State.cancelMove
  rw [cancelled]

theorem State.cancelMove_of_closing (found : s.findRequest num = some q) (closing : q.state = .closing) (ended : State → State) :
    s.cancelMove num ended = s := by
  unfold State.cancelMove
  rw [State.cancelRequest_of_closing found closing]

/-! ## The cycle of a slot ended (R59, R60) -/

theorem State.abortCycle_of_owner {c : Cycle} (cycle : s.presetter.cycle = some c) (owner : c.owner = m) :
    s.abortCycle m = s.idled.deliverCycle m (s.presetter.ends .aborted) := by
  unfold State.abortCycle
  rw [if_pos (by rw [cycle]; simpa using owner), State.faultCycle_of_some cycle, owner]

theorem State.abortCycle_of_other (other : ∀ c, s.presetter.cycle = some c → c.owner ≠ m) : s.abortCycle m = s := by
  refine if_neg fun owned => ?_
  obtain ⟨c, cycle, owner⟩ := (Option.any_eq_true _ _).mp owned
  exact other c cycle (by simpa using owner)

/-! ## The works (R185) -/

theorem State.cancelContext_home {axes : AxisSet} {fz fx : AxisState} {window : Nat}
    (work : s.work m = .home axes fz fx window) : s.cancelContext m =
      ((s.unhome axes).completeWith m .cancelled ((s.unhome axes).homeResult axes fz fx) [], .ok) := by
  have ends := State.endHome_of_home work .cancelled
  unfold State.cancelContext
  rw [work]
  exact congrArg (·, Status.ok) ends

theorem State.cancelContext_calibrate {ml mr : Nat} {c : Cycle} (work : s.work m = .calibrate ml mr)
    (cycle : s.presetter.cycle = some c) (owner : c.owner = m) : ∃ r b,
      s.cancelContext m = (s.idled.completeWith m .aborted r b, .ok) := by
  have idle : s.idled.work m = .calibrate ml mr := work
  have ends := State.abortCycle_of_owner cycle owner
  rw [State.deliverCycle_of_calibrate idle] at ends
  unfold State.cancelContext
  rw [work]
  exact ⟨_, _, congrArg (·, Status.ok) ends⟩

section
variable {x : MeasureCtx} (work : s.work m = .measure x)
include work

theorem State.cancelContext_measure (phase : x.phase ≠ .storing) : s.cancelContext m = (s.abortCycle m, .ok) := by
  unfold State.cancelContext
  rw [work]
  dsimp only
  cases known : x.phase with
  | storing => exact absurd known phase
  | _ => rfl

theorem State.cancelContext_storing (phase : x.phase = .storing) (store : x.store = some num) :
    s.cancelContext m = (s.cancelMove num fun t => t.storeEnded m x .cancelled, .ok) := by
  unfold State.cancelContext
  rw [work]
  dsimp only
  rw [phase, store]

/-- A MEASURE in SEATING or TOUCHING whose cycle is ended. -/
theorem State.cancelContext_cycle {c : Cycle} (phase : x.phase = .seating ∨ x.phase = .touching)
    (cycle : s.presetter.cycle = some c) (owner : c.owner = m) : ∃ r b,
      s.cancelContext m = ((s.idled.modTool x.tool (measureRelease x)).completeWith m .aborted r b, .ok) := by
  have idle : s.idled.work m = .measure x := work
  have ends := State.abortCycle_of_owner cycle owner
  have outcome : s.idled.measureCycleOutcome m x (s.presetter.ends .aborted) =
      s.idled.finishMeasure m { x with outcome := some (s.presetter.ends .aborted) } .aborted := by
    unfold State.measureCycleOutcome
    rcases phase with phase | phase <;> rw [phase] <;> rfl
  rw [State.deliverCycle_of_measure idle, outcome] at ends
  have away : x.phase ≠ .storing := by rcases phase with phase | phase <;> simp [phase]
  rw [State.cancelContext_measure work away, ends]
  exact ⟨_, _, rfl⟩

/-- A MEASURE in FETCHING whose cycle is ended: its request is cancelled too (R73). -/
theorem State.cancelContext_fetching {c : Cycle} (phase : x.phase = .fetching) (goesOn : x.pendingStatus = none)
    (fetch : x.fetch = some num) (cycle : s.presetter.cycle = some c) (owner : c.owner = m) (found : s.findRequest num = some q)
    (live : q.state = .queued ∨ q.state = .opening ∨ q.state = .opened) : ∃ (v : State) (r b : List Byte), s.StoppedBy q v ∧
      v = { s.idled with crib := v.crib } ∧
      s.cancelContext m = ((v.modTool x.tool (measureRelease x)).completeWith m .aborted r b, .ok) := by
  have idle : s.idled.work m = .measure x := work
  obtain ⟨v, cancelled, stops, only⟩ := State.cancelRequest_of_live (s := s.idled) found live
  have ends := State.abortCycle_of_owner cycle owner
  have outcome : s.idled.measureCycleOutcome m x (s.presetter.ends .aborted) = v.finishMeasure m
      { x with
        outcome := some (s.presetter.ends .aborted), pendingStatus := some .aborted, fetch := none
        fetchOutcome := some .cancelled } .aborted := by
    unfold State.measureCycleOutcome
    rw [phase]
    refine (if_neg (by simp [goesOn])).trans ?_
    unfold State.abandonFetch
    dsimp only
    rw [fetch]
    dsimp only
    rw [cancelled]
    rfl
  rw [State.deliverCycle_of_measure idle, outcome] at ends
  rw [State.cancelContext_measure work (by simp [phase]), ends]
  exact ⟨v, _, _, stops.of_same rfl rfl, only, rfl⟩

end

theorem State.cancelContext_stow {w : StowCtx} (work : s.work m = .stow w) :
    s.cancelContext m = (s.cancelMove w.request fun t => t.stowEnded m w .cancelled, .ok) := by
  unfold State.cancelContext
  rw [work]

theorem State.cancelContext_remove {tool : Nat} (work : s.work m = .remove tool num) :
    s.cancelContext m = (s.cancelMove num fun t => t.removeEnded m tool .cancelled, .ok) := by
  unfold State.cancelContext
  rw [work]

theorem State.cancelContext_clearOut {p : PocketNo} (work : s.work m = .clearOut p num) :
    s.cancelContext m = (s.cancelMove num fun t => t.clearOutEnded m p .cancelled, .ok) := by
  unfold State.cancelContext
  rw [work]

theorem State.cancelContext_returning {r : ReturnCtx} (work : s.work m = .returning r) (moves : r.outcome = none) :
    s.cancelContext m = (s.cancelMove r.request fun t => t.returnMove m r .cancelled, .ok) := by
  unfold State.cancelContext
  rw [work]
  exact if_neg (by simp [moves])

theorem State.cancelContext_of_fixed
    (fixed : (∃ p, s.work m = .clearRelock p) ∨ ∃ r, s.work m = .returning r ∧ r.outcome.isSome = true) :
    s.cancelContext m = (s, .notCancellable) := by
  unfold State.cancelContext
  rcases fixed with ⟨p, work⟩ | ⟨r, work, moved⟩
  · rw [work]
  · rw [work]
    exact if_pos moved

/-- A CANCEL of an order whose request closes already (R43). -/
theorem State.cancelContext_of_closing
    (kinds : (∃ x, s.work m = .measure x ∧ x.phase = .storing ∧ x.store = some num) ∨
      (∃ w, s.work m = .stow w ∧ w.request = num) ∨ (∃ tool, s.work m = .remove tool num) ∨
      (∃ p, s.work m = .clearOut p num) ∨ (∃ x, s.work m = .returning x ∧ x.outcome = none ∧ x.request = num))
    (found : s.findRequest num = some q) (closing : q.state = .closing) : s.cancelContext m = (s, .ok) := by
  have stays := State.cancelMove_of_closing found closing
  rcases kinds with ⟨x, work, phase, store⟩ | ⟨w, work, rfl⟩ | ⟨tool, work⟩ | ⟨p, work⟩ | ⟨x, work, moves, rfl⟩
  · rw [State.cancelContext_storing work phase store, stays]
  · rw [State.cancelContext_stow work, stays]
  · rw [State.cancelContext_remove work, stays]
  · rw [State.cancelContext_clearOut work, stays]
  · rw [State.cancelContext_returning work moves, stays]

end

/-! ## The slots that a RETURN leaves -/

section
variable {s : State} {n m : SlotNo}

theorem State.slot_setWork_of_ne (other : n ≠ m) (w : Work) : (s.setWork m w).slot n = s.slot n := by
  unfold State.setWork
  cases (s.slot m).context with
  | none => rfl
  | some c => exact (State.slot_setSlot ..).trans (if_neg (Ne.symm other))

theorem State.slot_returnStep_of_ne (other : n ≠ m) (r : ReturnCtx) : (s.returnStep m r).slot n = s.slot n := by
  unfold State.returnStep
  cases r.outcome with
  | none => exact State.slot_setWork_of_ne other _
  | some outcome =>
    dsimp only
    split
    · exact State.slot_setWork_of_ne other _
    · exact State.slot_completeWith_of_ne _ _ _ other

theorem State.slot_returnMove_of_ne (other : n ≠ m) (r : ReturnCtx) (outcome : MoveOutcome) :
    (s.returnMove m r outcome).slot n = s.slot n := by
  unfold State.returnMove
  dsimp only
  split
  · refine (State.slot_returnStep_of_ne other _).trans ?_
    obtain ⟨-, order, -⟩ := State.recallWithdraw_frame m
      { r with
        outcome := some outcome
        released := ((s.modTool r.tool (returnRelease outcome)).findTool r.tool).map Tool.asReleased }
      (s.modTool r.tool (returnRelease outcome))
    rw [State.slot, order]
    rfl
  · exact State.slot_returnStep_of_ne other _

end

end Sys2Proof.Machine
end

section
/-! CANCEL of an order by its slot: the outcomes (R184, R185). -/

namespace Sys2Proof.Machine

/-- The step of a CANCEL that forms its result. -/
def State.CancelAnswers (s : State) (img : SlotImage) (n : SlotNo) (st : Status) (result : List Byte) (t : State) : Prop :=
  exec (.cancel img) s = .next t ∧
    (t.slot n).context.bind (·.output) = some { status := st, stamp := s.clock, result := result, buffer := [] }

/-- A request that a cancel still reaches (R43). -/
def State.RequestLive (num : Nat) (t : State) : Prop :=
  ∃ r, t.findRequest num = some r ∧ (r.state = .queued ∨ r.state = .opening ∨ r.state = .opened)

/-- A request as a cancel leaves it (R43). -/
def State.RequestStopped (s : State) (num : Nat) (t : State) : Prop :=
  ∃ r, s.findRequest num = some r ∧
    (r.state = .queued → t.crib.requests = s.crib.requests.filter (fun q => q.number != r.number) ∧
      (t.pocket r.pocket).claim = none ∧ (t.pocket r.pocket).lock = (s.pocket r.pocket).lock) ∧
    (r.state = .opening ∨ r.state = .opened →
      t.crib.requests = s.crib.requests.map (fun q =>
        if q.number = r.number then { q with state := .closing, window := none, outcome := some .cancelled } else q) ∧
      t.pocket r.pocket = { s.pocket r.pocket with lock := .closing, confirm := some 250, stamp := s.clock })

section
variable {s t : State} {img : SlotImage} {n m : SlotNo} {c : Context} {num : Nat} {q : Request}

theorem State.StoppedBy.requestStopped (found : s.findRequest num = some q) (stopped : s.StoppedBy q t) :
    s.RequestStopped num t := by
  refine ⟨q, found, fun queued => ?_, stopped.opened⟩
  obtain ⟨requests, pocket⟩ := stopped.queued queued
  exact ⟨requests, by rw [pocket], by rw [pocket]⟩

/-- The request of a state with its slot taken, cancelled. -/
theorem State.cancelMove_taken (live : State.RequestLive num s) : ∃ v : State, s.RequestStopped num v ∧
    v = { s.taken n 0x14 img with crib := v.crib } ∧
    ∀ ended, (s.taken n 0x14 img).cancelMove num ended = ended v := by
  obtain ⟨q, found, live⟩ := live
  obtain ⟨v, stops, only, moves⟩ := State.cancelMove_of_live (s := s.taken n 0x14 img) found live
  exact ⟨v, (State.StoppedBy.of_same (s := s) stops rfl rfl).requestStopped found, only, moves⟩

theorem State.RequestStopped.congr {v : State} (stopped : s.RequestStopped num v) (crib : t.crib = v.crib) :
    s.RequestStopped num t := by
  have pocket : t.pocket = v.pocket := by funext p; rw [State.pocket, crib]; rfl
  unfold State.RequestStopped at stopped ⊢
  rw [crib, pocket]
  exact stopped

section
variable (cancels : s.CancelsOrder img n m c)
include cancels

theorem State.CancelsOrder.workIs {w : Work} (work : c.work = w) : (s.taken n 0x14 img).work m = w := cancels.work.trans work

theorem State.CancelsOrder.home {axes : AxisSet} {fz fx : AxisState} {w : Nat} (work : c.work = .home axes fz fx w) :
    ∃ t, s.CancelAnswers img n .ok (plainResult m c) t ∧ t.formedStatus m = some .cancelled ∧
      t.order.writeOrder = s.order.writeOrder ++ (if m < n then [m, n] else [n, m]) ∧
      (∀ a, (t.axis a).state = if axes.names a = true ∧ (s.axis a).state = .homing then .unhomed else (s.axis a).state) ∧
      t = { s with order := t.order, presetter := t.presetter } := by
  obtain ⟨t, runs, output, status, only, writeOrder⟩ := cancels.ends (by simp [work])
    (State.cancelContext_home (cancels.workIs work)) rfl
  refine ⟨t, ⟨runs, output⟩, status, writeOrder, fun a => ?_, ?_⟩
  · rw [only]
    cases a with
    | z => exact apply_ite AxisRec.state ..
    | x => exact apply_ite AxisRec.state ..
  · rw [only]
    rfl

theorem State.CancelsOrder.calibrate {ml mr : Nat} {cycle : Cycle} (work : c.work = .calibrate ml mr)
    (isCycle : s.presetter.cycle = some cycle) (owner : cycle.owner = m) :
    ∃ t, s.CancelAnswers img n .ok (plainResult m c) t ∧ t.formedStatus m = some .aborted ∧
      t = { s with order := t.order, presetter := { s.presetter with cycle := none } } := by
  obtain ⟨r, b, answers⟩ := State.cancelContext_calibrate (cancels.workIs work) isCycle owner
  obtain ⟨t, runs, output, status, only, -⟩ := cancels.ends (by simp [work]) answers rfl
  exact ⟨t, ⟨runs, output⟩, status, only⟩

section
variable {x : MeasureCtx} (work : c.work = .measure x)
include work

theorem State.CancelsOrder.measure {cycle : Cycle} (isCycle : s.presetter.cycle = some cycle) (owner : cycle.owner = m) :
    (x.phase = .seating ∨ x.phase = .touching → ∃ t, s.CancelAnswers img n .ok (plainResult m c) t ∧
      t.formedStatus m = some .aborted ∧
      t = { s with order := t.order, tools := t.tools, presetter := { s.presetter with cycle := none } }) ∧
    (∀ num, x.phase = .fetching → x.pendingStatus = none → x.fetch = some num → State.RequestLive num s →
      ∃ t, s.CancelAnswers img n .ok (plainResult m c) t ∧ t.formedStatus m = some .aborted ∧ s.RequestStopped num t ∧
        t.presetter = { s.presetter with cycle := none }) := by
  refine ⟨fun phase => ?_, fun num phase goesOn fetch ⟨q, found, live⟩ => ?_⟩
  · obtain ⟨r, b, answers⟩ := State.cancelContext_cycle (cancels.workIs work) phase isCycle owner
    obtain ⟨t, runs, output, status, only, -⟩ := cancels.ends (by simp [work]) answers rfl
    refine ⟨t, ⟨runs, output⟩, status, ?_⟩
    rw [only]
    rfl
  · obtain ⟨v, r, b, stops, onlyV, answers⟩ := State.cancelContext_fetching (s := s.taken n 0x14 img) (cancels.workIs work)
      phase goesOn fetch isCycle owner found live
    obtain ⟨t, runs, output, status, only, -⟩ := cancels.ends (by simp [work]) answers (by rw [onlyV]; rfl)
    refine ⟨t, ⟨runs, output⟩, status, ?_, ?_⟩
    · exact ((State.StoppedBy.of_same (s := s) stops rfl rfl).requestStopped found).congr (by rw [only]; rfl)
    · rw [only, onlyV]
      rfl

theorem State.CancelsOrder.measure_other (away : x.phase ≠ .storing)
    (other : ∀ cycle, s.presetter.cycle = some cycle → cycle.owner ≠ m) :
    exec (.cancel img) s = .next (s.answered n 0x14 img .ok (plainResult m c) []) := by
  refine cancels.keeps (by simp [work]) ((State.cancelContext_measure (cancels.workIs work) away).trans ?_)
  rw [State.abortCycle_of_other (s := s.taken n 0x14 img) other]

theorem State.CancelsOrder.storing (phase : x.phase = .storing) (store : x.store = some num) (live : State.RequestLive num s) :
    ∃ t, s.CancelAnswers img n .ok (plainResult m c) t ∧ t.formedStatus m = some .ok ∧ s.RequestStopped num t := by
  obtain ⟨v, stops, onlyV, moves⟩ := State.cancelMove_taken (img := img) (n := n) live
  have answers := State.cancelContext_storing (cancels.workIs work) phase store
  rw [moves] at answers
  obtain ⟨t, runs, output, status, only, -⟩ := cancels.ends (by simp [work]) answers (by rw [onlyV]; rfl)
  exact ⟨t, ⟨runs, output⟩, status, stops.congr (by rw [only]; rfl)⟩

end

theorem State.CancelsOrder.stow {w : StowCtx} (work : c.work = .stow w) (live : State.RequestLive w.request s) :
    ∃ t, s.CancelAnswers img n .ok (plainResult m c) t ∧ t.formedStatus m = some .cancelled ∧
      s.RequestStopped w.request t ∧ t.tools = (s.releaseBack w.tool).tools := by
  obtain ⟨v, stops, onlyV, moves⟩ := State.cancelMove_taken (img := img) (n := n) live
  have answers := State.cancelContext_stow (cancels.workIs work)
  rw [moves] at answers
  obtain ⟨t, runs, output, status, only, -⟩ := cancels.ends (by simp [work]) answers (by rw [onlyV]; rfl)
  refine ⟨t, ⟨runs, output⟩, status, stops.congr (by rw [only]; rfl), ?_⟩
  rw [only, onlyV, stowRelease_of_failed (by decide)]
  rfl

theorem State.CancelsOrder.remove {tool : Nat} (work : c.work = .remove tool num) (live : State.RequestLive num s) :
    ∃ t, s.CancelAnswers img n .ok (plainResult m c) t ∧ t.formedStatus m = some .cancelled ∧
      s.RequestStopped num t ∧ t.tools = (s.releaseBack tool).tools := by
  obtain ⟨v, stops, onlyV, moves⟩ := State.cancelMove_taken (img := img) (n := n) live
  have answers := State.cancelContext_remove (cancels.workIs work)
  rw [moves] at answers
  obtain ⟨t, runs, output, status, only, -⟩ := cancels.ends (w := v.releaseBack tool) (st' := .cancelled) (r := []) (b := [])
    (by simp [work]) answers (by rw [onlyV]; rfl)
  refine ⟨t, ⟨runs, output⟩, status, stops.congr (by rw [only]; rfl), ?_⟩
  rw [only, onlyV]
  rfl

theorem State.CancelsOrder.clearOut {p : PocketNo} (work : c.work = .clearOut p num) (live : State.RequestLive num s) :
    ∃ t, s.CancelAnswers img n .ok (plainResult m c) t ∧ t.formedStatus m = some .cancelled ∧
      s.RequestStopped num t ∧ t.tools = s.tools := by
  obtain ⟨v, stops, onlyV, moves⟩ := State.cancelMove_taken (img := img) (n := n) live
  have answers := State.cancelContext_clearOut (cancels.workIs work)
  rw [moves] at answers
  obtain ⟨t, runs, output, status, only, -⟩ := cancels.ends (w := v) (st' := .cancelled) (r := []) (b := [])
    (by simp [work]) answers (by rw [onlyV])
  refine ⟨t, ⟨runs, output⟩, status, stops.congr (by rw [only]), ?_⟩
  rw [only, onlyV]
  rfl

theorem State.CancelsOrder.returning {r : ReturnCtx} (work : c.work = .returning r) (moves : r.outcome = none)
    (live : State.RequestLive r.request s) :
    ∃ t, s.CancelAnswers img n .ok (plainResult m c) t ∧ s.RequestStopped r.request t ∧
      (t.tools = s.tools.map fun y => if y.number = r.tool then y.release true y.before y.location else y) ∧
      (r.withdraw ≠ .pending → t.formedStatus m = some .cancelled) ∧
      (∀ d slot e, r.withdraw = .pending → r.withdrawTo = some (d, slot) →
        (s.cell d).queue.find? (fun e => e.owner == .slot m) = some e →
        (e.step ≠ .inFlight → t.formedStatus m = some .cancelled ∧ ∀ e' ∈ (t.cell d).queue, e'.owner ≠ .slot m) ∧
        (e.step = .inFlight → ∃ r', t.work m = .returning r' ∧ r'.outcome = some .cancelled ∧
          r'.withdraw = .pending ∧ t.link = s.link)) := by
  obtain ⟨v, stops, onlyV, ends⟩ := State.cancelMove_taken (img := img) (n := n) live
  have answers := State.cancelContext_returning (cancels.workIs work) moves
  rw [ends] at answers
  have works : v.working m (.returning r) := by
    refine State.working_congr (s := s.taken n 0x14 img) (by rw [onlyV]) ⟨⟨c, cancels.contextTaken, work, cancels.unfinished⟩, ?_⟩
    exact cancels.accepted.1.2
  have failed := State.returning_fails (outcome := .cancelled) (by decide) works
  rw [State.deliverMove_returning _ (State.work_of_working works)] at failed
  obtain ⟨-, crib, -, -, -, -, -, -, clock, -⟩ := State.returnMove_frame m r .cancelled v
  have slot := State.slot_returnMove_of_ne (s := v) (Ne.symm cancels.other) r .cancelled
  generalize v.returnMove m r .cancelled = u at answers failed crib clock slot
  obtain ⟨t, answered⟩ := cancels.answered (by simp [work]) answers (slot.trans (by rw [onlyV]; rfl))
    (clock.trans (by rw [onlyV]; rfl))
  have status : t.formedStatus m = u.settle.formedStatus m := by
    rw [State.formedStatus, answered.slot m cancels.other]
    rfl
  have tools : t.tools = u.tools := by rw [answered.only]
  have link : t.link = u.link := by rw [answered.only]
  refine ⟨t, ⟨answered.runs, answered.output⟩, stops.congr ?_, ?_, fun settled => ?_,
    fun d slot e pending target first => ⟨fun waits => ?_, fun flies => ?_⟩⟩
  · rw [answered.only]
    exact crib
  · exact (tools.trans failed.tools).trans (by rw [onlyV]; rfl)
  · exact status.trans (failed.settled settled)
  · obtain ⟨done, gone⟩ := failed.waiting d slot e pending target (by rw [onlyV]; exact first) waits
    refine ⟨status.trans done, fun e' isIn => gone e' ?_⟩
    rw [State.cell, link] at isIn
    exact isIn
  · obtain ⟨kept, r', still, moved, waits⟩ := failed.flying d slot e pending target (by rw [onlyV]; exact first) flies
    refine ⟨r', ?_, moved, waits, link.trans (kept.trans (by rw [onlyV]; rfl))⟩
    rw [State.work, answered.slot m cancels.other]
    exact still

theorem State.CancelsOrder.closing {r : Request}
    (kinds : (∃ x, c.work = .measure x ∧ x.phase = .storing ∧ x.store = some num) ∨
      (∃ w, c.work = .stow w ∧ w.request = num) ∨ (∃ tool, c.work = .remove tool num) ∨
      (∃ p, c.work = .clearOut p num) ∨ (∃ x, c.work = .returning x ∧ x.outcome = none ∧ x.request = num))
    (found : s.findRequest num = some r) (closing : r.state = .closing) :
    exec (.cancel img) s = .next (s.answered n 0x14 img .ok (plainResult m c) []) := by
  have noIssue : ∀ id, c.work ≠ .issue id := by
    intro id isIssue
    rcases kinds with ⟨x, work, -⟩ | ⟨w, work, -⟩ | ⟨tool, work⟩ | ⟨p, work⟩ | ⟨x, work, -⟩ <;>
      cases isIssue.symm.trans work
  rw [← cancels.work] at kinds
  exact cancels.keeps noIssue (State.cancelContext_of_closing kinds found closing)

theorem State.CancelsOrder.fixed
    (kinds : (∃ p, c.work = .clearRelock p) ∨ ∃ r, c.work = .returning r ∧ r.outcome.isSome = true) :
    exec (.cancel img) s = .next (s.answered n 0x14 img .notCancellable (plainResult m c) []) := by
  have noIssue : ∀ id, c.work ≠ .issue id := by
    intro id isIssue
    rcases kinds with ⟨p, work⟩ | ⟨r, work, -⟩ <;> cases isIssue.symm.trans work
  rw [← cancels.work] at kinds
  exact cancels.keeps noIssue (State.cancelContext_of_fixed kinds)

end

end

end Sys2Proof.Machine
end

section
/-! O36: CANCEL, by slot and by issue id (R145 to R148, R184, R185). -/

namespace Sys2Proof.Machine

section
variable {s t : State} {img : SlotImage} {n : SlotNo} {i : IssueNo} {x : Issue} {id num : Nat} {e : Exchange} {st : Status}
  {result : List Byte}

/-! ## The slot of the CANCEL itself -/

theorem State.slot_closeIssue_of_ne {r : Status} (isOpen : (s.issueRec i).issue = some x) (other : x.origin ≠ .order n) :
    (s.closeIssue i r).slot n = s.slot n := by
  rw [State.closeIssue_eq r isOpen rfl]
  dsimp only
  cases origin : x.origin with
  | order k =>
    have differ : n ≠ k := fun same => other (same ▸ origin)
    exact State.slot_completeWith_of_ne (s := s.modTool x.tool _) _ _ _ differ
  | cell ref => exact congrArg (fun v : Vector Slot 32 => v.get n) (State.slots_handReport _ (s.modTool x.tool _))

/-- The cancel of an offer never acknowledged leaves the slots of other orders, and the clock. -/
theorem State.cancelIssue_slot (isOpen : (s.issueRec i).issue = some x) (phase : x.phase = .offerWait)
    (pending : x.cancelPending = false)
    (first : (s.cell x.cell).queue.find? (fun e => e.owner == .issue (s.issueId i)) = some e) (waits : e.step ≠ .inFlight)
    (unseen : e.acknowledged = false) (other : x.origin ≠ .order n) :
    (s.cancelIssue i).1.slot n = s.slot n ∧ (s.cancelIssue i).1.clock = s.clock := by
  have cancels := State.cancelIssue_of_waiting isOpen phase pending first waits
  rw [unseen] at cancels
  have marked := State.issue_offerRecalled (mark := fun z => { z with deferrals := e.deferrals }) isOpen
  have only := State.offerRecalled_eq (s := s) (i := i) (x := x) (mark := fun z => { z with deferrals := e.deferrals })
  have closes : (s.cancelIssue i).1 =
      (s.offerRecalled i x fun z => { z with deferrals := e.deferrals }).closeFailed i .cancelled .notSent := by
    rw [cancels]
    rfl
  rw [closes]
  generalize s.offerRecalled i x (fun z => { z with deferrals := e.deferrals }) = u at marked only
  refine ⟨?_, ?_⟩
  · unfold State.closeFailed
    dsimp only
    refine (State.slot_closeIssue_of_ne (State.issue_modIssue _ marked) (n := n) other).trans ?_
    rw [only]
    rfl
  · obtain ⟨-, -, -, -, -, -, clock, -⟩ := State.closeFailed_frame i .cancelled .notSent u
    refine Eq.trans clock ?_
    rw [only]
    rfl

/-! ## The issue that a CANCEL names (R184) -/

/-- A CANCEL that comes to an issue. -/
structure State.CancelsIssue (s : State) (img : SlotImage) (n : SlotNo) (id : Nat) (i : IssueNo) (x : Issue)
    (result : List Byte) : Prop where
  accepted : s.accepts .cancel img n
  index : s.openIndex id = some i
  issue : (s.issueRec i).issue = some x
  does : doCancel img n (s.taken n 0x14 img) = State.answerCancel n result ((s.taken n 0x14 img).cancelIssue i)

theorem State.cancelsIssue_of_id (ok : s.accepts .cancel img n) (index : s.openIndex id = some i)
    (issue : (s.issueRec i).issue = some x) (kind : par1 img 0 = 1) (names : par1 img 1 = id) (valid : id ≠ 255) :
    s.CancelsIssue img n id i x (le 1 1 ++ List.replicate 4 0 ++ (le 1 id ++ le 1 x.phase.code)) := by
  refine ⟨ok, index, issue, ?_⟩
  have low : id ≤ 254 := by
    obtain ⟨isId, -⟩ := State.of_openIndex index
    rw [State.issueId, issueIdOf] at isId
    omega
  have indexTaken : (s.taken n 0x14 img).openIndex id = some i := index
  have issueTaken : ((s.taken n 0x14 img).issueRec i).issue = some x := issue
  rw [doCancel_of_id kind (names ▸ low), names]
  unfold State.cancelById
  rw [indexTaken]
  dsimp only
  rw [issueTaken]
  rfl

theorem State.cancelsIssue_of_slot {m : SlotNo} {c : Context} (cancels : s.CancelsOrder img n m c)
    (index : s.openIndex id = some i) (issue : (s.issueRec i).issue = some x) (work : c.work = .issue id) :
    s.CancelsIssue img n id i x (le 1 1 ++ (le 1 m.val ++ le 1 c.kind ++ le 2 c.tag.toNat) ++
      (le 1 id ++ le 1 x.phase.code)) := by
  refine ⟨cancels.accepted, index, issue, ?_⟩
  have indexTaken : (s.taken n 0x14 img).openIndex id = some i := index
  have issueTaken : ((s.taken n 0x14 img).issueRec i).issue = some x := issue
  have target : (s.taken n 0x14 img).issueTarget m = some (id, x.phase) := by
    unfold State.issueTarget
    rw [cancels.workIs work]
    dsimp only
    rw [indexTaken, Option.bind_some, issueTaken]
    rfl
  have context : (s.taken n 0x14 img).cancelContext m = (s.taken n 0x14 img).cancelIssue i := by
    unfold State.cancelContext
    rw [cancels.workIs work]
    dsimp only
    rw [indexTaken]
  rw [doCancel_of_slot cancels.kind cancels.names cancels.other,
    State.cancelBySlot_of_long cancels.contextTaken cancels.long cancels.unfinished, target, context]
  rfl

section
variable (cancels : s.CancelsIssue img n id i x result)
include cancels

theorem State.CancelsIssue.issueIs : ((s.taken n 0x14 img).issueRec i).issue = some x := cancels.issue

theorem State.CancelsIssue.idIs : (s.taken n 0x14 img).issueId i = id := (State.of_openIndex cancels.index).1

/-- A CANCEL that leaves its issue as it is, or marks it alone. -/
theorem State.CancelsIssue.settles {u : State} (alone : u.order.formedNow = [])
    (answers : (s.taken n 0x14 img).cancelIssue i = (u.taken n 0x14 img, st)) :
    exec (.cancel img) s = .next (u.answered n 0x14 img st result []) := by
  refine exec_completes (k := .cancel) cancels.accepted alone (cancels.does.trans ?_)
  rw [answers]
  rfl

theorem State.CancelsIssue.keeps (answers : (s.taken n 0x14 img).cancelIssue i = (s.taken n 0x14 img, st)) :
    exec (.cancel img) s = .next (s.answered n 0x14 img st result []) :=
  cancels.settles cancels.accepted.1.2 answers

/-- A CANCEL that changes more of its issue. -/
theorem State.CancelsIssue.answered {v : State} (answers : (s.taken n 0x14 img).cancelIssue i = (v, st))
    (slot : v.slot n = (s.taken n 0x14 img).slot n) (clock : v.clock = s.clock) :
    ∃ t, s.CancelAnswered img n st result v t := by
  refine ⟨_, State.cancelAnswered cancels.accepted (cancels.does.trans ?_) (by rw [slot, State.slot_taken]) clock⟩
  rw [answers]
  rfl

/-- A CANCEL whose issue withdraws. -/
theorem State.CancelsIssue.withdraws {v : State} {y : Issue} (answers : (s.taken n 0x14 img).cancelIssue i = (v, .ok))
    (leaves : (s.taken n 0x14 img).CancelWithdraws i x y v) : ∃ t, s.CancelAnswers img n .ok result t ∧ t.crib = v.crib ∧
      (t.issueRec i).issue = some y ∧
      ∃ e' ∈ (t.cell x.cell).queue, e'.payload = .withdraw id x.tool x.slot ∧ e'.owner = .issue id := by
  obtain ⟨t, answered⟩ := cancels.answered answers (by rw [leaves.only]; rfl) (by rw [leaves.only]; rfl)
  have queue := leaves.queue
  rw [cancels.idIs] at queue
  refine ⟨t, ⟨answered.runs, answered.output⟩, by rw [answered.only], ?_, ?_⟩
  · rw [answered.only]
    exact leaves.issue
  · rw [answered.only]
    exact queue

section
variable (phase : x.phase = .offerWait) (pending : x.cancelPending = false)
  (first : (s.cell x.cell).queue.find? (fun e => e.owner == .issue id) = some e)
include phase pending first

omit phase pending in
theorem State.CancelsIssue.firstTaken : ((s.taken n 0x14 img).cell x.cell).queue.find?
    (fun e => e.owner == .issue ((s.taken n 0x14 img).issueId i)) = some e := by
  rw [cancels.idIs]
  exact first

theorem State.CancelsIssue.flying (flies : e.step = .inFlight) :
    exec (.cancel img) s = .next (State.answered n 0x14 img .ok result []
      (s.modIssue i fun x => { x with failure := some (x.failure.getD .cancelled), cancelPending := true })) :=
  cancels.settles cancels.accepted.1.2
    (State.cancelIssue_of_inFlight cancels.issueIs phase pending (cancels.firstTaken first) flies)

theorem State.CancelsIssue.closes (waits : e.step ≠ .inFlight) (unseen : e.acknowledged = false) (other : x.origin ≠ .order n) :
    ∃ t, s.CancelAnswers img n .ok result t ∧ (t.issueRec i).issue = none ∧
      (∀ e' ∈ (t.cell x.cell).queue, e'.owner ≠ .issue id) ∧ t.crib = s.crib ∧
      ∀ k, x.origin = .order k → s.working k (.issue id) → x.failure = none → t.formedStatus k = some .cancelled := by
  have first := cancels.firstTaken first
  obtain ⟨v, answers, leaves⟩ := State.cancelIssue_closes cancels.issueIs phase pending first waits unseen
  obtain ⟨slot, clock⟩ := State.cancelIssue_slot (n := n) cancels.issueIs phase pending first waits unseen other
  rw [answers] at slot clock
  obtain ⟨t, answered⟩ := cancels.answered answers slot clock
  refine ⟨t, ⟨answered.runs, answered.output⟩, ?_, fun e' isIn => ?_, ?_, fun k origin works noFailure => ?_⟩
  · rw [answered.only]
    exact leaves.issue
  · rw [← cancels.idIs]
    rw [answered.only] at isIn
    exact leaves.queue e' isIn
  · rw [answered.only]
    exact leaves.crib
  · have differ : k ≠ n := fun same => other (same ▸ origin)
    obtain ⟨⟨c, context, -, unfinished⟩, -⟩ := works
    have done := (leaves.toOrder k c origin (by rw [State.slot_taken_of_ne differ]; exact context) unfinished).1
    rw [State.formedStatus, answered.slot k differ]
    rw [noFailure] at done
    exact done

theorem State.CancelsIssue.recalls (waits : e.step ≠ .inFlight) (seen : e.acknowledged = true)
    (room : (s.cell x.cell).queue.length ≤ 16) (standing : (s.cell x.cell).standing ≠ .cutOff) :
    ∃ t, s.CancelAnswers img n .ok result t ∧ t.crib = s.crib ∧
      (t.issueRec i).issue = some
        { x with
          deferrals := e.deferrals, offer := .unknown, phase := .withdrawing, request := none
          failure := some (x.failure.getD .cancelled) } ∧
      ∃ e' ∈ (t.cell x.cell).queue, e'.payload = .withdraw id x.tool x.slot ∧ e'.owner = .issue id := by
  obtain ⟨v, answers, crib, leaves⟩ := State.cancelIssue_withdraws cancels.issueIs phase pending
    (cancels.firstTaken first) waits seen room standing
  obtain ⟨t, answered, cribT, issue, queue⟩ := cancels.withdraws answers leaves
  exact ⟨t, answered, cribT.trans crib, issue, queue⟩

end

/-- A CANCEL that stops the unlock request of its issue (R148). -/
theorem State.CancelsIssue.stops (phase : x.phase = .unlockWait ∨ x.phase = .pickup) (request : x.request = some num)
    (live : State.RequestLive num s) (room : (s.cell x.cell).queue.length < 16) (standing : (s.cell x.cell).standing ≠ .cutOff) :
    ∃ t, s.CancelAnswers img n .ok result t ∧ s.RequestStopped num t ∧
      (t.issueRec i).issue = some
        { x with phase := .withdrawing, request := none, failure := some (x.failure.getD .cancelled) } ∧
      ∃ e' ∈ (t.cell x.cell).queue, e'.payload = .withdraw id x.tool x.slot ∧ e'.owner = .issue id := by
  obtain ⟨q, found, live⟩ := live
  obtain ⟨v, answers, stopped, leaves, -⟩ := State.cancelIssue_stops (s := s.taken n 0x14 img) cancels.issueIs phase request
    found live
  obtain ⟨t, answered, crib, issue, queue⟩ := cancels.withdraws answers (leaves room standing)
  exact ⟨t, answered, ((State.StoppedBy.of_same (s := s) stopped rfl rfl).requestStopped found).congr crib, issue, queue⟩

end

/-! ## Refusals (R184) -/

theorem doCancel_of_bad (bad : 1 < par1 img 0 ∨ (par1 img 0 = 0 ∧ (32 ≤ par1 img 1 ∨ par1 img 1 = n.val)) ∨
    (par1 img 0 = 1 ∧ par1 img 1 = 255)) (s : State) : doCancel img n s = s.refuse n .badParam := by
  unfold doCancel
  dsimp only
  rcases bad with above | ⟨kind, high | self⟩ | ⟨kind, free⟩
  · obtain ⟨k, isKind⟩ : ∃ k, par1 img 0 = k + 2 := ⟨par1 img 0 - 2, by omega⟩
    rw [isKind]
    rfl
  · rw [kind, asFin_eq_none high]
    rfl
  · rw [kind, self, asFin_val]
    exact if_pos rfl
  · rw [kind, free]
    exact if_neg (by decide)

end

/-- Settles O36: CANCEL by its target: the checks, the work of an order, the phase of an issue. -/
theorem cancelOrder : Obligations.CancelOrder := by
  unfold Obligations.CancelOrder
  intro img n s ok answers live stopped meansAnswers meansLive meansStopped
  obtain rfl : answers = s.CancelAnswers img n :=
    funext fun st => funext fun result => funext fun t => propext (meansAnswers st result t)
  obtain rfl : live = State.RequestLive := funext fun num => funext fun t => propext (meansLive num t)
  obtain rfl : stopped = s.RequestStopped := funext fun num => funext fun t => propext (meansStopped num t)
  refine ⟨fun bad => exec_refuses (k := .cancel) ok (doCancel_of_bad bad _), fun m kind names other => ⟨fun idle => ?_,
    fun c target plain context long unfinished isTarget isPlain => ?_⟩, fun kind valid noIssue => ?_,
    fun id i x result index issue kinds => ?_⟩
  · refine exec_refuses (k := .cancel) ok ((doCancel_of_slot kind names other).trans (State.cancelBySlot_of_idle ?_))
    rw [State.slot_taken_of_ne other]
    exact idle
  · have cancels : s.CancelsOrder img n m c := ⟨ok, kind, names, other, context, long, unfinished⟩
    obtain rfl : plain = plainResult m c := by rw [isPlain, isTarget]; rfl
    exact ⟨fun axes fz fx w work => cancels.home work, fun ml mr cycle work isCycle owner => cancels.calibrate work isCycle owner,
      fun x work away => ⟨fun cycle isCycle owner => cancels.measure work isCycle owner, cancels.measure_other work away⟩,
      fun x num work phase store live => cancels.storing work phase store live, fun w work live => cancels.stow work live,
      fun tool num work live => cancels.remove work live, fun p num work live => cancels.clearOut work live,
      fun r work moves live => cancels.returning work moves live,
      fun num r kinds found closing => cancels.closing kinds found closing, cancels.fixed⟩
  · have low : par1 img 1 ≤ 254 := by
      have byte : par1 img 1 < 256 := UInt8.toNat_lt _
      omega
    refine exec_refuses (k := .cancel) ok ((doCancel_of_id kind low).trans ?_)
    unfold State.cancelById
    rw [show (s.taken n OrderKind.cancel.code img).openIndex (par1 img 1) = none from noIssue]
  · have cancels : s.CancelsIssue img n id i x result := by
      rcases kinds with ⟨kind, names, valid, rfl⟩ | ⟨m, c, kind, names, other, context, long, unfinished, work, rfl⟩
      · exact State.cancelsIssue_of_id ok index issue kind names valid
      · exact State.cancelsIssue_of_slot ⟨ok, kind, names, other, context, long, unfinished⟩ index issue work
    exact ⟨fun phase => cancels.keeps (State.cancelIssue_of_transit cancels.issueIs phase),
      fun phase => cancels.keeps (State.cancelIssue_of_withdrawing cancels.issueIs phase),
      fun phase pending => cancels.keeps (State.cancelIssue_of_pending cancels.issueIs phase pending),
      fun e phase pending first => ⟨cancels.flying phase pending first, cancels.closes phase pending first,
        cancels.recalls phase pending first⟩,
      fun num phase request live room standing => cancels.stops phase request live room standing⟩

end Sys2Proof.Machine
end

section
/-! The queue place of an exchange, the best of a list, and one grant of a buffer (R94, R96). -/

namespace Sys2Proof.Machine

/-! ## The best of a list -/

section
variable {α : Type} {better : α → α → Bool} {y : α}

/-- The entry that betters every earlier one and that no later one betters is the best. -/
theorem bestBy_append {before after : List α} (earlier : ∀ x ∈ before, better y x = true)
    (later : ∀ x ∈ after, better x y = false) : bestBy better (before ++ y :: after) = some y := by
  induction before with
  | nil =>
    rw [List.nil_append]
    unfold bestBy
    cases best : bestBy better after with
    | none => rfl
    | some z => simp [later z (mem_of_bestBy best)]
  | cons x before ih =>
    rw [List.cons_append]
    unfold bestBy
    rw [ih fun x isIn => earlier x (List.mem_cons_of_mem _ isIn)]
    simp [earlier x List.mem_cons_self]

/-- No entry betters the best one. -/
theorem bestBy_unbettered (asymm : ∀ x y, better x y = true → better y x = false)
    (trans : ∀ x y z, better x y = false → better y z = false → better x z = false) {xs : List α}
    (best : bestBy better xs = some y) : ∀ z ∈ xs, better z y = false := by
  have irrefl (x : α) : better x x = false := by
    cases self : better x x with
    | false => rfl
    | true => exact self.symm.trans (asymm x x self)
  induction xs generalizing y with
  | nil => exact fun z isIn => nomatch isIn
  | cons x xs ih =>
    unfold bestBy at best
    cases later : bestBy better xs with
    | none =>
      rw [later] at best
      rw [bestBy_eq_none.mp later]
      obtain rfl := Option.some.inj best
      exact fun z isIn => List.mem_singleton.mp isIn ▸ irrefl _
    | some w =>
      rw [later] at best
      dsimp only at best
      have least := ih later
      split at best <;> rename_i beats
      · obtain rfl := Option.some.inj best
        exact fun z isIn => (List.mem_cons.mp isIn).elim (fun same => same ▸ asymm _ _ beats) (least z)
      · obtain rfl := Option.some.inj best
        exact fun z isIn => (List.mem_cons.mp isIn).elim (fun same => same ▸ irrefl _)
          fun isIn => trans z w _ (least z isIn) (Bool.eq_false_iff.mpr beats)

end

/-! ## Queues (R94, R96) -/

theorem insertExchange_eq (e : Exchange) (l : List Exchange) : insertExchange e l =
    l.takeWhile (fun y => decide (y.payload.cls ≤ e.payload.cls)) ++
      e :: l.dropWhile (fun y => decide (y.payload.cls ≤ e.payload.cls)) := by
  induction l with
  | nil => rfl
  | cons x l ih =>
    unfold insertExchange
    by_cases lower : x.payload.cls ≤ e.payload.cls
    · rw [if_pos lower, List.takeWhile_cons, List.dropWhile_cons, if_pos (decide_eq_true lower), if_pos (decide_eq_true lower), ih]
      rfl
    · rw [if_neg lower, List.takeWhile_cons, List.dropWhile_cons, if_neg (by simpa using lower), if_neg (by simpa using lower)]
      rfl

theorem modHead_append {f : Exchange → Exchange} {e : Exchange} {before after : List Exchange} (queued : e.step = .queued)
    (passed : ∀ x ∈ before, x.step ≠ .queued) : modHead f (before ++ e :: after) = before ++ f e :: after := by
  induction before with
  | nil => exact if_pos queued
  | cons x before ih =>
    rw [List.cons_append]
    unfold modHead
    rw [if_neg (passed x List.mem_cons_self), ih fun x isIn => passed x (List.mem_cons_of_mem _ isIn)]
    rfl

section
variable {s : State} {c : CellNo}

theorem State.modCell_congr {f g : Cell → Cell} (same : f (s.cell c) = g (s.cell c)) : s.modCell c f = s.modCell c g := by
  unfold State.modCell State.modLink
  exact congrArg (fun x => ({ s with link := { s.link with cells := s.link.cells.set c.1 x c.2 } } : State)) same

theorem State.queueExchange_of_full {p : Payload} {owner : ExchangeOwner} (full : 16 ≤ (s.cell c).queue.length) :
    s.queueExchange c p owner = (s, some .queueFull) := by
  have check : (s.cell c).queueCheck p = some .queueFull := if_pos full
  unfold State.queueExchange
  rw [check]

theorem State.queueExchange_of_cutOff {p : Payload} {owner : ExchangeOwner} (room : (s.cell c).queue.length < 16)
    (standing : (s.cell c).standing = .cutOff) (other : p ≠ .poll) : s.queueExchange c p owner = (s, some .cutOff) := by
  have check : (s.cell c).queueCheck p = some .cutOff := (if_neg (Nat.not_le.mpr room)).trans (if_pos ⟨standing, other⟩)
  unfold State.queueExchange
  rw [check]

theorem State.queueExchange_of_place {p : Payload} {owner : ExchangeOwner} (room : (s.cell c).queue.length < 16)
    (served : (s.cell c).standing ≠ .cutOff ∨ p = .poll) : s.queueExchange c p owner =
      (State.grantBuffers (s.modCell c fun x =>
        { x with queue := x.queue.takeWhile (fun y => decide (y.payload.cls ≤ p.cls)) ++
          s.newExchange p owner :: x.queue.dropWhile (fun y => decide (y.payload.cls ≤ p.cls)) }), none) := by
  have check : (s.cell c).queueCheck p = none :=
    (if_neg (Nat.not_le.mpr room)).trans (if_neg fun ⟨cut, other⟩ => served.elim (· cut) other)
  rw [State.queueExchange_taken_in check]
  have place (x : Cell) := insertExchange_eq (s.newExchange p owner) x.queue
  simp only [place]
  rfl

/-! ## Buffers and eligible heads (R96) -/

theorem State.bufferBusy_iff {b : Nat} : s.bufferBusy b = true ↔
    (∃ a, s.link.attempt = some a ∧ a.buffer = b) ∨ ∃ c, ∃ e ∈ (s.cell c).queue, e.buffer = some b := by
  unfold State.bufferBusy State.onLine
  rw [Bool.or_eq_true, Option.any_eq_true, List.any_eq_true]
  refine or_congr (by simp) ⟨fun ⟨x, isIn, any⟩ => ?_, fun ⟨c, e, isIn, holds⟩ => ?_⟩
  · obtain ⟨e, isInQueue, holds⟩ := List.any_eq_true.mp any
    obtain ⟨c, low, rfl⟩ := Vector.mem_iff_getElem.mp (Vector.mem_toList_iff.mp isIn)
    exact ⟨⟨c, low⟩, e, isInQueue, by simpa using holds⟩
  · exact ⟨s.cell c, Vector.mem_toList_iff.mpr (Vector.getElem_mem c.2), List.any_eq_true.mpr ⟨e, isIn, by simpa using holds⟩⟩

/-- No attempt and no exchange in flight holds the buffer, in the words of the statements. -/
theorem State.free_iff {b : Nat} : ((∀ a, s.link.attempt = some a → a.buffer ≠ b) ∧
    ∀ c, ∀ e ∈ (s.cell c).queue, e.buffer ≠ some b) ↔ s.bufferBusy b = false := by
  rw [← Bool.not_eq_true, State.bufferBusy_iff, not_or]
  push Not
  rfl

theorem Cell.eligibleHead_iff {x : Cell} {e : Exchange} : x.eligibleHead = some e ↔
    (∀ y ∈ x.queue, y.step ≠ .inFlight) ∧ x.queue.find? (fun y => y.step == .queued) = some e := by
  have none : x.inFlight.isSome = false ↔ ∀ y ∈ x.queue, y.step ≠ .inFlight := by
    unfold Cell.inFlight
    rw [Option.isSome_eq_false_iff, Option.isNone_iff_eq_none, List.find?_eq_none]
    simp
  unfold Cell.eligibleHead Cell.head
  cases flies : x.inFlight.isSome with
  | true =>
    refine ⟨fun head => (nomatch head), fun ⟨still, _⟩ => ?_⟩
    exact Bool.noConfusion (flies.symm.trans (none.mpr still))
  | false => exact ⟨fun head => ⟨none.mp flies, head⟩, fun both => both.2⟩

theorem State.mem_candidates {poll : Bool} {e : Exchange} : (c, e) ∈ s.candidates poll ↔
    (s.cell c).eligibleHead = some e ∧ e.isPoll = poll := by
  unfold State.candidates
  simp only [List.mem_filterMap, List.mem_finRange, true_and, Option.map_eq_some_iff, Option.filter_eq_some_iff, Prod.mk.injEq,
    beq_iff_eq]
  constructor
  · rintro ⟨d, f, ⟨head, isPoll⟩, rfl, rfl⟩
    exact ⟨head, isPoll⟩
  · rintro ⟨head, isPoll⟩
    exact ⟨c, e, ⟨head, isPoll⟩, rfl, rfl⟩

theorem State.candidates_eq_nil {poll : Bool} : s.candidates poll = [] ↔
    ∀ c e, (s.cell c).eligibleHead = some e → e.isPoll ≠ poll := by
  rw [List.eq_nil_iff_forall_not_mem]
  constructor
  · exact fun none c e head isPoll => none (c, e) (State.mem_candidates.mpr ⟨head, isPoll⟩)
  · rintro none ⟨c, e⟩ isIn
    obtain ⟨head, isPoll⟩ := State.mem_candidates.mp isIn
    exact none c e head isPoll

theorem State.sorted_candidates {poll : Bool} : (s.candidates poll).Pairwise fun a b => a.1 < b.1 := by
  unfold State.candidates
  refine List.Pairwise.filterMap _ (R := fun a b => a < b) (fun a b lower x isX y isY => ?_) (List.pairwise_lt_finRange 24)
  obtain ⟨e, -, rfl⟩ := Option.map_eq_some_iff.mp isX
  obtain ⟨f, -, rfl⟩ := Option.map_eq_some_iff.mp isY
  exact lower

/-- The candidate that betters those before it in address order and that no one after it betters. -/
theorem State.bestBy_candidates {poll : Bool} {e : Exchange} {better : CellNo × Exchange → CellNo × Exchange → Bool}
    (head : (s.cell c).eligibleHead = some e) (isPoll : e.isPoll = poll)
    (earlier : ∀ d x, d < c → (s.cell d).eligibleHead = some x → x.isPoll = poll → better (c, e) (d, x) = true)
    (later : ∀ d x, c < d → (s.cell d).eligibleHead = some x → x.isPoll = poll → better (d, x) (c, e) = false) :
    bestBy better (s.candidates poll) = some (c, e) := by
  have isIn := State.mem_candidates.mpr ⟨head, isPoll⟩
  have sorted := State.sorted_candidates (s := s) (poll := poll)
  have members (d : CellNo) (x : Exchange) := State.mem_candidates (s := s) (c := d) (e := x) (poll := poll)
  generalize s.candidates poll = l at isIn sorted members ⊢
  obtain ⟨before, after, rfl⟩ := List.append_of_mem isIn
  obtain ⟨-, sortedAfter, across⟩ := List.pairwise_append.mp sorted
  refine bestBy_append (fun ⟨d, x⟩ isBefore => ?_) fun ⟨d, x⟩ isAfter => ?_
  · obtain ⟨headX, isPollX⟩ := (members d x).mp (List.mem_append_left _ isBefore)
    exact earlier d x (across _ isBefore _ List.mem_cons_self) headX isPollX
  · obtain ⟨headX, isPollX⟩ := (members d x).mp (List.mem_append_right _ (List.mem_cons_of_mem _ isAfter))
    exact later d x ((List.pairwise_cons.mp sortedAfter).1 _ isAfter) headX isPollX

theorem Exchange.isPoll_iff {e : Exchange} : e.isPoll = true ↔ e.payload = .poll := by
  unfold Exchange.isPoll
  exact beq_iff_eq

theorem Exchange.isPoll_eq_false {e : Exchange} : e.isPoll = false ↔ e.payload ≠ .poll := by
  rw [← Bool.not_eq_true, Exchange.isPoll_iff]

end

end Sys2Proof.Machine
end

section
/-! The grants of buffers, and that the grant rule leaves nothing to grant (R96). -/

namespace Sys2Proof.Machine

section
variable {s : State} {c : CellNo} {b : Nat} {e : Exchange}

/-! ## Which buffer and which cell (R96) -/

theorem State.emptyBuffer_eq_none : s.emptyBuffer = none ↔ ∀ b, 2 ≤ b → b ≤ 7 → s.bufferBusy b = true := by
  unfold State.emptyBuffer
  rw [List.find?_eq_none]
  constructor
  · intro busy b low high
    have isIn : b ∈ [2, 3, 4, 5, 6, 7] := by
      simp only [List.mem_cons, List.not_mem_nil, or_false]
      omega
    simpa using busy b isIn
  · intro busy b isIn
    simp only [List.mem_cons, List.not_mem_nil, or_false] at isIn
    have holds := busy b (by omega) (by omega)
    simp [holds]

theorem State.emptyBuffer_eq_some (low : 2 ≤ b) (high : b ≤ 7) (free : s.bufferBusy b = false)
    (busy : ∀ k, 2 ≤ k → k < b → s.bufferBusy k = true) : s.emptyBuffer = some b := by
  have split : [2, 3, 4, 5, 6, 7] = List.range' 2 (b - 2) ++ b :: List.range' (b + 1) (7 - b) := by
    interval_cases b <;> rfl
  unfold State.emptyBuffer
  rw [split, List.find?_append, List.find?_eq_none.mpr, List.find?_cons_of_pos (by simp [free])]
  · rfl
  · intro k isIn
    have := List.mem_range'_1.mp isIn
    simp [busy k (by omega) (by omega)]

theorem State.of_emptyBuffer (empty : s.emptyBuffer = some b) : 2 ≤ b ∧ b ≤ 7 ∧ s.bufferBusy b = false := by
  have isIn := List.mem_of_find?_eq_some empty
  have free := List.find?_some empty
  simp only [List.mem_cons, List.not_mem_nil, or_false] at isIn
  exact ⟨by omega, by omega, by simpa using free⟩

theorem State.nextGrant_eq_none : s.nextGrant = none ↔ ∀ c e, (s.cell c).eligibleHead = some e → e.payload = .poll := by
  unfold State.nextGrant
  rw [Option.map_eq_none_iff, bestBy_eq_none, State.candidates_eq_nil]
  simp only [ne_eq, Bool.not_eq_false, Exchange.isPoll_iff]

theorem State.of_nextGrant (next : s.nextGrant = some c) : ∃ e, (s.cell c).eligibleHead = some e ∧ e.payload ≠ .poll := by
  unfold State.nextGrant at next
  obtain ⟨⟨d, e⟩, best, rfl⟩ := Option.map_eq_some_iff.mp next
  obtain ⟨head, notPoll⟩ := State.mem_candidates.mp (mem_of_bestBy best)
  exact ⟨e, head, Exchange.isPoll_eq_false.mp notPoll⟩

theorem State.nextPoll_eq_none : s.nextPoll = none ↔ ∀ c e, (s.cell c).eligibleHead = some e → e.payload ≠ .poll := by
  unfold State.nextPoll
  rw [Option.map_eq_none_iff, bestBy_eq_none, State.candidates_eq_nil]
  simp only [ne_eq, Exchange.isPoll_iff]

theorem State.of_nextPoll (next : s.nextPoll = some c) : ∃ e, (s.cell c).eligibleHead = some e := by
  unfold State.nextPoll at next
  obtain ⟨⟨d, e⟩, best, rfl⟩ := Option.map_eq_some_iff.mp next
  exact ⟨e, (State.mem_candidates.mp (mem_of_bestBy best)).1⟩

/-! ## One grant (R96) -/

/-- Nothing to grant of buffers 2 to 7. -/
def State.sated (s : State) : Prop := s.emptyBuffer = none ∨ s.nextGrant = none

theorem State.grantOne_of_sated (sated : s.sated) : s.grantOne = s := by
  unfold State.grantOne
  rcases sated with full | idle
  · rw [full]
  · rw [idle]
    cases s.emptyBuffer <;> rfl

theorem State.grantOne_of_next (empty : s.emptyBuffer = some b) (next : s.nextGrant = some c) : s.grantOne =
    s.modCell c fun x => { x with queue := modHead (Exchange.granted b) x.queue, lastGrant := s.clock } := by
  unfold State.grantOne
  rw [empty, next]

theorem State.grantPoll_of_idle (idle : s.bufferBusy 1 = true ∨ s.nextPoll = none) : s.grantPoll = s := by
  unfold State.grantPoll
  rcases idle with busy | none
  · exact if_pos busy
  · rw [none, ite_self]

theorem State.grantPoll_of_next (free : s.bufferBusy 1 = false) (next : s.nextPoll = some c) : s.grantPoll =
    s.modCell c fun x => { x with queue := modHead (Exchange.granted 1) x.queue } := by
  unfold State.grantPoll
  rw [if_neg (by simp [free]), next]

/-- Among equal classes the older last grant, of equal ones the lower address: the cell that a buffer goes to (R96). -/
theorem State.nextGrant_eq_some (head : (s.cell c).eligibleHead = some e) (other : e.payload ≠ .poll)
    (best : ∀ d x, d ≠ c → (s.cell d).eligibleHead = some x → x.payload ≠ .poll → e.payload.cls < x.payload.cls ∨
      (e.payload.cls = x.payload.cls ∧
        ((s.clock - (s.cell d).lastGrant).toNat < (s.clock - (s.cell c).lastGrant).toNat ∨
          ((s.clock - (s.cell d).lastGrant).toNat = (s.clock - (s.cell c).lastGrant).toNat ∧ c < d)))) :
    s.nextGrant = some c := by
  unfold State.nextGrant
  rw [State.bestBy_candidates head (Exchange.isPoll_eq_false.mpr other) (fun d x lower headX notPoll => ?_)
    fun d x higher headX notPoll => ?_]
  · rfl
  · simp only [Bool.or_eq_true, Bool.and_eq_true, decide_eq_true_eq, beq_iff_eq]
    rcases best d x (Fin.ne_of_lt lower) headX (Exchange.isPoll_eq_false.mp notPoll) with lowerClass | ⟨same, older | ⟨-, higher⟩⟩
    · exact .inl lowerClass
    · exact .inr ⟨same, older⟩
    · exact absurd higher (Nat.lt_asymm lower)
  · have := best d x (Fin.ne_of_gt higher) headX (Exchange.isPoll_eq_false.mp notPoll)
    simp only [Bool.or_eq_false_iff, Bool.and_eq_false_iff, decide_eq_false_iff_not, beq_eq_false_iff_ne, ne_eq]
    unfold age
    omega

/-- The POLL with the oldest stamp, of equal ones at the lower address (R96). -/
theorem State.nextPoll_eq_some (head : (s.cell c).eligibleHead = some e) (poll : e.payload = .poll)
    (best : ∀ d x, d ≠ c → (s.cell d).eligibleHead = some x → x.payload = .poll →
      (s.clock - x.stamp).toNat < (s.clock - e.stamp).toNat ∨
        ((s.clock - x.stamp).toNat = (s.clock - e.stamp).toNat ∧ c < d)) : s.nextPoll = some c := by
  unfold State.nextPoll
  rw [State.bestBy_candidates head (Exchange.isPoll_iff.mpr poll) (fun d x lower headX isPoll => ?_)
    fun d x higher headX isPoll => ?_]
  · rfl
  · rcases best d x (Fin.ne_of_lt lower) headX (Exchange.isPoll_iff.mp isPoll) with older | ⟨-, higher⟩
    · exact decide_eq_true older
    · exact absurd higher (Nat.lt_asymm lower)
  · have := best d x (Fin.ne_of_gt higher) headX (Exchange.isPoll_iff.mp isPoll)
    rw [decide_eq_false_iff_not]
    unfold age
    dsimp only
    omega

/-! ## What a grant makes of the queue -/

variable {before after : List Exchange}

theorem Cell.eligibleHead_split {x : Cell} (head : x.eligibleHead = some e) (queue : x.queue = before ++ e :: after)
    (passed : ∀ y ∈ before, y.step ≠ .queued) (f : Exchange → Exchange) : modHead f x.queue = before ++ f e :: after := by
  have queued : e.step = .queued := by simpa using List.find?_some (Cell.eligibleHead_iff.mp head).2
  rw [queue, modHead_append queued passed]

theorem State.grantOne_eq (low : 2 ≤ b) (high : b ≤ 7) (free : s.bufferBusy b = false)
    (busy : ∀ k, 2 ≤ k → k < b → s.bufferBusy k = true) (head : (s.cell c).eligibleHead = some e) (other : e.payload ≠ .poll)
    (queue : (s.cell c).queue = before ++ e :: after) (passed : ∀ y ∈ before, y.step ≠ .queued)
    (best : ∀ d x, d ≠ c → (s.cell d).eligibleHead = some x → x.payload ≠ .poll → e.payload.cls < x.payload.cls ∨
      (e.payload.cls = x.payload.cls ∧
        ((s.clock - (s.cell d).lastGrant).toNat < (s.clock - (s.cell c).lastGrant).toNat ∨
          ((s.clock - (s.cell d).lastGrant).toNat = (s.clock - (s.cell c).lastGrant).toNat ∧ c < d)))) :
    s.grantOne = s.modCell c fun y => { y with lastGrant := s.clock, queue := before ++ Exchange.granted b e :: after } := by
  rw [State.grantOne_of_next (State.emptyBuffer_eq_some low high free busy) (State.nextGrant_eq_some head other best)]
  refine State.modCell_congr ?_
  rw [Cell.eligibleHead_split head queue passed]

theorem State.grantPoll_eq (free : s.bufferBusy 1 = false) (head : (s.cell c).eligibleHead = some e) (poll : e.payload = .poll)
    (queue : (s.cell c).queue = before ++ e :: after) (passed : ∀ y ∈ before, y.step ≠ .queued)
    (best : ∀ d x, d ≠ c → (s.cell d).eligibleHead = some x → x.payload = .poll →
      (s.clock - x.stamp).toNat < (s.clock - e.stamp).toNat ∨
        ((s.clock - x.stamp).toNat = (s.clock - e.stamp).toNat ∧ c < d)) :
    s.grantPoll = s.modCell c fun y => { y with queue := before ++ Exchange.granted 1 e :: after } := by
  rw [State.grantPoll_of_next free (State.nextPoll_eq_some head poll best)]
  refine State.modCell_congr ?_
  rw [Cell.eligibleHead_split head queue passed]

end

/-! ## The grant rule leaves nothing to grant (R96) -/

/-- Only exchanges in flight hold a buffer. -/
def State.held (s : State) : Prop := ∀ c, ∀ e ∈ (s.cell c).queue, e.step ≠ .inFlight → e.buffer = none

section
variable {s : State} {c : CellNo} {b k : Nat} {e : Exchange} {f : Cell → Cell}

theorem mem_modHead_granted {l : List Exchange} {y : Exchange} (isIn : y ∈ modHead (Exchange.granted b) l) :
    y ∈ l ∨ (y.step = .inFlight ∧ y.buffer = some b) := by
  induction l with
  | nil => exact nomatch isIn
  | cons x l ih =>
    unfold modHead at isIn
    split at isIn
    · exact (List.mem_cons.mp isIn).elim (fun same => .inr (same ▸ ⟨rfl, rfl⟩)) fun isIn => .inl (List.mem_cons_of_mem _ isIn)
    · exact (List.mem_cons.mp isIn).elim (fun same => .inl (same ▸ List.mem_cons_self))
        fun isIn => (ih isIn).imp_left (List.mem_cons_of_mem _)

theorem flies_modHead_granted {l : List Exchange} (queued : ∃ e ∈ l, e.step = .queued) :
    ∃ y ∈ modHead (Exchange.granted b) l, y.step = .inFlight := by
  obtain ⟨q, isIn, queued⟩ := queued
  induction l with
  | nil => exact nomatch isIn
  | cons x l ih =>
    unfold modHead
    by_cases first : x.step = .queued
    · rw [if_pos first]
      exact ⟨_, List.mem_cons_self, rfl⟩
    · rw [if_neg first]
      obtain ⟨y, isIn, flies⟩ := ih ((List.mem_cons.mp isIn).resolve_left fun same => first (same ▸ queued))
      exact ⟨y, List.mem_cons_of_mem _ isIn, flies⟩

theorem Cell.queued_of_head {x : Cell} (head : x.eligibleHead = some e) : ∃ e ∈ x.queue, e.step = .queued :=
  have find := (Cell.eligibleHead_iff.mp head).2
  ⟨e, List.mem_of_find?_eq_some find, by simpa using List.find?_some find⟩

/-- The buffers that a queue holds once its head is granted one. -/
theorem buffer_modHead_granted {l : List Exchange} (held : ∀ e ∈ l, e.step ≠ .inFlight → e.buffer = none)
    (queued : ∃ e ∈ l, e.step = .queued) : (∃ e ∈ modHead (Exchange.granted b) l, e.buffer = some k) ↔
      (∃ e ∈ l, e.buffer = some k) ∨ k = b := by
  obtain ⟨q, isIn, queued⟩ := queued
  induction l with
  | nil => exact nomatch isIn
  | cons x l ih =>
    unfold modHead
    by_cases first : x.step = .queued
    · rw [if_pos first]
      have empty : x.buffer = none := held x List.mem_cons_self (by rw [first]; decide)
      simp only [List.exists_mem_cons_iff, empty, reduceCtorEq, false_or]
      change some b = some k ∨ _ ↔ _
      rw [Option.some_inj, or_comm, eq_comm]
    · rw [if_neg first]
      have isIn : q ∈ l := (List.mem_cons.mp isIn).resolve_left fun same => first (same ▸ queued)
      simp only [List.exists_mem_cons_iff, ih (fun e isIn => held e (List.mem_cons_of_mem _ isIn)) isIn]
      rw [or_assoc]

section
variable (grants : (f (s.cell c)).queue = modHead (Exchange.granted b) (s.cell c).queue)
include grants

theorem State.held_grant (held : s.held) : (s.modCell c f).held := by
  intro d y isIn notInFlight
  rw [State.cell_modCell] at isIn
  split at isIn
  · rw [grants] at isIn
    rcases mem_modHead_granted isIn with isIn | ⟨flies, -⟩
    · exact held c y isIn notInFlight
    · exact absurd flies notInFlight
  · exact held d y isIn notInFlight

/-- A grant takes its buffer and gives none back. -/
theorem State.bufferBusy_grant (held : s.held) (head : (s.cell c).eligibleHead = some e) :
    (s.modCell c f).bufferBusy k = true ↔ s.bufferBusy k = true ∨ k = b := by
  have here := buffer_modHead_granted (b := b) (k := k) (held c) (Cell.queued_of_head head)
  have cells : (∃ d, ∃ y ∈ ((s.modCell c f).cell d).queue, y.buffer = some k) ↔
      (∃ d, ∃ y ∈ (s.cell d).queue, y.buffer = some k) ∨ k = b := by
    constructor
    · rintro ⟨d, some⟩
      rw [State.cell_modCell] at some
      split at some
      · rw [grants] at some
        exact (here.mp some).imp_left fun holds => ⟨c, holds⟩
      · exact .inl ⟨d, some⟩
    · intro holds
      by_cases atC : (∃ y ∈ (s.cell c).queue, y.buffer = some k) ∨ k = b
      · refine ⟨c, ?_⟩
        rw [State.cell_modCell, if_pos rfl, grants]
        exact here.mpr atC
      · obtain ⟨d, some⟩ := holds.resolve_right fun same => atC (.inr same)
        refine ⟨d, ?_⟩
        rw [State.cell_modCell, if_neg fun same : c = d => atC (.inl (same ▸ some))]
        exact some
  rw [State.bufferBusy_iff, State.bufferBusy_iff, cells, or_assoc]
  rfl

end

/-- The empty ones of buffers 2 to 7. -/
def State.emptyBuffers (s : State) : Finset Nat := (Finset.Icc 2 7).filter fun b => s.bufferBusy b = false

theorem State.held_grantOne (held : s.held) : s.grantOne.held := by
  unfold State.grantOne
  split
  · exact State.held_grant rfl held
  · exact held

/-- Each grant takes one of the empty buffers, as long as there is something to grant. -/
theorem State.grantOne_progress (held : s.held) : s.sated ∨ s.grantOne.emptyBuffers.card < s.emptyBuffers.card := by
  cases empty : s.emptyBuffer with
  | none => exact .inl (.inl empty)
  | some b =>
    cases next : s.nextGrant with
    | none => exact .inl (.inr next)
    | some c =>
      obtain ⟨low, high, free⟩ := State.of_emptyBuffer empty
      obtain ⟨e, head, -⟩ := State.of_nextGrant next
      refine .inr (Finset.card_lt_card ?_)
      rw [State.grantOne_of_next empty next]
      have busy (k : Nat) := State.bufferBusy_grant (s := s) (c := c) (b := b) (k := k) (e := e)
        (f := fun x => { x with queue := modHead (Exchange.granted b) x.queue, lastGrant := s.clock }) rfl held head
      refine Finset.ssubset_iff_of_subset (fun k isIn => ?_) |>.mpr ⟨b, ?_, ?_⟩
      · obtain ⟨range, free⟩ := Finset.mem_filter.mp isIn
        refine Finset.mem_filter.mpr ⟨range, Bool.eq_false_iff.mpr fun was => ?_⟩
        exact Bool.false_ne_true (free.symm.trans ((busy k).mpr (.inl was)))
      · exact Finset.mem_filter.mpr ⟨Finset.mem_Icc.mpr ⟨low, high⟩, free⟩
      · intro isIn
        exact Bool.false_ne_true ((Finset.mem_filter.mp isIn).2.symm.trans ((busy b).mpr (.inr rfl)))

/-- As many grants as there are empty buffers leave nothing to grant. -/
theorem State.sated_after (held : s.held) : ∀ m, s.emptyBuffers.card ≤ m →
    ((State.grantOne^[m]) s).held ∧ ((State.grantOne^[m]) s).sated := by
  intro m
  induction m generalizing s with
  | zero =>
    intro none
    refine ⟨held, .inl (State.emptyBuffer_eq_none.mpr fun b low high => ?_)⟩
    have empty : s.emptyBuffers = ∅ := Finset.card_eq_zero.mp (Nat.le_zero.mp none)
    by_contra free
    have isIn : b ∈ s.emptyBuffers :=
      Finset.mem_filter.mpr ⟨Finset.mem_Icc.mpr ⟨low, high⟩, Bool.eq_false_iff.mpr free⟩
    rw [empty] at isIn
    exact Finset.notMem_empty b isIn
  | succ m ih =>
    intro few
    rw [Function.iterate_succ_apply]
    rcases State.grantOne_progress held with sated | fewer
    · have fixed := State.grantOne_of_sated sated
      rw [fixed]
      have stays (m : Nat) : (State.grantOne^[m]) s = s := Function.iterate_fixed fixed m
      rw [stays]
      exact ⟨held, sated⟩
    · exact ih (State.held_grantOne held) (by omega)

theorem State.card_emptyBuffers : s.emptyBuffers.card ≤ 6 := (Finset.card_filter_le _ _).trans_eq rfl

/-- The grant of buffer 1 leaves nothing to grant where nothing else was. -/
theorem State.grantPoll_final (held : s.held) (sated : s.sated) :
    s.grantPoll.sated ∧ (s.grantPoll.bufferBusy 1 = true ∨ s.grantPoll.nextPoll = none) := by
  cases busy : s.bufferBusy 1 with
  | true =>
    rw [State.grantPoll_of_idle (.inl busy)]
    exact ⟨sated, .inl busy⟩
  | false =>
    cases next : s.nextPoll with
    | none =>
      rw [State.grantPoll_of_idle (.inr next)]
      exact ⟨sated, .inr next⟩
    | some c =>
      obtain ⟨e, head⟩ := State.of_nextPoll next
      rw [State.grantPoll_of_next busy next]
      have taken (k : Nat) := State.bufferBusy_grant (s := s) (c := c) (b := 1) (k := k) (e := e)
        (f := fun x => { x with queue := modHead (Exchange.granted 1) x.queue }) rfl held head
      refine ⟨sated.imp (fun full => ?_) fun idle => ?_, .inl ((taken 1).mpr (.inr rfl))⟩
      · exact State.emptyBuffer_eq_none.mpr fun b low high => (taken b).mpr (.inl (State.emptyBuffer_eq_none.mp full b low high))
      · refine State.nextGrant_eq_none.mpr fun d x headX => ?_
        rw [State.cell_modCell] at headX
        split at headX
        · obtain ⟨y, isIn, flies⟩ := flies_modHead_granted (b := 1) (Cell.queued_of_head head)
          exact absurd flies ((Cell.eligibleHead_iff.mp headX).1 y isIn)
        · exact State.nextGrant_eq_none.mp idle d x headX

end

end Sys2Proof.Machine
end

section
/-! O53: transmit attempts, lost arbitration, transmit faults and the idle recovery (R88, R89, R103 to R105). -/

namespace Sys2Proof.Machine

section
variable {s : State} {a : Attempt}

/-! ## The grant rule (R96, R104) -/

theorem State.grantBuffers_of_off (off : s.link.state = .off) : s.grantBuffers = s := if_pos off

theorem State.grantBuffers_of_active (active : s.link.state = .active) :
    s.grantBuffers = s.grantOne.grantOne.grantOne.grantOne.grantOne.grantOne.grantPoll := if_neg (by simp [active])

theorem State.grantBuffers_final (active : s.link.state = .active) (held : s.held) :
    s.grantBuffers.grantOne = s.grantBuffers ∧ s.grantBuffers.grantPoll = s.grantBuffers := by
  obtain ⟨held, sated⟩ := State.sated_after held 6 State.card_emptyBuffers
  obtain ⟨sated, idle⟩ := State.grantPoll_final held sated
  rw [State.grantBuffers_of_active active]
  exact ⟨State.grantOne_of_sated sated, State.grantPoll_of_idle idle⟩

/-! ## The frame that goes on the line (R88) -/

theorem State.mem_readyFrames : a ∈ s.readyFrames ↔
    (∃ c e, (s.cell c).inFlight = some e ∧ e.window = none ∧
      a = { buffer := e.buffer.getD 1, frame := e.payload.frame c, exchange := some (c, e.owner), attached := true }) ∨
    (∃ cs, s.link.buffer0 = some cs ∧ a = { buffer := 0, frame := cs.frame, exchange := none, attached := true }) := by
  unfold State.readyFrames Cell.ready
  simp only [List.mem_append, List.mem_filterMap, List.mem_finRange, true_and, Option.map_eq_some_iff,
    Option.filter_eq_some_iff, Option.mem_toList, Option.isNone_iff_eq_none, and_assoc]
  simp only [eq_comm]

/-- The frame of the lowest class, of equal ones that of the lowest destination (R88). -/
theorem State.nextAttempt_least (next : s.nextAttempt = some a) : ∀ b ∈ s.readyFrames,
    a.frame.cls < b.frame.cls ∨ (a.frame.cls = b.frame.cls ∧ a.frame.dest ≤ b.frame.dest) := by
  intro b isIn
  have least := bestBy_unbettered (fun x y beats => ?_) (fun x y z first second => ?_) next b isIn
  · simp only [Bool.or_eq_false_iff, Bool.and_eq_false_iff, decide_eq_false_iff_not, beq_eq_false_iff_ne, ne_eq] at least
    omega
  · simp only [Bool.or_eq_true, Bool.and_eq_true, decide_eq_true_eq, beq_iff_eq] at beats
    simp only [Bool.or_eq_false_iff, Bool.and_eq_false_iff, decide_eq_false_iff_not, beq_eq_false_iff_ne, ne_eq]
    omega
  · simp only [Bool.or_eq_false_iff, Bool.and_eq_false_iff, decide_eq_false_iff_not, beq_eq_false_iff_ne, ne_eq] at first second ⊢
    omega

theorem exec_attempt_of_none (idle : s.link.state = .off ∨ s.link.attempt.isSome = true ∨ s.readyFrames = []) :
    exec .transmitAttempt s = .next s := by
  change execTransmitAttempt s = _
  unfold execTransmitAttempt
  rcases idle with off | busy | empty
  · exact if_neg fun both => by simp [off] at both
  · exact if_neg fun both => by simp [both.2] at busy
  · have none : s.nextAttempt = none := bestBy_eq_none.mpr empty
    rw [none, ite_self]

theorem exec_attempt_of_ready (active : s.link.state = .active) (free : s.link.attempt = none) (ready : s.readyFrames ≠ []) :
    ∃ a ∈ s.readyFrames, exec .transmitAttempt s = .next { s with link := { s.link with attempt := some a, slotDriven := false } } ∧
      ∀ b ∈ s.readyFrames, a.frame.cls < b.frame.cls ∨ (a.frame.cls = b.frame.cls ∧ a.frame.dest ≤ b.frame.dest) := by
  cases next : s.nextAttempt with
  | none => exact absurd (bestBy_eq_none.mp next) ready
  | some a =>
    refine ⟨a, mem_of_bestBy next, ?_, State.nextAttempt_least next⟩
    change execTransmitAttempt s = _
    unfold execTransmitAttempt
    rw [if_pos ⟨active, free⟩, next]
    rfl

/-! ## The end of an attempt (R89, R103, R135) -/

theorem exec_loss_of_none (none : s.link.attempt = none) :
    exec .lostArbitration s = .next s ∧ exec .transmitFault s = .next s := by
  change execLostArbitration s = _ ∧ execTransmitFault s = _
  unfold execLostArbitration execTransmitFault
  rw [none]
  exact ⟨rfl, rfl⟩

/-- The attempt over, in the words of the statement. -/
theorem State.attemptOver_eq {done : State} (a : Attempt) (isDone : done =
    if a.buffer = 0 then
      { s with link :=
        { s.link with attempt := none, buffer0 := s.link.next0.orElse fun _ => s.link.buffer0, next0 := none } }
    else if a.attached = true then { s with link := { s.link with attempt := none } }
    else State.grantBuffers { s with link := { s.link with attempt := none } }) : s.attemptOver a = done := by
  subst isDone
  rfl

theorem State.openIndex_attemptOver (id : Nat) : (s.attemptOver a).openIndex id = s.openIndex id := by
  have issues : (s.attemptOver a).issues = s.issues := by
    unfold State.attemptOver
    dsimp only
    split
    · rfl
    · split
      · rfl
      · rw [State.grantBuffers_eq]
        rfl
  unfold State.openIndex State.issueRec
  rw [issues]

section
variable (attempt : s.link.attempt = some a)
include attempt

theorem exec_lostArbitration : exec .lostArbitration s = .next ((s.attemptOver a).noticeLoss a) := by
  change execLostArbitration s = _
  unfold execLostArbitration
  rw [attempt]

theorem exec_loss_of_issue {c : CellNo} {id : Nat} {i : IssueNo} (exchange : a.exchange = some (c, .issue id))
    (isOpen : s.openIndex id = some i) : exec .lostArbitration s =
      .next ((s.attemptOver a).modIssue i fun x => { x with losses := min 65535 (x.losses + 1) }) := by
  rw [exec_lostArbitration attempt]
  unfold State.noticeLoss
  rw [exchange]
  dsimp only
  rw [State.openIndex_attemptOver, isOpen]

theorem exec_loss_of_other (other : ∀ c id, a.exchange = some (c, .issue id) → s.openIndex id = none) :
    exec .lostArbitration s = .next (s.attemptOver a) := by
  rw [exec_lostArbitration attempt]
  unfold State.noticeLoss
  split
  · rename_i c id exchange
    rw [State.openIndex_attemptOver, other c id exchange]
  · rfl

theorem exec_transmitFault : exec .transmitFault s = .next (s.countFault a) := by
  change execTransmitFault s = _
  unfold execTransmitFault
  rw [attempt]

theorem exec_fault_of_low (low : s.link.errors + 8 ≤ 255) : exec .transmitFault s =
    .next (State.attemptOver a { s with link := { s.link with errors := s.link.errors + 8 } }) := by
  have counts : s.countFault a = State.attemptOver a { s with link := { s.link with errors := s.link.errors + 8 } } :=
    if_neg (Nat.not_lt.mpr low)
  rw [exec_transmitFault attempt, counts]

/-- The link goes OFF (R103, R104). -/
theorem exec_fault_of_high (high : 255 < s.link.errors + 8) : ∃ u : State, exec .transmitFault s = .next (u.handReport
      { Report.blank .linkState with code := 1, detail := .plain (le 1 1 ++ le 2 (s.link.errors + 8)) }) ∧
    u = { s with link := u.link } ∧ u.link.state = .off ∧ u.link.attempt = none ∧ u.link.slotDriven = false ∧
    u.link.errors = s.link.errors + 8 ∧ u.link.idle = 0 ∧ u.link.next0 = none ∧
    u.link.buffer0 = (s.link.next0.orElse fun _ => s.link.buffer0) ∧
    ∀ c, (u.cell c).queue = (s.cell c).queue.map fun e : Exchange =>
      if e.step = ExchangeStep.inFlight then
        { e with step := .queued, buffer := none, window := none, resumes := true }
      else e := by
  have counts : s.countFault a = State.enterOff { s with link := { s.link with errors := s.link.errors + 8 } } := if_pos high
  refine ⟨_, (exec_transmitFault attempt).trans (congrArg Host.Outcome.next counts), rfl, rfl, rfl, rfl, rfl, rfl, rfl, rfl,
    fun c => ?_⟩
  exact congrArg Cell.queue (get_mapVec ..)

end

/-! ## The idle recovery (R105) -/

theorem exec_idleRecovery_of_active (active : s.link.state = .active) : exec .idleRecovery s = .next s :=
  if_neg (by simp [active])

theorem exec_idleRecovery_counts (off : s.link.state = .off) (early : s.link.idle < 127) : exec .idleRecovery s =
    .next { s with link := { s.link with idle := s.link.idle + 1 } } :=
  (if_pos off).trans (if_pos (Nat.succ_lt_succ early))

theorem exec_idleRecovery_recovers (off : s.link.state = .off) (late : 127 ≤ s.link.idle) :
    exec .idleRecovery s = .next (State.grantBuffers (State.handReport
      { Report.blank .linkState with code := 2, detail := .plain (le 1 0 ++ le 2 0) }
      { s with link := { s.link with state := .active, errors := 0, idle := 0 } })) := by
  have recovers : s.linkActive .idleRecovery = State.handReport
      { Report.blank .linkState with code := 2, detail := .plain (le 1 0 ++ le 2 0) }
      { s with link := { s.link with state := .active, errors := 0, idle := 0 } } := if_pos off
  rw [← recovers]
  exact (if_pos off).trans (if_neg (Nat.not_lt.mpr (Nat.succ_le_succ late)))

end

/-- Settles O53: the queue place, the grants one by one and together, the attempt chosen and its ends, and the recovery. -/
theorem transmitAttempts : Obligations.TransmitAttempts := by
  unfold Obligations.TransmitAttempts
  refine ⟨fun c p owner s => ⟨State.queueExchange_of_full, State.queueExchange_of_cutOff, State.queueExchange_of_place⟩,
    fun s free eligible meansFree meansEligible => ?_,
    fun s => ⟨State.grantBuffers_of_off, fun active => ⟨State.grantBuffers_of_active active, State.grantBuffers_final active⟩⟩,
    fun s => ⟨exec_attempt_of_none, exec_attempt_of_ready, fun a => State.mem_readyFrames, exec_loss_of_none,
      fun a done attempt isDone => ⟨fun c id i exchange isOpen => ?_, fun other => ?_, fun low => ?_⟩,
      fun a attempt high => exec_fault_of_high attempt high, exec_idleRecovery_of_active, exec_idleRecovery_counts,
      exec_idleRecovery_recovers⟩⟩
  · have free (b : Nat) : free b ↔ s.bufferBusy b = false := (meansFree b).trans State.free_iff
    have eligible (c : CellNo) (e : Exchange) : eligible c e ↔ (s.cell c).eligibleHead = some e :=
      (meansEligible c e).trans Cell.eligibleHead_iff.symm
    simp only [free, eligible, Bool.not_eq_false]
    refine ⟨fun idle => State.grantOne_of_sated (idle.imp State.emptyBuffer_eq_none.mpr State.nextGrant_eq_none.mpr),
      fun b c e before after low high isFree busy head other queue passed best =>
        State.grantOne_eq low high isFree busy head other queue passed best,
      fun idle => State.grantPoll_of_idle (idle.imp_right State.nextPoll_eq_none.mpr),
      fun c e before after isFree head poll queue passed best => State.grantPoll_eq isFree head poll queue passed best⟩
  · rw [exec_loss_of_issue attempt exchange isOpen, State.attemptOver_eq a (isDone s.link.errors)]
  · rw [exec_loss_of_other attempt other, State.attemptOver_eq a (isDone s.link.errors)]
  · rw [exec_fault_of_low attempt low, isDone]
    rfl

end Sys2Proof.Machine
end

section
/-! Timers of the broadcast, of the polls and of the transit window (R89, R100, R101, R140). -/

namespace Sys2Proof.Machine

section
variable {s : State} {c : CellNo} {id : Nat}

/-! ## CRIB_STATE by its timers (R100) -/

theorem exec_broadcastTimer_of_idle (idle : s.link.broadcastTimer = none ∨ s.reports.stalled = true) :
    exec .broadcastTimerExpires s = .next s :=
  if_neg fun ⟨runs, free⟩ => by rcases idle with none | stalled <;> simp_all

theorem exec_holdTimer_of_idle (idle : s.link.holdTimer = none ∨ s.reports.stalled = false) :
    exec .holdTimerExpires s = .next s :=
  if_neg fun ⟨runs, stalled⟩ => by rcases idle with none | free <;> simp_all

theorem exec_broadcastTimer (runs : s.link.broadcastTimer.isSome = true) (free : s.reports.stalled = false) :
    exec .broadcastTimerExpires s = .next s.placeCribState := if_pos ⟨runs, free⟩

theorem exec_holdTimer (runs : s.link.holdTimer.isSome = true) (stalled : s.reports.stalled = true) :
    exec .holdTimerExpires s = .next s.placeCribState := if_pos ⟨runs, stalled⟩

/-- Where a CRIB_STATE is placed: behind the one of buffer 0 while that is on the line, else in buffer 0 (R89). -/
theorem State.placeCribState_eq {onLine : Bool} (line : (s.link.attempt.any fun a => a.buffer == 0) = onLine) {stalled : Bool}
    (isStalled : s.reports.stalled = stalled) {cs : CribState}
    (isState : cs = { service := s.order.service, hold := if stalled then s.link.holdTime else 0 }) :
    s.placeCribState = { s with link :=
      { s.link with
        buffer0 := if onLine then s.link.buffer0 else some cs, next0 := if onLine then some cs else s.link.next0
        broadcastTimer := if stalled then none else startTimer s.link.broadcastInterval
        holdTimer := if stalled then startTimer s.link.holdTime else none } } := by
  subst line isStalled isState
  rfl

theorem Link.offLine {l : Link} (other : ∀ a, l.attempt = some a → a.buffer ≠ 0) :
    (l.attempt.any fun a => a.buffer == 0) = false := by
  cases attempt : l.attempt with
  | none => rfl
  | some a => simpa using other a attempt

theorem Link.onLine {l : Link} {a : Attempt} (attempt : l.attempt = some a) (zero : a.buffer = 0) :
    (l.attempt.any fun a => a.buffer == 0) = true := by
  rw [attempt]
  simpa using zero

/-! ## The dispatch of POLLs (R101) -/

theorem Cell.pollable_iff {x : Cell} : x.pollable = true ↔
    x.enabled = true ∧ x.queue.length < 16 ∧ ∀ e ∈ x.queue, e.payload ≠ .poll := by
  unfold Cell.pollable
  rw [Bool.and_eq_true, Bool.and_eq_true, decide_eq_true_iff, Bool.not_eq_true', List.any_eq_false, and_assoc]
  simp only [Exchange.isPoll_iff]
  rfl

/-- The first cell after the poll pointer that a test holds for (R101). -/
theorem find?_pollOrder {p : CellNo} {test : CellNo → Bool} (holds : test c = true)
    (first : ∀ d, test d = true → (c.val + 23 - p.val) % 24 ≤ (d.val + 23 - p.val) % 24) :
    (pollOrder p).find? test = some c := by
  have place : p + 1 + ⟨(c.val + 23 - p.val) % 24, Nat.mod_lt _ (by decide)⟩ = c := by
    refine Fin.ext ?_
    rw [Fin.val_add, Fin.val_add]
    change ((p.val + 1) % 24 + (c.val + 23 - p.val) % 24) % 24 = c.val
    omega
  have found : (indices fun k : CellNo => test (p + 1 + k)).head? = some ⟨(c.val + 23 - p.val) % 24, Nat.mod_lt _ (by decide)⟩ := by
    refine head?_indices_eq_some (by rw [place]; exact holds) fun k lower => Bool.eq_false_iff.mpr fun earlier => ?_
    have least := first _ earlier
    rw [Fin.val_add, Fin.val_add] at least
    change (c.val + 23 - p.val) % 24 ≤ (((p.val + 1) % 24 + k.val) % 24 + 23 - p.val) % 24 at least
    have lower : k.val < (c.val + 23 - p.val) % 24 := lower
    omega
  rw [indices, List.head?_filter] at found
  unfold pollOrder
  rw [List.find?_map, Function.comp_def, found, Option.map_some, place]

theorem exec_pollTimer_of_none (none : s.link.pollTimer = none) : exec .pollTimerExpires s = .next s :=
  if_neg (by simp [none])

section
variable {timer : Option Nat} (runs : s.link.pollTimer.isSome = true)
  (isTimer : timer = if s.link.pollInterval = 0 then none else some s.link.pollInterval)
include runs isTimer

theorem exec_pollTimer : exec .pollTimerExpires s =
    .next (State.dispatchPoll { s with link := { s.link with pollTimer := timer } }) := by
  subst isTimer
  exact if_pos runs

theorem exec_pollTimer_of_nothing (nothing : ∀ c, (s.cell c).pollable = false) :
    exec .pollTimerExpires s = .next { s with link := { s.link with pollTimer := timer } } := by
  rw [exec_pollTimer runs isTimer]
  unfold State.dispatchPoll
  rw [List.find?_eq_none.mpr fun c _ => ?_]
  have no : (State.cell { s with link := { s.link with pollTimer := timer } } c).pollable = false := nothing c
  rw [no]
  exact Bool.false_ne_true

theorem exec_pollTimer_of_cell (pollable : (s.cell c).pollable = true)
    (first : ∀ d, (s.cell d).pollable = true →
      (c.val + 23 - s.link.pollPointer.val) % 24 ≤ (d.val + 23 - s.link.pollPointer.val) % 24) :
    exec .pollTimerExpires s = .next ({ s with link :=
      { s.link with pollTimer := timer, pollPointer := c } }.queueExchange c .poll .link).1 ∧
    ({ s with link := { s.link with pollTimer := timer, pollPointer := c } }.queueExchange c .poll .link).2 = none := by
  obtain ⟨-, room, -⟩ := Cell.pollable_iff.mp pollable
  refine ⟨?_, ?_⟩
  · rw [exec_pollTimer runs isTimer]
    have next : (pollOrder s.link.pollPointer).find?
        (fun c => (State.cell { s with link := { s.link with pollTimer := timer } } c).pollable) = some c :=
      find?_pollOrder (test := fun d => (s.cell d).pollable) pollable first
    unfold State.dispatchPoll
    rw [next]
    rfl
  · exact congrArg Prod.snd (State.queueExchange_of_place
      (s := { s with link := { s.link with pollTimer := timer, pollPointer := c } }) (c := c) (p := .poll) room (.inr rfl))

end

/-! ## The transit window (R140) -/

theorem exec_transit_of_none (none : ∀ i x, s.openIndex id = some i → (s.issueRec i).issue = some x → x.phase ≠ .transit) :
    exec (.transitWindowExpires id) s = .next s := by
  have noIssue : (s.openIndex id).filter (fun i => (s.issueRec i).issue.any fun x => x.phase == .transit) = Option.none := by
    rw [Option.filter_eq_none_iff]
    intro i isOpen
    rw [Option.any_eq_true]
    rintro ⟨x, issue, transit⟩
    exact none i x isOpen issue (by simpa using transit)
  change execTransitWindowExpires id s = _
  unfold execTransitWindowExpires
  rw [noIssue]

/-- The close ASTRAY of an issue whose transit window expires (R140, R143). -/
theorem exec_transit_of_issue {i : IssueNo} {x : Issue} {y : Tool}
    (isOpen : s.openIndex id = some i) (issue : (s.issueRec i).issue = some x) (transit : x.phase = .transit)
    (found : s.findTool x.tool = some y) : ∃ t, exec (.transitWindowExpires id) s = .next t ∧ (t.issueRec i).issue = none ∧
      t.findTool x.tool = some { y with claim := none, stateBefore := none, state := .astray, location := .loose } ∧
      t.crib = s.crib ∧ t.link.cells = s.link.cells ∧
      ∀ n, x.origin = .order n → s.working n (.issue id) → t.formedStatus n = some .astray := by
  have index : (s.openIndex id).filter (fun i => (s.issueRec i).issue.any fun x => x.phase == .transit) = some i := by
    rw [isOpen]
    exact if_pos (by simp [issue, transit])
  have runs : exec (.transitWindowExpires id) s = .next (s.closeIssue i .astray).settle := by
    change execTransitWindowExpires id s = _
    unfold execTransitWindowExpires
    rw [index]
  have closed := State.closedBy_closeIssue (result := .astray) issue rfl
  refine ⟨_, runs, closed.issue, ?_, closed.crib, closed.cells, fun n origin works => ?_⟩
  · have released : closeRelease { x with closed := some s.clock } .astray y =
        { y with claim := none, stateBefore := none, state := .astray, location := .loose } := by
      change y.release false .astray .loose = _
      by_cases back : y.stateBefore = some .astray
      · exact Tool.release_astray ⟨rfl, back⟩
      · rw [Tool.release_eq (fun both => back both.2) rfl]
        exact if_neg fun both => by cases both.1
    have tool := State.findTool_closeRelease (y := { x with closed := some s.clock }) (result := .astray) rfl found
    rw [released] at tool
    change (s.closeIssue i .astray).findTool x.tool = _
    rw [State.findTool, closed.tools]
    exact tool
  · obtain ⟨⟨c, context, -, unfinished⟩, -⟩ := works
    exact (closed.toOrder n c origin context unfinished).1

end

end Sys2Proof.Machine
end

section
/-! O55: the deferral timer (R96, R99), and every timer of the link and the issues. -/

namespace Sys2Proof.Machine

section
variable {s : State} {c : CellNo} {id b : Nat} {e e' : Exchange} {others : List Exchange}

/-! ## The deferred offer queued again (R99) -/

theorem isDeferredOf_iff : isDeferredOf id e = true ↔ e.step = .deferred ∧ e.owner = .issue id := by
  unfold isDeferredOf
  rw [Bool.and_eq_true, beq_iff_eq, beq_iff_eq]

theorem State.anyDeferred_iff : (s.link.cells.toList.any fun c => c.queue.any (isDeferredOf id)) = true ↔
    ∃ c, ∃ e ∈ (s.cell c).queue, isDeferredOf id e = true := by
  rw [List.any_eq_true]
  constructor
  · rintro ⟨x, isIn, any⟩
    obtain ⟨c, low, rfl⟩ := Vector.mem_iff_getElem.mp (Vector.mem_toList_iff.mp isIn)
    exact ⟨⟨c, low⟩, List.any_eq_true.mp any⟩
  · rintro ⟨c, any⟩
    exact ⟨s.cell c, Vector.mem_toList_iff.mpr (Vector.getElem_mem c.2), List.any_eq_true.mpr any⟩

theorem exec_deferral_of_none (none : ∀ c, ∀ e ∈ (s.cell c).queue, e.step = .deferred → e.owner ≠ .issue id) :
    exec (.deferralTimerExpires id) s = .next s := by
  refine if_neg fun any => ?_
  obtain ⟨c, e, isIn, deferred⟩ := State.anyDeferred_iff.mp any
  obtain ⟨step, owner⟩ := isDeferredOf_iff.mp deferred
  exact none c e isIn step owner

theorem Cell.requeue_of_none {now : Stamp} {x : Cell} (none : ∀ e ∈ x.queue, e.step = .deferred → e.owner ≠ .issue id) :
    x.requeue id now = x := by
  have noOffer : x.queue.find? (isDeferredOf id) = Option.none := by
    rw [List.find?_eq_none]
    intro e isIn deferred
    obtain ⟨step, owner⟩ := isDeferredOf_iff.mp deferred
    exact none e isIn step owner
  unfold Cell.requeue
  rw [noOffer]

/-- An exchange in its place among the others of its queue (R94). -/
def State.placed (c : CellNo) (others : List Exchange) (e' : Exchange) (s : State) : State :=
  s.modCell c fun x => { x with queue := insertExchange e' others }

theorem State.modCell_modCell (c : CellNo) (f g : Cell → Cell) (s : State) :
    (s.modCell c g).modCell c f = s.modCell c fun x => f (g x) :=
  congrArg (fun v => { s with link := { s.link with cells := v } }) (set_get_set ..)

theorem mapVec_eq_set {α : Type} {n : Nat} {f : α → α} {v : Vector α n} {i : Fin n} (fixed : ∀ j, j ≠ i → f (v.get j) = v.get j) :
    mapVec f v = v.set i.1 (f (v.get i)) i.2 := by
  refine Vector.ext fun j low => ?_
  have entry := get_mapVec f v ⟨j, low⟩
  have changed := get_set v i ⟨j, low⟩ (f (v.get i))
  refine Eq.trans entry (Eq.trans ?_ changed.symm)
  split
  · rename_i same
    rw [same]
  · rename_i other
    exact fixed ⟨j, low⟩ (Ne.symm other)

section
variable (first : (s.cell c).queue.find? (fun e => e.step == .deferred && e.owner == .issue id) = some e)
  (alone : ∀ d, d ≠ c → ∀ x ∈ (s.cell d).queue, x.step = .deferred → x.owner ≠ .issue id)
  (isOthers : others = (s.cell c).queue.filter fun e => !(e.step == .deferred && e.owner == .issue id))
include first alone isOthers

theorem exec_deferral : exec (.deferralTimerExpires id) s = .next
    (s.placed c others { e with step := .queued, stamp := s.clock, deferralTimer := none }).grantBuffers := by
  have any := State.anyDeferred_iff.mpr ⟨c, e, List.mem_of_find?_eq_some first, List.find?_some first⟩
  have here : Cell.requeue id s.clock (s.link.cells.get c) = { s.cell c with
      queue := insertExchange { e with step := .queued, stamp := s.clock, deferralTimer := none } others } := by
    have found : (s.link.cells.get c).queue.find? (isDeferredOf id) = some e := first
    unfold Cell.requeue
    rw [found, isOthers]
    rfl
  have cells : mapVec (Cell.requeue id s.clock) s.link.cells =
      s.link.cells.set c.1 (Cell.requeue id s.clock (s.link.cells.get c)) c.2 :=
    mapVec_eq_set fun d other => Cell.requeue_of_none (alone d other)
  rw [here] at cells
  exact (if_pos any).trans (congrArg (fun v =>
    (Host.Outcome.next (State.grantBuffers { s with link := { s.link with cells := v } }) : Result)) cells)

end

/-! ## The grant that follows (R96) -/

theorem Cell.inFlight_isSome_iff {x : Cell} : x.inFlight.isSome = true ↔ ∃ y ∈ x.queue, y.step = .inFlight := by
  unfold Cell.inFlight
  rw [List.find?_isSome]
  simp only [beq_iff_eq]

theorem State.grantBuffers_of_nothing (nothing : ∀ d x, (s.cell d).eligibleHead ≠ some x) : s.grantBuffers = s := by
  have sated := State.grantOne_of_sated (.inr (State.nextGrant_eq_none.mpr fun d x head => absurd head (nothing d x)))
  have noPoll := State.grantPoll_of_idle (.inr (State.nextPoll_eq_none.mpr fun d x head => absurd head (nothing d x)))
  unfold State.grantBuffers
  rw [sated, sated, sated, sated, sated, sated, noPoll, ite_self]

/-- A cell with an exchange in flight for each queued one has no eligible head. -/
theorem Cell.eligibleHead_ne_some {x : Cell} (quiet : ∀ y ∈ x.queue, y.step = .queued → x.inFlight.isSome = true) :
    x.eligibleHead ≠ some e := by
  intro head
  obtain ⟨still, find⟩ := Cell.eligibleHead_iff.mp head
  obtain ⟨y, isIn, flies⟩ := Cell.inFlight_isSome_iff.mp
    (quiet e (List.mem_of_find?_eq_some find) (by simpa using List.find?_some find))
  exact still y isIn flies

/-- Where the cell of one exchange flies and the others were quiet, nothing is eligible. -/
theorem State.nothing_of_flight {t : State} (quiet : ∀ d, ∀ x ∈ (s.cell d).queue, x.step = .queued → (s.cell d).inFlight.isSome = true)
    (same : ∀ d, d ≠ c → t.cell d = s.cell d) (flies : ∃ y ∈ (t.cell c).queue, y.step = .inFlight) (d : CellNo) (x : Exchange) :
    (t.cell d).eligibleHead ≠ some x := by
  by_cases here : d = c
  · rw [here]
    exact Cell.eligibleHead_ne_some fun _ _ _ => Cell.inFlight_isSome_iff.mpr flies
  · rw [same d here]
    exact Cell.eligibleHead_ne_some (quiet d)

theorem State.cell_placed (d : CellNo) : (s.placed c others e').cell d =
    if c = d then { s.cell c with queue := insertExchange e' others } else s.cell d := State.cell_modCell ..

theorem State.cell_placed_of_ne {d : CellNo} (other : d ≠ c) : (s.placed c others e').cell d = s.cell d :=
  (State.cell_placed d).trans (if_neg (Ne.symm other))

theorem State.queue_placed : ((s.placed c others e').cell c).queue = insertExchange e' others := by
  rw [State.cell_placed, if_pos rfl]

/-- An exchange granted a buffer keeps its place. -/
theorem modHead_insertExchange (queued : e'.step = .queued) (passed : ∀ x ∈ others, x.step ≠ .queued) :
    modHead (Exchange.granted b) (insertExchange e' others) = insertExchange (Exchange.granted b e') others := by
  induction others with
  | nil => exact if_pos queued
  | cons x others ih =>
    unfold insertExchange
    by_cases lower : x.payload.cls ≤ e'.payload.cls
    · have lower' : x.payload.cls ≤ (Exchange.granted b e').payload.cls := lower
      rw [if_pos lower, if_pos lower']
      unfold modHead
      rw [if_neg (passed x List.mem_cons_self), ih fun y isIn => passed y (List.mem_cons_of_mem _ isIn)]
    · have lower' : ¬ x.payload.cls ≤ (Exchange.granted b e').payload.cls := lower
      rw [if_neg lower, if_neg lower']
      exact if_pos queued

section
variable (isOthers : others = (s.cell c).queue.filter fun e => !(e.step == .deferred && e.owner == .issue id))
include isOthers

theorem State.mem_of_others {x : Exchange} (isIn : x ∈ others) : x ∈ (s.cell c).queue := by
  rw [isOthers] at isIn
  exact List.mem_of_mem_filter isIn

theorem State.mem_others {x : Exchange} (isIn : x ∈ (s.cell c).queue) (kept : x.step ≠ .deferred) : x ∈ others := by
  rw [isOthers]
  exact List.mem_filter.mpr ⟨isIn, by simp [kept]⟩

/-- A deferred offer holds no buffer, so its place decides nothing about buffers. -/
theorem State.bufferBusy_placed {k : Nat} (empty : ∀ x ∈ (s.cell c).queue, x.step = .deferred → x.buffer = none)
    (holds : e'.buffer = none) : (s.placed c others e').bufferBusy k = s.bufferBusy k := by
  have cells : (∃ d, ∃ y ∈ ((s.placed c others e').cell d).queue, y.buffer = some k) ↔
      ∃ d, ∃ y ∈ (s.cell d).queue, y.buffer = some k := by
    refine ⟨fun ⟨d, y, isIn, has⟩ => ?_, fun ⟨d, y, isIn, has⟩ => ⟨d, y, ?_, has⟩⟩
    · by_cases here : d = c
      · subst here
        rw [State.queue_placed] at isIn
        rcases mem_insertExchange.mp isIn with rfl | isIn
        · exact nomatch holds.symm.trans has
        · exact ⟨d, y, State.mem_of_others isOthers isIn, has⟩
      · rw [State.cell_placed_of_ne here] at isIn
        exact ⟨d, y, isIn, has⟩
    · by_cases here : d = c
      · subst here
        rw [State.queue_placed]
        refine mem_insertExchange.mpr (.inr (State.mem_others isOthers isIn fun deferred => ?_))
        exact nomatch (empty y isIn deferred).symm.trans has
      · rw [State.cell_placed_of_ne here]
        exact isIn
  rw [Bool.eq_iff_iff, State.bufferBusy_iff, State.bufferBusy_iff, cells]
  rfl

variable (quiet : ∀ d, ∀ x ∈ (s.cell d).queue, x.step = .queued → (s.cell d).inFlight.isSome = true)
include quiet

theorem State.grantBuffers_placed_of_flight (flies : (s.cell c).inFlight.isSome = true) :
    (s.placed c others e').grantBuffers = s.placed c others e' := by
  obtain ⟨y, isIn, flies⟩ := Cell.inFlight_isSome_iff.mp flies
  refine State.grantBuffers_of_nothing (State.nothing_of_flight quiet (fun d other => State.cell_placed_of_ne other) ⟨y, ?_, flies⟩)
  rw [State.queue_placed]
  exact mem_insertExchange.mpr (.inr (State.mem_others isOthers isIn (by rw [flies]; decide)))

/-- The offer queued again at a cell with nothing else to send is granted the lowest empty buffer. -/
theorem State.grantBuffers_placed_of_free (active : s.link.state = .active) (still : (s.cell c).inFlight = none)
    (queued : e'.step = .queued) (other : e'.payload ≠ .poll)
    (empty : ∀ x ∈ (s.cell c).queue, x.step = .deferred → x.buffer = none) (holds : e'.buffer = none) (low : 2 ≤ b)
    (high : b ≤ 7) (free : s.bufferBusy b = false) (busy : ∀ k, 2 ≤ k → k < b → s.bufferBusy k = true) :
    (s.placed c others e').grantBuffers =
      State.modCell c (fun x => { x with lastGrant := s.clock }) (s.placed c others (Exchange.granted b e')) := by
  have passed : ∀ x ∈ others, x.step ≠ .queued := fun x isIn isQueued => by
    have flies := quiet c x (State.mem_of_others isOthers isIn) isQueued
    rw [still] at flies
    exact Bool.false_ne_true flies
  have grounded : ∀ x ∈ others, x.step ≠ .inFlight := fun x isIn flies => by
    have some := Cell.inFlight_isSome_iff.mpr ⟨x, State.mem_of_others isOthers isIn, flies⟩
    rw [still] at some
    exact Bool.false_ne_true some
  have buffer (k : Nat) := State.bufferBusy_placed (e' := e') (k := k) isOthers empty holds
  have head : ((s.placed c others e').cell c).eligibleHead = some e' := by
    refine Cell.eligibleHead_iff.mpr ⟨fun y isIn => ?_, ?_⟩
    · rw [State.queue_placed] at isIn
      rcases mem_insertExchange.mp isIn with rfl | isIn
      · rw [queued]; decide
      · exact grounded y isIn
    · rw [State.queue_placed, insertExchange_eq, List.find?_append, List.find?_eq_none.mpr, List.find?_cons_of_pos (by simp [queued])]
      · rfl
      · intro y isIn
        simpa using passed y (List.takeWhile_subset _ isIn)
  have grants : (s.placed c others e').grantOne =
      State.modCell c (fun x => { x with lastGrant := s.clock }) (s.placed c others (Exchange.granted b e')) := by
    rw [State.grantOne_of_next (b := b) (c := c)]
    · refine (State.modCell_modCell ..).trans (Eq.trans (State.modCell_congr ?_) (State.modCell_modCell ..).symm)
      dsimp only
      rw [modHead_insertExchange queued passed]
      rfl
    · exact State.emptyBuffer_eq_some low high ((buffer b).trans free) fun k above below => (buffer k).trans (busy k above below)
    · refine State.nextGrant_eq_some head other fun d x elsewhere headX _ => ?_
      rw [State.cell_placed_of_ne elsewhere] at headX
      exact absurd headX (Cell.eligibleHead_ne_some (quiet d))
  have nothing := State.nothing_of_flight (c := c)
    (t := State.modCell c (fun x => { x with lastGrant := s.clock }) (s.placed c others (Exchange.granted b e'))) quiet
    (fun d other => by
      rw [State.cell_modCell, if_neg (Ne.symm other), State.cell_placed_of_ne other])
    ⟨Exchange.granted b e', by
      rw [State.cell_modCell, if_pos rfl]
      change _ ∈ ((s.placed c others _).cell c).queue
      rw [State.queue_placed]
      exact mem_insertExchange.mpr (.inl rfl), rfl⟩
  have sated := State.grantOne_of_sated (.inr (State.nextGrant_eq_none.mpr fun d x head => absurd head (nothing d x)))
  have noPoll := State.grantPoll_of_idle (.inr (State.nextPoll_eq_none.mpr fun d x head => absurd head (nothing d x)))
  rw [State.grantBuffers_of_active (s := s.placed c others e') active, grants, sated, sated, sated, sated, sated, noPoll]

end

end

/-- Settles O55: each timer where it runs and where it does not. -/
theorem timersExpire : Obligations.TimersExpire := by
  unfold Obligations.TimersExpire
  intro s
  refine ⟨exec_broadcastTimer_of_idle, exec_holdTimer_of_idle, fun other => ⟨fun runs free => ?_, fun runs stalled => ?_⟩,
    fun a attempt zero runs free => ?_, exec_pollTimer_of_none, fun runs timer isTimer pollable means => ⟨fun nothing => ?_,
    fun c isPollable first => ?_⟩, fun id none => exec_deferral_of_none none,
    fun id c e others placed first alone isOthers isPlaced => ?_, fun id none => exec_transit_of_none none,
    fun id i x y _ isOpen issue transit found => exec_transit_of_issue isOpen issue transit found⟩
  · rw [exec_broadcastTimer runs free, State.placeCribState_eq (Link.offLine other) free rfl]
    rfl
  · rw [exec_holdTimer runs stalled, State.placeCribState_eq (Link.offLine other) stalled rfl]
    rfl
  · rw [exec_broadcastTimer runs free, State.placeCribState_eq (Link.onLine attempt zero) free rfl]
    rfl
  · exact exec_pollTimer_of_nothing runs isTimer fun c => Bool.eq_false_iff.mpr fun is =>
      nothing c ((means c).mpr (Cell.pollable_iff.mp is))
  · exact exec_pollTimer_of_cell runs isTimer (Cell.pollable_iff.mpr ((means c).mp isPollable)) fun d is =>
      first d ((means d).mpr (Cell.pollable_iff.mp is))
  · have inPlace (e' : Exchange) (payload : e'.payload = e.payload) : placed e' = s.placed c others e' := by
      rw [isPlaced, ← payload]
      unfold State.placed
      rw [insertExchange_eq]
    have runs := exec_deferral first alone isOthers
    rw [inPlace { e with step := .queued, stamp := s.clock, deferralTimer := none } rfl]
    refine ⟨runs, fun off => runs.trans (congrArg _ (State.grantBuffers_of_off off)),
      fun b free meansFree active other empty quiet => ⟨fun flies => ?_, fun still low high isFree busy => ?_⟩⟩
    · rw [runs, State.grantBuffers_placed_of_flight isOthers quiet flies]
    · have free (k : Nat) : free k ↔ s.bufferBusy k = false := (meansFree k).trans State.free_iff
      have deferred : e.step = .deferred := (isDeferredOf_iff.mp (List.find?_some (p := isDeferredOf id) first)).1
      have holds := empty e (List.mem_of_find?_eq_some first) deferred
      rw [runs, State.grantBuffers_placed_of_free
        (e' := { e with step := .queued, stamp := s.clock, deferralTimer := none }) isOthers quiet active still rfl other empty holds low high
        ((free b).mp isFree) fun k above below => by simpa using mt (free k).mpr (busy k above below)]
      exact congrArg (fun t : State => (Host.Outcome.next (t.modCell c fun x => { x with lastGrant := s.clock }) : Result))
        (inPlace _ (by rfl)).symm

end Sys2Proof.Machine
end

section
/-! A link restart by its reports (R106). -/

namespace Sys2Proof.Machine

/-! ## The cells and the state of the line, beside the reports -/

/-- The cell records replaced. -/
def State.withCells (v : Vector Cell 24) (s : State) : State := s.modLink fun l => { l with cells := v }

/-- The link ACTIVE with its counts at 0 (R106). -/
def State.activated (s : State) : State := s.modLink fun l => { l with state := .active, errors := 0, idle := 0 }

section
variable {s : State} {v : Vector Cell 24}

theorem State.handReport_withCells (r : Report) (s : State) :
    (s.withCells v).handReport r = (s.handReport r).withCells v := by
  unfold State.handReport
  dsimp only
  rw [apply_ite (State.withCells v), apply_ite (State.withCells v)]
  rfl

theorem State.handReport_activated (r : Report) (s : State) : s.activated.handReport r = (s.handReport r).activated := by
  unfold State.handReport
  dsimp only
  rw [apply_ite State.activated, apply_ite State.activated]
  rfl

theorem State.handReports_withCells (l : List Report) (s : State) :
    l.foldl (fun u r => u.handReport r) (s.withCells v) = (l.foldl (fun u r => u.handReport r) s).withCells v := by
  induction l generalizing s with
  | nil => rfl
  | cons r l ih => rw [List.foldl_cons, List.foldl_cons, State.handReport_withCells, ih]

theorem State.handReports_activated (l : List Report) (s : State) :
    l.foldl (fun u r => u.handReport r) s.activated = (l.foldl (fun u r => u.handReport r) s).activated := by
  induction l generalizing s with
  | nil => rfl
  | cons r l ih => rw [List.foldl_cons, List.foldl_cons, State.handReport_activated, ih]

theorem State.linkState_handReports (l : List Report) (s : State) :
    (l.foldl (fun u r => u.handReport r) s).link.state = s.link.state := by
  refine foldl_keeps (fun t : State => t.link.state) (fun u r => u.handReport r) (fun t r => ?_) l s
  unfold State.handReport State.enterStall State.placeCribState
  simp only [State.modReports, State.modOrder, State.modLink]
  split <;> (try split) <;> rfl

/-! ## Every cell GOOD (R106, R118) -/

/-- A cell GOOD with its counts at 0. -/
def Cell.restored (x : Cell) : Cell := { x with standing := .good, faultCount := 0, answers := 0 }

/-- The report of a cell that a link restart makes GOOD (R106, R198). -/
def restoreReport (c : CellNo) (former : Standing) : Report :=
  { Report.blank .cellStanding with cell := c.val + 1, code := 5, detail := .plain (le 1 former.code ++ le 4 0) }

theorem State.makeGood_withCells (c : CellNo) : (s.withCells v).makeGood c .linkRestart =
    State.withCells (v.set c.1 (v.get c).restored c.2) (if (v.get c).standing = .good then s
      else s.handReport (restoreReport c (v.get c).standing)) := by
  have changed : (s.withCells v).modCell c (fun x => { x with standing := .good, faultCount := 0, answers := 0 }) =
      s.withCells (v.set c.1 (v.get c).restored c.2) := rfl
  have report : (s.withCells (v.set c.1 (v.get c).restored c.2)).standingReport c (v.get c).standing .linkRestart =
      restoreReport c (v.get c).standing := by
    have cell : (s.withCells (v.set c.1 (v.get c).restored c.2)).cell c = (v.get c).restored :=
      (get_set v c c _).trans (if_pos rfl)
    unfold State.standingReport
    rw [cell]
    simp only [restoreReport, Cell.restored, List.append_assoc]
    rfl
  unfold State.makeGood
  dsimp only
  rw [changed, show ((s.withCells v).cell c).standing = (v.get c).standing from rfl, report, State.handReport_withCells,
    apply_ite (State.withCells _)]

/-- The reports of the cells of a list that are not GOOD. -/
def restoreReports (v : Vector Cell 24) (l : List CellNo) : List Report :=
  l.filterMap fun c => if (v.get c).standing = .good then none else some (restoreReport c (v.get c).standing)

/-- The cell records with those of a list restored. -/
def restoreCells (l : List CellNo) (v : Vector Cell 24) : Vector Cell 24 :=
  l.foldl (fun v c => v.set c.1 (v.get c).restored c.2) v

theorem State.foldl_makeGood {l : List CellNo} (once : l.Nodup) :
    l.foldl (fun t c => t.makeGood c .linkRestart) (s.withCells v) =
      ((restoreReports v l).foldl (fun u r => u.handReport r) s).withCells (restoreCells l v) := by
  induction l generalizing s v with
  | nil => rfl
  | cons c l ih =>
    obtain ⟨fresh, once⟩ := List.nodup_cons.mp once
    have rest : restoreReports (v.set c.1 (v.get c).restored c.2) l = restoreReports v l := by
      refine List.filterMap_congr fun d isIn => ?_
      have other : c ≠ d := fun same => fresh (same ▸ isIn)
      rw [get_set, if_neg other]
    rw [List.foldl_cons, State.makeGood_withCells, ih once, rest]
    refine congrArg (State.withCells _) ?_
    by_cases good : (v.get c).standing = .good
    · have head : restoreReports v (c :: l) = restoreReports v l := List.filterMap_cons_none (if_pos good)
      rw [if_pos good, head]
    · have head : restoreReports v (c :: l) = restoreReport c (v.get c).standing :: restoreReports v l :=
        List.filterMap_cons_some (if_neg good)
      rw [if_neg good, head, List.foldl_cons]

theorem get_restoreCells (c : CellNo) (l : List CellNo) (v : Vector Cell 24) :
    (restoreCells l v).get c = if c ∈ l then (v.get c).restored else v.get c := by
  induction l generalizing v with
  | nil => exact (if_neg List.not_mem_nil).symm
  | cons d l ih =>
    have step : restoreCells (d :: l) v = restoreCells l (v.set d.1 (v.get d).restored d.2) := rfl
    rw [step, ih, get_set]
    by_cases same : d = c
    · subst same
      rw [if_pos rfl, if_pos List.mem_cons_self]
      split <;> rfl
    · have member : c ∈ d :: l ↔ c ∈ l := by simp [Ne.symm same]
      rw [if_neg same]
      simp only [member]

/-! ## The restart (R106) -/

/-- The cells of a restart: GOOD, with an empty queue. -/
def Cell.restarted (x : Cell) : Cell :=
  { x with queue := [], standing := .good, faultCount := 0, answers := 0, lastGrant := 0 }

/-- What a restart has cleared before its reports (R106). -/
def State.cleared (s : State) : State :=
  { s with link :=
    { s.link with
      attempt := none, slotDriven := false, rx := [], buffer0 := none, next0 := none, state := .active, errors := 0
      idle := 0, cells := mapVec Cell.restarted s.link.cells } }

/-- The report of the return to ACTIVE, if the link was OFF. -/
def State.activeReports (s : State) : List Report :=
  if s.link.state = .off then
    [{ Report.blank .linkState with code := 3, detail := .plain (le 1 0 ++ le 2 0) }] else []

theorem State.cellsGood_eq : (s.modLink Link.cleared).cellsGood =
    State.withCells (mapVec Cell.restarted s.link.cells)
      ((restoreReports s.link.cells (List.finRange 24)).foldl (fun u r => u.handReport r) (s.modLink Link.cleared)) := by
  have start : s.modLink Link.cleared = (s.modLink Link.cleared).withCells (mapVec (fun x => { x with queue := [] }) s.link.cells) :=
    rfl
  have reports : restoreReports (mapVec (fun x => { x with queue := [] }) s.link.cells) (List.finRange 24) =
      restoreReports s.link.cells (List.finRange 24) := by
    refine List.filterMap_congr fun c _ => ?_
    rw [get_mapVec]
  have cells : mapVec (fun x : Cell => { x with lastGrant := 0 })
      (restoreCells (List.finRange 24) (mapVec (fun x => { x with queue := [] }) s.link.cells)) =
      mapVec Cell.restarted s.link.cells := by
    refine Vector.ext fun k low => ?_
    change (mapVec _ _).get ⟨k, low⟩ = (mapVec _ _).get ⟨k, low⟩
    rw [get_mapVec, get_mapVec, get_restoreCells, if_pos (List.mem_finRange _), get_mapVec]
    rfl
  have folded := State.foldl_makeGood (s := s.modLink Link.cleared)
    (v := mapVec (fun x => { x with queue := [] }) s.link.cells) (List.nodup_finRange 24)
  rw [← start, reports] at folded
  unfold State.cellsGood
  rw [folded, ← cells]
  generalize (restoreReports s.link.cells (List.finRange 24)).foldl (fun u r => u.handReport r) (s.modLink Link.cleared) = u
  generalize restoreCells (List.finRange 24) _ = v
  rfl

/-- The state of a restart with its reports handed over, in the words of the statement. -/
theorem State.restarted_eq : ((s.modLink Link.cleared).cellsGood).linkActive .linkRestart =
    (restoreReports s.link.cells (List.finRange 24) ++ s.activeReports).foldl (fun u r => u.handReport r) s.cleared := by
  generalize isReports : restoreReports s.link.cells (List.finRange 24) = reports
  have start : s.cleared = ((s.modLink Link.cleared).withCells (mapVec Cell.restarted s.link.cells)).activated := rfl
  have good : (s.modLink Link.cleared).cellsGood =
      State.withCells (mapVec Cell.restarted s.link.cells) (reports.foldl (fun u r => u.handReport r) (s.modLink Link.cleared)) := by
    rw [← isReports]
    exact State.cellsGood_eq
  have state : (s.modLink Link.cleared).cellsGood.link.state = s.link.state := by
    have kept := State.linkState_handReports reports (s.modLink Link.cleared)
    rw [good]
    generalize reports.foldl (fun u r => u.handReport r) (s.modLink Link.cleared) = u at kept ⊢
    exact kept
  rw [List.foldl_append, start, State.handReports_activated, State.handReports_withCells, ← good]
  generalize (s.modLink Link.cleared).cellsGood = g at state
  unfold State.linkActive State.activeReports
  dsimp only
  rw [state]
  by_cases off : s.link.state = .off
  · rw [if_pos off, if_pos off]
    rfl
  · rw [if_neg off, if_neg off]
    rfl

section
variable {w u : State} (isW : w =
    (restoreReports s.link.cells (List.finRange 24) ++ s.activeReports).foldl (fun u r => u.handReport r) s.cleared)
  (isU : u = s.allExchanges.foldl (fun v p => v.exchangeEnded p.1 p.2 (.dropped .linkRestart)) w)
include isW isU

theorem State.restartLink_eq : s.restartLink = u.restartTimers := by
  have delivered : State.deliverAll (w, s.allExchanges.map fun p => LinkEvent.ended p.1 p.2 (.dropped .linkRestart)) = u := by
    rw [isU]
    exact List.foldl_map
  unfold State.restartLink
  dsimp only
  rw [State.restarted_eq, ← isW, delivered]

/-- A link restart (R106). -/
theorem exec_linkRestart : exec .linkRestart s = .next u.restartTimers.settle :=
  congrArg (fun t : State => (Host.Outcome.next t.settle : Result)) (State.restartLink_eq isW isU)

end

end

end Sys2Proof.Machine
end

section
/-! An issue that fails, and the exchanges that a link restart drops (R106, R143, R150, R155, R167). -/

namespace Sys2Proof.Machine

section
variable {s t u v : State} {i : IssueNo} {x y : Issue} {st result : Status} {w : WithdrawStatus} {f : Issue → Issue}

/-! ## An issue closed with a failure (R143) -/

/-- A close is told of the state before a mark on its record as of the state after it. -/
theorem State.issueClosed_of_modIssue (closed : (s.modIssue i f).issueClosed i y result t) : s.issueClosed i y result t := by
  obtain ⟨record, others, tools, toOrder, toCell⟩ := closed
  have generation : ((s.modIssue i f).issueRec i).generation = (s.issueRec i).generation := by
    rw [State.issueRec_modIssue, if_pos rfl]
  rw [generation] at record
  have sameId := State.issueId_modIssue (s := s) (i := i) f
  refine ⟨record, fun j other => (others j other).trans ?_, tools, fun k c origin context unfinished => ?_, fun ref origin => ?_⟩
  · rw [State.issueRec_modIssue, if_neg (Ne.symm other)]
  · obtain ⟨reports, output⟩ := toOrder k c origin context unfinished
    rw [sameId] at output
    exact ⟨reports, output⟩
  · obtain ⟨slots, reports⟩ := toCell ref origin
    rw [sameId] at reports
    exact ⟨slots, reports.trans (State.reports_handReport_congr _ rfl rfl)⟩

/-- What the close of an issue that fails leaves. -/
structure State.FailsWith (s : State) (i : IssueNo) (y : Issue) (result : Status) (v : State) : Prop where
  crib : v.crib = s.crib
  cells : v.link.cells = s.link.cells
  closed : s.issueClosed i y result v
  toOrder : ∀ n c, y.origin = .order n → (s.slot n).context = some c → c.output = none →
    v.formedStatus n = some result ∧ v.reports = s.reports
  toCell : ∀ ref, y.origin = .cell ref → ∃ w : State, w.clock = s.clock ∧ w.reports = s.reports ∧ w.tools = v.tools ∧
    v = (w.handReport (w.issueClosedReport (s.issueId i) y ref result)).freeRecord i
  tools : v.tools = (s.modTool y.tool (closeRelease y result)).tools
  formedNow : ∀ ref, y.origin = .cell ref → v.order.formedNow = s.order.formedNow

theorem State.FailsWith.of_modIssue (fails : (s.modIssue i f).FailsWith i y result v) : s.FailsWith i y result v := by
  refine ⟨fails.crib, fails.cells, State.issueClosed_of_modIssue fails.closed, fails.toOrder, fun ref origin => ?_, fails.tools,
    fails.formedNow⟩
  have cell := fails.toCell ref origin
  rw [State.issueId_modIssue] at cell
  exact cell

theorem State.FailsWith.issue (fails : s.FailsWith i y result v) : (v.issueRec i).issue = none := by
  rw [fails.closed.1]

theorem State.failsWith_closeIssue (isOpen : (s.issueRec i).issue = some x) (closed : y = { x with closed := some s.clock }) :
    s.FailsWith i y result (s.closeIssue i result) := by
  have by' := State.closedBy_closeIssue (result := result) isOpen closed
  refine ⟨by'.crib, by'.cells, State.issueClosed_closeIssue result isOpen closed, by'.toOrder, fun ref origin => ?_, by'.tools,
    fun ref origin => (by'.toCell ref origin).1⟩
  obtain ⟨-, is⟩ := by'.toCell ref origin
  exact ⟨s.modTool y.tool (closeRelease y result), rfl, rfl, by'.tools.symm, is⟩

theorem State.failsWith_closeFailed (isOpen : (s.issueRec i).issue = some x) :
    s.FailsWith i (x.closing st w s.clock) (x.failure.getD st) (s.closeFailed i st w) := by
  have failed : (s.issueRec i).issue.bind (·.failure) = x.failure := by rw [isOpen]; rfl
  unfold State.closeFailed
  dsimp only
  rw [failed]
  have marked := State.issue_modIssue (fun z => { z with withdraw := w, failure := some (x.failure.getD st) }) isOpen
  exact (State.failsWith_closeIssue marked rfl).of_modIssue

/-! ## Offers that end without an answer (R134, R149, R150) -/

variable {e : Exchange} {c : CellNo} {outcome : ExchangeOutcome}

/-- The record of an issue as its offer ends. -/
def Issue.offered (e : Exchange) (x : Issue) : Issue := { x with tries := e.triesUsed, deferrals := e.deferrals }

/-- The same with the offer outcome UNKNOWN. -/
def Issue.unsettled (e : Exchange) (x : Issue) : Issue :=
  { x with tries := e.triesUsed, deferrals := e.deferrals, offer := .unknown }

theorem State.modIssue_unsettled : (s.modIssue i (Issue.offered e)).modIssue i (fun x => { x with offer := .unknown }) =
    s.modIssue i (Issue.unsettled e) := State.modIssue_modIssue _ _ s

theorem State.offerEnded_noAck : s.offerEnded i e .noAck =
    (s.modIssue i (Issue.offered e)).closeFailed i .noAnswer .notSent := rfl

theorem State.offerEnded_noAnswer : s.offerEnded i e .noAnswer =
    (s.modIssue i (Issue.unsettled e)).enterWithdrawing i .noAnswer :=
  congrArg (State.enterWithdrawing i .noAnswer) State.modIssue_unsettled

theorem State.offerEnded_dropped_unseen (unseen : e.acknowledged = false) (cause : DropCause) :
    s.offerEnded i e (.dropped cause) = (s.modIssue i (Issue.offered e)).closeFailed i
      (match cause with | .cutOff => .cellCutOff | .linkRestart => .linkRestart) .notSent := by
  cases cause <;> exact if_neg (by simp [unseen])

theorem State.offerEnded_cutOff_seen (seen : e.acknowledged = true) : s.offerEnded i e (.dropped .cutOff) =
    (s.modIssue i (Issue.unsettled e)).closeFailed i .cellCutOff .unconfirmed :=
  (if_pos seen).trans (congrArg (State.closeFailed i .cellCutOff .unconfirmed) State.modIssue_unsettled)

theorem State.offerEnded_restart_seen (seen : e.acknowledged = true) : s.offerEnded i e (.dropped .linkRestart) =
    (s.modIssue i (Issue.unsettled e)).enterWithdrawing i .linkRestart :=
  (if_pos seen).trans (congrArg (State.enterWithdrawing i .linkRestart) State.modIssue_unsettled)

/-! ## The other exchanges (R155) -/

theorem State.exchangeEnded_lifeEnd {tool : Nat} (payload : e.payload = .lifeEnd tool) :
    s.exchangeEnded c e outcome = s.lifeEndEnded c tool e outcome := by
  unfold State.exchangeEnded
  rw [payload]

theorem State.exchangeEnded_deny {ref : RefKind} {value : Nat} {reason : Reason} (payload : e.payload = .deny ref value reason) :
    s.exchangeEnded c e outcome = s := by
  unfold State.exchangeEnded
  rw [payload]

theorem State.exchangeEnded_quiet (quiet : e.payload = .poll ∨ ∃ ref value reason, e.payload = .deny ref value reason) :
    s.exchangeEnded c e outcome = s := by
  rcases quiet with poll | ⟨ref, value, reason, deny⟩
  · exact State.exchangeEnded_poll poll
  · exact State.exchangeEnded_deny deny

/-! ## Dropped by a link restart (R106) -/

section
variable {id : Nat} (owner : e.owner = .issue id) (index : s.openIndex id = some i) (issue : (s.issueRec i).issue = some x)
include owner index issue

theorem State.restart_closes_offer {tool slot : Nat} {length radius : Int} {remaining : Nat} {unit : LifeUnit}
    (payload : e.payload = .dataOffer id tool slot length radius remaining unit) (unseen : e.acknowledged = false) :
    s.FailsWith i ((x.offered e).closing .linkRestart .notSent s.clock) (x.failure.getD .linkRestart)
      (s.exchangeEnded c e (.dropped .linkRestart)) := by
  rw [State.exchangeEnded_offer payload owner index, State.offerEnded_dropped_unseen unseen]
  exact (State.failsWith_closeFailed (State.issue_modIssue (Issue.offered e) issue)).of_modIssue

variable (room : (s.cell x.cell).queue.length < 16) (standing : (s.cell x.cell).standing ≠ .cutOff)
include room standing

theorem State.restart_withdraws_offer {tool slot : Nat} {length radius : Int} {remaining : Nat} {unit : LifeUnit}
    (payload : e.payload = .dataOffer id tool slot length radius remaining unit) (seen : e.acknowledged = true) :
    s.exchangeEnded c e (.dropped .linkRestart) =
      ((s.modIssue i fun x =>
        { x with
          tries := e.triesUsed, deferrals := e.deferrals, offer := .unknown, phase := .withdrawing
          request := none, failure := some (x.failure.getD .linkRestart) }).queueExchange x.cell
        (.withdraw id x.tool x.slot) (.issue id)).1 := by
  have sameId : (s.modIssue i (Issue.unsettled e)).issueId i = id :=
    (State.issueId_modIssue _).trans (State.of_openIndex index).1
  have marked := State.issue_modIssue (Issue.unsettled e) issue
  rw [State.exchangeEnded_offer payload owner index, State.offerEnded_restart_seen seen,
    State.enterWithdrawing_of_queued marked room standing, State.modIssue_modIssue, sameId]
  rfl

theorem State.restart_withdraws_withdraw {tool slot : Nat} (payload : e.payload = .withdraw id tool slot) :
    s.exchangeEnded c e (.dropped .linkRestart) =
      ((s.modIssue i fun x =>
        { x with
          phase := .withdrawing, request := none
          failure := some (x.failure.getD .linkRestart) }).queueExchange x.cell
        (.withdraw id x.tool x.slot) (.issue id)).1 := by
  have sameId : s.issueId i = id := (State.of_openIndex index).1
  have ends : s.withdrawEnded i (.dropped .linkRestart) = s.enterWithdrawing i .linkRestart := rfl
  rw [State.exchangeEnded_withdraw payload owner index, ends, State.enterWithdrawing_of_queued issue room standing, sameId]

end

/-- The WITHDRAW of a RETURN is queued again (R160). -/
theorem State.restart_requeues_return {n : SlotNo} {r : ReturnCtx} {d : CellNo} {tool slot : Nat} (owner : e.owner = .slot n)
    (payload : e.payload = .withdraw 255 tool slot) (work : s.work n = .returning r) (target : r.withdrawTo = some (d, slot))
    (room : (s.cell d).queue.length < 16) (standing : (s.cell d).standing ≠ .cutOff) :
    s.exchangeEnded c e (.dropped .linkRestart) =
      ((s.queueExchange d (.withdraw 255 r.tool slot) (.slot n)).1.setWork n
        (.returning { r with withdraw := .pending, tries := 0, acknowledged := false })) := by
  have queued : s.queueReturnWithdraw n { r with tries := e.triesUsed, acknowledged := e.acknowledged } =
      ((s.queueExchange d (.withdraw 255 r.tool slot) (.slot n)).1,
        { r with withdraw := .pending, tries := 0, acknowledged := false }) := by
    have taken := State.queueExchange_taken_in (s := s) (c := d) (p := .withdraw 255 r.tool slot) (owner := .slot n)
      (Cell.queueCheck_of_room room standing)
    unfold State.queueReturnWithdraw
    dsimp only
    rw [target]
    dsimp only
    rw [taken]
  have steps (t : State) : t.returnStep n { r with withdraw := .pending, tries := 0, acknowledged := false } =
      t.setWork n (.returning { r with withdraw := .pending, tries := 0, acknowledged := false }) := by
    unfold State.returnStep
    dsimp only
    cases r.outcome <;> rfl
  rw [State.exchangeEnded_return payload owner work]
  unfold State.returnWithdrawEnded
  dsimp only
  rw [queued]
  exact steps _

end

end Sys2Proof.Machine
end

section
/-! What a link restart does to each exchange, and the state that it settles in (R106, R155). -/

namespace Sys2Proof.Machine

section
variable {s u v w : State} {i : IssueNo} {c : CellNo} {e : Exchange} {x y : Issue} {st result : Status} {k : WithdrawStatus}

/-! ## The timers (R106) -/

/-- The timers restarted, in the words of the statement. -/
theorem State.restartTimers_eq (service : u.order.service = s.order.service) : u.restartTimers =
    { u with link :=
      { u.link with
        broadcastTimer := if u.reports.stalled then u.link.broadcastTimer
          else if u.link.broadcastInterval = 0 then none else some u.link.broadcastInterval
        holdTimer := if u.reports.stalled then (if u.link.holdTime = 0 then none else some u.link.holdTime)
          else u.link.holdTimer
        pollTimer := if s.order.service = .service then
          (if u.link.pollInterval = 0 then none else some u.link.pollInterval) else u.link.pollTimer } } := by
  unfold State.restartTimers State.inService State.modLink startTimer
  rw [service]
  simp only [beq_iff_eq]

theorem exec_linkRestart_settles (isW : w =
      (restoreReports s.link.cells (List.finRange 24) ++ s.activeReports).foldl (fun u r => u.handReport r) s.cleared)
    (isU : u = s.allExchanges.foldl (fun v p => v.exchangeEnded p.1 p.2 (.dropped .linkRestart)) w) :
    exec .linkRestart s = .next (State.settle
      { u with link :=
        { u.link with
          broadcastTimer := if u.reports.stalled then u.link.broadcastTimer
            else if u.link.broadcastInterval = 0 then none else some u.link.broadcastInterval
          holdTimer := if u.reports.stalled then (if u.link.holdTime = 0 then none else some u.link.holdTime)
            else u.link.holdTimer
          pollTimer := if s.order.service = .service then
            (if u.link.pollInterval = 0 then none else some u.link.pollInterval) else u.link.pollTimer } }) := by
  have restarts := State.restartLink_eq isW isU
  obtain ⟨-, -, -, -, port, -⟩ := s.restartLink_frame
  rw [restarts] at port
  have service : u.order.service = s.order.service := (congrArg OrderBlock.service port :)
  rw [exec_linkRestart isW isU, State.restartTimers_eq service]

/-! ## What the failure of an issue leaves of its ORDER and of its tool (R10, R143) -/

theorem State.FailsWith.formed (fails : s.FailsWith i y result v) {n : SlotNo} {wk : Work} (origin : y.origin = .order n)
    (works : s.working n wk) : v.formedStatus n = some result := by
  obtain ⟨⟨context, isContext, -, unfinished⟩, -⟩ := works
  exact (fails.toOrder n context origin isContext unfinished).1

theorem State.FailsWith.ready (fails : s.FailsWith i y result v) {tool : Tool} (found : s.findTool y.tool = some tool)
    (notMounted : result ≠ .mounted) (notAstray : result ≠ .astray) (held : tool.stateBefore ≠ some .astray)
    (ready : tool.meetsReady = true) :
    v.findTool y.tool = some { tool with claim := none, stateBefore := none, state := .ready } := by
  have released := State.findTool_closeRelease (result := result) rfl found
  rw [closeRelease_of_failed notMounted notAstray held ready] at released
  refine Eq.trans ?_ released
  unfold State.findTool
  rw [fails.tools]

theorem failure_getD_ne {o : Option Status} (other : st ≠ result) (failed : o ≠ some result) : o.getD st ≠ result := by
  cases o with
  | none => exact other
  | some z => exact fun same => failed (congrArg some same)

/-! ## The outcomes of a restart (R106, R155) -/

theorem State.restart_reports_lifeEnd {tool : Nat} (payload : e.payload = .lifeEnd tool) :
    u.exchangeEnded c e (.dropped .linkRestart) = u.handReport
      { Report.blank .lifeEndUndelivered with
        cell := c.val + 1, tool := tool, code := 4, detail := .plain (le 1 e.triesUsed) } :=
  State.exchangeEnded_lifeEnd payload

end

end Sys2Proof.Machine
end

section
/-! What holds of the link from the restart on: every cell GOOD, every exchange a WITHDRAW queued now (R106). -/

namespace Sys2Proof.Machine

/-! ## The part of the link that the restart speaks of -/

/-- The link without the CRIB_STATE broadcast and without the timers. -/
def Link.lineEnds (l : Link) : Link :=
  { l with buffer0 := none, next0 := none, broadcastTimer := none, holdTimer := none, pollTimer := none }

/-- A cell since the restart at a time (R96, R106). -/
structure Cell.Restarted (now : Stamp) (x y : Cell) : Prop where
  good : y.standing = .good
  count : y.faultCount = 0
  answers : y.answers = 0
  enabled : y.enabled = x.enabled
  magSize : y.magSize = x.magSize
  issueLimit : y.issueLimit = x.issueLimit
  queue : ∀ e ∈ y.queue, e.stamp = now ∧ ∃ id tool slot, e.payload = .withdraw id tool slot
  lastGrant : y.lastGrant = 0 ∨ (y.queue ≠ [] ∧ y.lastGrant = now)

/-- A state since the restart that began from `s` (R106). -/
structure State.Restarted (s v : State) : Prop where
  clock : v.clock = s.clock
  active : v.link.state = .active
  errors : v.link.errors = 0
  idle : v.link.idle = 0
  rx : v.link.rx = []
  attempt : v.link.attempt = none
  slotDriven : v.link.slotDriven = false
  cells : ∀ c, (s.cell c).Restarted s.clock (v.cell c)

section
variable {s u v : State} {c : CellNo} {e y : Exchange} {b : Nat} {i : IssueNo}

theorem State.Restarted.congr (restarted : s.Restarted v) (line : u.link.lineEnds = v.link.lineEnds) (clock : u.clock = v.clock) :
    s.Restarted u := by
  have cells : u.link.cells = v.link.cells := (congrArg Link.cells line :)
  refine ⟨clock.trans restarted.clock, ?_, ?_, ?_, ?_, ?_, ?_, fun d => ?_⟩
  · exact (congrArg Link.state line :).trans restarted.active
  · exact (congrArg Link.errors line :).trans restarted.errors
  · exact (congrArg Link.idle line :).trans restarted.idle
  · exact (congrArg Link.rx line :).trans restarted.rx
  · exact (congrArg Link.attempt line :).trans restarted.attempt
  · exact (congrArg Link.slotDriven line :).trans restarted.slotDriven
  · have kept := restarted.cells d
    unfold State.cell at kept ⊢
    rw [cells]
    exact kept

theorem State.restarted_cleared : s.Restarted s.cleared := by
  refine ⟨rfl, rfl, rfl, rfl, rfl, rfl, rfl, fun c => ?_⟩
  have cell : s.cleared.cell c = (s.cell c).restarted := get_mapVec Cell.restarted s.link.cells c
  rw [cell]
  exact ⟨rfl, rfl, rfl, rfl, rfl, rfl, fun e isIn => (nomatch isIn), .inl rfl⟩

/-! ## What the reports and the orders leave -/

theorem State.lineEnds_handReport (r : Report) (s : State) : (s.handReport r).link.lineEnds = s.link.lineEnds := by
  unfold State.handReport State.enterStall State.placeCribState
  simp only [State.modReports, State.modOrder, State.modLink]
  split <;> (try split) <;> rfl

theorem State.Restarted.modIssue (restarted : s.Restarted v) (i : IssueNo) (f : Issue → Issue) : s.Restarted (v.modIssue i f) :=
  restarted.congr rfl rfl

theorem State.Restarted.handReport (restarted : s.Restarted v) (r : Report) : s.Restarted (v.handReport r) :=
  have ⟨_, _, _, _, _, _, _, _, clock, _⟩ := v.handReport_frame r
  restarted.congr (State.lineEnds_handReport r v) clock

theorem State.Restarted.setWork (restarted : s.Restarted v) (n : SlotNo) (w : Work) : s.Restarted (v.setWork n w) :=
  have ⟨_, _, _, _, _, link, _, _, _, _, clock⟩ := v.setWork_frame n w
  restarted.congr (congrArg Link.lineEnds link) clock

theorem State.Restarted.complete (restarted : s.Restarted v) (n : SlotNo) (st : Status) (result : List Byte) :
    s.Restarted (v.complete n st result) :=
  have ⟨_, _, _, _, _, link, _, _, _, _, clock⟩ := v.complete_frame n st result
  restarted.congr (congrArg Link.lineEnds link) clock

theorem State.Restarted.closeIssue (restarted : s.Restarted v) (i : IssueNo) (result : Status) :
    s.Restarted (v.closeIssue i result) := by
  cases issue : (v.issueRec i).issue with
  | none =>
    have closes : v.closeIssue i result = v := by
      unfold State.closeIssue
      rw [issue]
    rw [closes]
    exact restarted
  | some x =>
    rw [State.closeIssue_eq result issue rfl]
    cases x.origin with
    | order n =>
      have released : s.Restarted (v.modTool x.tool (closeRelease { x with closed := some v.clock } result)) := restarted.congr rfl rfl
      exact (released.complete n result _).congr rfl rfl
    | cell ref =>
      have released : s.Restarted (v.modTool x.tool (closeRelease { x with closed := some v.clock } result)) := restarted.congr rfl rfl
      exact (released.handReport _).congr rfl rfl

theorem State.Restarted.closeFailed (restarted : s.Restarted v) (i : IssueNo) (st : Status) (w : WithdrawStatus) :
    s.Restarted (v.closeFailed i st w) := (restarted.modIssue i _).closeIssue i _

/-! ## What the grants leave (R96) -/

theorem of_mem_modHead {f : Exchange → Exchange} {l : List Exchange} (isIn : y ∈ modHead f l) : y ∈ l ∨ ∃ z ∈ l, y = f z := by
  induction l with
  | nil => exact nomatch isIn
  | cons x l ih =>
    unfold modHead at isIn
    split at isIn
    · exact (List.mem_cons.mp isIn).elim (fun same => .inr ⟨x, List.mem_cons_self, same⟩)
        fun isIn => .inl (List.mem_cons_of_mem _ isIn)
    · refine (List.mem_cons.mp isIn).elim (fun same => .inl (same ▸ List.mem_cons_self)) fun isIn => ?_
      exact (ih isIn).imp (List.mem_cons_of_mem _) fun ⟨z, isIn, same⟩ => ⟨z, List.mem_cons_of_mem _ isIn, same⟩

theorem modHead_ne_nil {f : Exchange → Exchange} {l : List Exchange} (filled : l ≠ []) : modHead f l ≠ [] := by
  cases l with
  | nil => exact absurd rfl filled
  | cons x l =>
    unfold modHead
    split <;> exact List.cons_ne_nil _ _

theorem State.Restarted.modCell (restarted : s.Restarted v) {f : Cell → Cell}
    (cell : (s.cell c).Restarted s.clock (f (v.cell c))) : s.Restarted (v.modCell c f) := by
  refine ⟨restarted.clock, restarted.active, restarted.errors, restarted.idle, restarted.rx, restarted.attempt,
    restarted.slotDriven, fun d => ?_⟩
  rw [State.cell_modCell]
  by_cases same : c = d
  · subst same
    rw [if_pos rfl]
    exact cell
  · rw [if_neg same]
    exact restarted.cells d

/-- A cell whose head is granted a buffer. -/
theorem Cell.Restarted.granted {now g : Stamp} {x z : Cell} (restarted : x.Restarted now z)
    (grant : g = 0 ∨ (z.queue ≠ [] ∧ g = now)) :
    x.Restarted now { z with queue := modHead (Exchange.granted b) z.queue, lastGrant := g } := by
  refine ⟨restarted.good, restarted.count, restarted.answers, restarted.enabled, restarted.magSize, restarted.issueLimit,
    fun y isIn => ?_, grant.imp_right fun ⟨filled, last⟩ => ⟨modHead_ne_nil filled, last⟩⟩
  rcases of_mem_modHead isIn with isIn | ⟨e, isIn', rfl⟩
  · exact restarted.queue y isIn
  · exact restarted.queue e isIn'

theorem State.Restarted.grantOne (restarted : s.Restarted v) : s.Restarted v.grantOne := by
  cases empty : v.emptyBuffer with
  | none =>
    rw [State.grantOne_of_sated (.inl empty)]
    exact restarted
  | some b =>
    cases next : v.nextGrant with
    | none =>
      rw [State.grantOne_of_sated (.inr next)]
      exact restarted
    | some c =>
      obtain ⟨e, head, -⟩ := State.of_nextGrant next
      obtain ⟨q, isIn, -⟩ := Cell.queued_of_head head
      rw [State.grantOne_of_next empty next]
      exact restarted.modCell ((restarted.cells c).granted (.inr ⟨List.ne_nil_of_mem isIn, restarted.clock⟩))

theorem State.Restarted.grantPoll (restarted : s.Restarted v) : s.Restarted v.grantPoll := by
  cases busy : v.bufferBusy 1 with
  | true =>
    rw [State.grantPoll_of_idle (.inl busy)]
    exact restarted
  | false =>
    cases next : v.nextPoll with
    | none =>
      rw [State.grantPoll_of_idle (.inr next)]
      exact restarted
    | some c =>
      rw [State.grantPoll_of_next busy next]
      exact restarted.modCell ((restarted.cells c).granted (restarted.cells c).lastGrant)

theorem State.Restarted.queueExchange (restarted : s.Restarted v) (c : CellNo) (id tool slot : Nat) (owner : ExchangeOwner) :
    s.Restarted (v.queueExchange c (.withdraw id tool slot) owner).1 := by
  cases check : (v.cell c).queueCheck (.withdraw id tool slot) with
  | some refusal =>
    rw [State.queueExchange_refused check]
    exact restarted
  | none =>
    rw [State.queueExchange_taken_in check]
    have joins : s.Restarted (v.modCell c fun x =>
        { x with queue := insertExchange (v.newExchange (.withdraw id tool slot) owner) x.queue }) := by
      have kept := restarted.cells c
      refine restarted.modCell ⟨kept.good, kept.count, kept.answers, kept.enabled, kept.magSize, kept.issueLimit, fun y isIn => ?_, ?_⟩
      · rcases mem_insertExchange.mp isIn with rfl | isIn
        · exact ⟨restarted.clock, id, tool, slot, rfl⟩
        · exact kept.queue y isIn
      · exact kept.lastGrant.imp_right fun ⟨_, last⟩ => ⟨List.ne_nil_of_mem (mem_insertExchange.mpr (.inl rfl)), last⟩
    rw [State.grantBuffers_of_active joins.active]
    exact joins.grantOne.grantOne.grantOne.grantOne.grantOne.grantOne.grantPoll

/-! ## What the dropped exchanges leave (R106, R155) -/

theorem State.Restarted.enterWithdrawing (restarted : s.Restarted v) (i : IssueNo) (st : Status) :
    s.Restarted (v.enterWithdrawing i st) := by
  unfold State.enterWithdrawing
  split
  · exact restarted
  · rename_i x issue
    have failing := restarted.modIssue i fun x => { x.fail st with phase := .withdrawing, request := none }
    have queued := failing.queueExchange x.cell (v.issueId i) x.tool x.slot (.issue (v.issueId i))
    dsimp only
    split
    · exact queued
    · exact queued.closeFailed i st .unconfirmed

theorem State.Restarted.returnStep (restarted : s.Restarted v) (n : SlotNo) (r : ReturnCtx) : s.Restarted (v.returnStep n r) := by
  unfold State.returnStep
  split
  · split
    · exact restarted.setWork n _
    · exact restarted.complete n _ _
  · exact restarted.setWork n _

theorem State.Restarted.queueReturnWithdraw (restarted : s.Restarted v) (n : SlotNo) (r : ReturnCtx) :
    s.Restarted (v.queueReturnWithdraw n r).1 := by
  unfold State.queueReturnWithdraw
  split
  · exact restarted
  · rename_i c m _
    have queued := restarted.queueExchange c 0xFF r.tool m (.slot n)
    split
    · rename_i t result
      rw [result] at queued
      exact queued
    · rename_i t refusal result
      rw [result] at queued
      exact queued

theorem State.Restarted.returnWithdrawEnded (restarted : s.Restarted v) (n : SlotNo) (r : ReturnCtx) (e : Exchange) :
    s.Restarted (v.returnWithdrawEnded n r e (.dropped .linkRestart)) := by
  have queued := restarted.queueReturnWithdraw n { r with tries := e.triesUsed, acknowledged := e.acknowledged }
  exact queued.returnStep n _

theorem State.Restarted.exchangeEnded (restarted : s.Restarted v) (c : CellNo) (e : Exchange) :
    s.Restarted (v.exchangeEnded c e (.dropped .linkRestart)) := by
  unfold State.exchangeEnded
  split
  · split
    · rename_i i _
      cases seen : e.acknowledged with
      | false =>
        rw [State.offerEnded_dropped_unseen seen]
        exact (restarted.modIssue i _).closeFailed i _ _
      | true =>
        rw [State.offerEnded_restart_seen seen]
        exact (restarted.modIssue i _).enterWithdrawing i _
    · exact restarted
  · split
    · rename_i i _
      exact restarted.enterWithdrawing i .linkRestart
    · exact restarted
  · split
    · exact restarted.returnWithdrawEnded _ _ e
    · exact restarted
  · exact restarted.handReport _
  · exact restarted

end

end Sys2Proof.Machine
end

section
/-! O6: the link restart (R106). -/

namespace Sys2Proof.Machine

/-! ## Each exchange that a restart drops (R106, R155) -/

section
variable {u : State} {c : CellNo} {e : Exchange} {id : Nat} {i : IssueNo} {x : Issue}

/-- An offer never acknowledged closes its issue. -/
theorem State.restart_closes_unseen (owner : e.owner = .issue id) (index : u.openIndex id = some i)
    (issue : (u.issueRec i).issue = some x) {tool slot : Nat} {length radius : Int} {remaining : Nat} {unit : LifeUnit}
    (payload : e.payload = .dataOffer id tool slot length radius remaining unit) (unseen : e.acknowledged = false)
    {result : Status} (isResult : result = x.failure.getD .linkRestart) :
    ∃ v, u.exchangeEnded c e (.dropped .linkRestart) = v ∧ (v.issueRec i).issue = none ∧ v.crib = u.crib ∧
      v.link.cells = u.link.cells ∧
      u.issueClosed i
        { x with
          tries := e.triesUsed, deferrals := e.deferrals, withdraw := .notSent, failure := some result
          closed := some u.clock } result v ∧
      (∀ k, x.origin = .order k → u.working k (.issue id) → v.formedStatus k = some result) ∧
      (∀ ref, x.origin = .cell ref → ∃ w : State, w.clock = u.clock ∧ w.reports = u.reports ∧ w.tools = v.tools ∧
        v = (w.handReport (w.issueClosedReport id
          { x with
            tries := e.triesUsed, deferrals := e.deferrals, withdraw := .notSent, failure := some result
            closed := some u.clock } ref result)).freeRecord i) ∧
      ∀ y, u.findTool x.tool = some y → x.failure ≠ some .mounted → x.failure ≠ some .astray →
        y.stateBefore ≠ some .astray → y.meetsReady = true →
        v.findTool x.tool = some { y with claim := none, stateBefore := none, state := .ready } := by
  have fails := State.restart_closes_offer (c := c) owner index issue payload unseen
  have sameId : u.issueId i = id := (State.of_openIndex index).1
  subst isResult
  refine ⟨_, rfl, fails.issue, fails.crib, fails.cells, fails.closed, fun k origin works => fails.formed origin works,
    fun ref origin => ?_, fun y found notMounted notAstray held ready => ?_⟩
  · have told := fails.toCell ref origin
    rw [sameId] at told
    exact told
  · exact fails.ready found (failure_getD_ne (by decide) notMounted) (failure_getD_ne (by decide) notAstray) held ready

end

/-! ## The state after the restart (R106) -/

theorem State.Restarted.foldl_exchangeEnded {s w : State} (restarted : s.Restarted w) (l : List (CellNo × Exchange)) :
    s.Restarted (l.foldl (fun v p => v.exchangeEnded p.1 p.2 (.dropped .linkRestart)) w) := by
  induction l generalizing w with
  | nil => exact restarted
  | cons p l ih => exact ih (restarted.exchangeEnded p.1 p.2)

theorem State.Restarted.foldl_handReport {s w : State} (restarted : s.Restarted w) (l : List Report) :
    s.Restarted (l.foldl (fun u r => u.handReport r) w) := by
  induction l generalizing w with
  | nil => exact restarted
  | cons r l ih => exact ih (restarted.handReport r)

theorem exec_linkRestart_restarted (s : State) : ∃ t, exec .linkRestart s = .next t ∧ s.Restarted t ∧
    t.link.configPart = s.link.configPart ∧ t.presetter = s.presetter ∧ t.order.portPart = s.order.portPart ∧
    t.crib.layoutPart = s.crib.layoutPart ∧ t.reports.countPart = s.reports.countPart ∧ t.board = s.board ∧
    t.pending = s.pending := by
  obtain ⟨w, isW⟩ : ∃ w, w =
    (restoreReports s.link.cells (List.finRange 24) ++ s.activeReports).foldl (fun u r => u.handReport r) s.cleared := ⟨_, rfl⟩
  obtain ⟨u, isU⟩ : ∃ u, u = s.allExchanges.foldl (fun v p => v.exchangeEnded p.1 p.2 (.dropped .linkRestart)) w := ⟨_, rfl⟩
  have told : s.Restarted w := by
    rw [isW]
    exact State.restarted_cleared.foldl_handReport _
  have ended : s.Restarted u := by
    rw [isU]
    exact told.foldl_exchangeEnded _
  have restarted : s.Restarted u.restartTimers.settle := ended.congr rfl rfl
  obtain ⟨pending, presetter, board, -, port, -, layout, -, config, count⟩ := s.restartLink_frame
  rw [State.restartLink_eq isW isU] at pending presetter board port layout config count
  exact ⟨_, exec_linkRestart isW isU, restarted, config, presetter, port, layout, count, board, pending⟩

/-- Settles O6: a restart is the reports of the cells made GOOD and of the return to ACTIVE, then each exchange told to its
owner, then the timers; from the cleared link on, every such step keeps `State.Restarted`. -/
theorem linkRestartRestores : Obligations.LinkRestartRestores := by
  refine ⟨fun s w standings link isStandings isLink isW u isU => ?_, fun u c e => ⟨fun tool payload => ?_, fun quiet => ?_,
    fun id i x tool slot length radius remaining unit owner index issue =>
      ⟨fun payload unseen result isResult => ?_, fun payload seen room standing => ?_, fun payload room standing => ?_⟩,
    fun n r d tool slot owner payload work target room standing => ?_⟩, fun s => ?_⟩
  · subst isStandings isLink
    exact exec_linkRestart_settles isW isU
  · exact State.restart_reports_lifeEnd payload
  · exact State.exchangeEnded_quiet quiet
  · exact State.restart_closes_unseen owner index issue payload unseen isResult
  · exact State.restart_withdraws_offer owner index issue room standing payload seen
  · exact State.restart_withdraws_withdraw owner index issue room standing payload
  · exact State.restart_requeues_return owner payload work target room standing
  · obtain ⟨t, runs, restarted, kept⟩ := exec_linkRestart_restarted s
    refine ⟨t, runs, restarted.active, restarted.errors, restarted.idle, restarted.rx, restarted.attempt, restarted.slotDriven,
      fun c => ?_, kept⟩
    have cell := restarted.cells c
    exact ⟨cell.good, cell.count, cell.answers, cell.enabled, cell.magSize, cell.issueLimit, cell.queue, cell.lastGrant⟩

end Sys2Proof.Machine
end

section
/-! What a fall to CUT_OFF does to each exchange and to each issue (R116, R149, R150, R155, R160). -/

namespace Sys2Proof.Machine

section
variable {s u t v : State} {i : IssueNo} {c : CellNo} {e : Exchange} {x y : Issue} {id : Nat} {result : Status}

/-! ## Exchanges dropped by a cut-off (R150, R155, R160) -/

theorem State.withdrawEnded_unanswered {outcome : ExchangeOutcome}
    (fails : outcome = .noAck ∨ outcome = .noAnswer ∨ outcome = .dropped .cutOff) :
    u.withdrawEnded i outcome = u.closeFailed i .cancelled .unconfirmed := by
  rcases fails with rfl | rfl | rfl <;> rfl

/-- The RETURN whose WITHDRAW ends without an answer. -/
def ReturnCtx.unconfirmed (e : Exchange) (r : ReturnCtx) : ReturnCtx :=
  { r with tries := e.triesUsed, acknowledged := e.acknowledged, withdraw := .unconfirmed }

theorem State.returnWithdrawEnded_unanswered {outcome : ExchangeOutcome} {n : SlotNo} {r : ReturnCtx}
    (fails : outcome = .noAck ∨ outcome = .noAnswer ∨ outcome = .dropped .cutOff) :
    u.returnWithdrawEnded n r e outcome = u.returnStep n (r.unconfirmed e) := by
  rcases fails with rfl | rfl | rfl <;> rfl

section
variable (owner : e.owner = .issue id) (index : u.openIndex id = some i) (issue : (u.issueRec i).issue = some x)
include owner index issue

/-- An offer closes its issue, the offer outcome UNKNOWN if it was acknowledged. -/
theorem State.cutOff_closes_offer {tool slot j : Nat} {length radius : Int} {remaining : Nat} {unit : LifeUnit}
    (payload : e.payload = .dataOffer j tool slot length radius remaining unit) :
    u.FailsWith i
      { x with
        tries := e.triesUsed, deferrals := e.deferrals, offer := if e.acknowledged then .unknown else x.offer
        withdraw := if e.acknowledged then .unconfirmed else .notSent, failure := some (x.failure.getD .cellCutOff)
        closed := some u.clock } (x.failure.getD .cellCutOff) (u.exchangeEnded c e (.dropped .cutOff)) := by
  rw [State.exchangeEnded_offer payload owner index]
  cases seen : e.acknowledged with
  | false =>
    rw [State.offerEnded_dropped_unseen seen]
    exact (State.failsWith_closeFailed (State.issue_modIssue (Issue.offered e) issue)).of_modIssue
  | true =>
    rw [State.offerEnded_cutOff_seen seen]
    exact (State.failsWith_closeFailed (State.issue_modIssue (Issue.unsettled e) issue)).of_modIssue

/-- A WITHDRAW that ends without an answer closes its issue UNCONFIRMED. -/
theorem State.unconfirmed_closes_withdraw {tool slot j : Nat} {outcome : ExchangeOutcome} (payload : e.payload = .withdraw j tool slot)
    (fails : outcome = .noAck ∨ outcome = .noAnswer ∨ outcome = .dropped .cutOff) :
    u.FailsWith i (x.closing .cancelled .unconfirmed u.clock) (x.failure.getD .cancelled) (u.exchangeEnded c e outcome) := by
  rw [State.exchangeEnded_withdraw payload owner index, State.withdrawEnded_unanswered fails]
  exact State.failsWith_closeFailed issue

end

theorem State.unconfirmed_return {n : SlotNo} {r : ReturnCtx} {tool slot : Nat} {outcome : ExchangeOutcome}
    (owner : e.owner = .slot n) (payload : e.payload = .withdraw id tool slot) (work : u.work n = .returning r)
    (fails : outcome = .noAck ∨ outcome = .noAnswer ∨ outcome = .dropped .cutOff) :
    u.exchangeEnded c e outcome = u.returnStep n (r.unconfirmed e) := by
  rw [State.exchangeEnded_return payload owner work, State.returnWithdrawEnded_unanswered fails]

theorem State.returnStep_unconfirmed_of_none {n : SlotNo} {r : ReturnCtx} (none : r.outcome = none) :
    u.returnStep n (r.unconfirmed e) = u.setWork n (.returning (r.unconfirmed e)) :=
  State.returnStep_of_none (r := r.unconfirmed e) none

theorem State.returnStep_unconfirmed_of_some {n : SlotNo} {r : ReturnCtx} {outcome : MoveOutcome} (moved : r.outcome = some outcome) :
    u.returnStep n (r.unconfirmed e) = u.complete n (insertionStatus outcome) (returnResult (r.unconfirmed e)) :=
  State.returnStep_of_some (r := r.unconfirmed e) moved (show WithdrawStatus.unconfirmed ≠ .pending by decide)

theorem State.context_of_work {n : SlotNo} {w : Work} (work : u.work n = w) (busy : w ≠ .idle) :
    ∃ k, (u.slot n).context = some k := by
  cases context : (u.slot n).context with
  | some k => exact ⟨k, rfl⟩
  | none =>
    unfold State.work at work
    rw [context] at work
    exact absurd work.symm busy

/-! ## The notice CELL_CUT_OFF (R149) -/

theorem State.cancelPick_eq : s.cancelPick x = { s with crib := (s.cancelPick x).crib } := by
  obtain ⟨pending, order, tools, presetter, issues, link, reports, board, freeCount, -⟩ := s.cancelPick_frame x
  generalize s.cancelPick x = t at *
  cases t
  simp only at *
  simp only [pending, order, tools, presetter, issues, link, reports, board, freeCount]

theorem State.cancelPick_of_live {num : Nat} {r : Request} (request : x.request = some num) (found : s.findRequest num = some r)
    (live : r.state = .queued ∨ r.state = .opening ∨ r.state = .opened) : s.StoppedBy r (s.cancelPick x) := by
  obtain ⟨t, cancelled, stopped, -⟩ := State.cancelRequest_of_live found live
  have picks : s.cancelPick x = t := by
    unfold State.cancelPick
    rw [request]
    exact congrArg Prod.fst cancelled
  rw [picks]
  exact stopped

/-- A close is told of the state before a change of the crib as of the state after it. -/
theorem State.issueClosed_of_crib (only : t = { s with crib := t.crib }) (closed : t.issueClosed i y result v) :
    s.issueClosed i y result v := by
  rw [only] at closed
  obtain ⟨record, others, tools, toOrder, toCell⟩ := closed
  refine ⟨record, others, tools, toOrder, fun ref origin => ?_⟩
  obtain ⟨slots, reports⟩ := toCell ref origin
  exact ⟨slots, reports.trans (State.reports_handReport_congr _ rfl rfl)⟩

theorem State.issueCutOff_of_none (none : (u.issueRec i).issue = none) : u.issueCutOff i c = u := by
  unfold State.issueCutOff
  rw [none]

theorem State.issueCutOff_of_other (issue : (u.issueRec i).issue = some x)
    (other : x.cell ≠ c ∨ (x.phase ≠ .unlockWait ∧ x.phase ≠ .pickup)) : u.issueCutOff i c = u := by
  unfold State.issueCutOff
  rw [issue]
  refine if_neg fun ⟨same, waits⟩ => ?_
  rcases other with other | ⟨notWait, notPickup⟩
  · exact other same
  · exact waits.elim notWait notPickup

section
variable (issue : (u.issueRec i).issue = some x) (same : x.cell = c) (waits : x.phase = .unlockWait ∨ x.phase = .pickup)
include issue same waits

theorem State.issueCutOff_closes : (u.cancelPick x).FailsWith i
    ({ x with request := none }.closing .cellCutOff .unconfirmed u.clock) (x.failure.getD .cellCutOff) (u.issueCutOff i c) := by
  have only := State.cancelPick_eq (s := u) (x := x)
  have closes : u.issueCutOff i c =
      ((u.cancelPick x).modIssue i fun x => { x with request := none }).closeFailed i .cellCutOff .unconfirmed := by
    unfold State.issueCutOff
    rw [issue]
    exact if_pos ⟨same, waits⟩
  have issue' : ((u.cancelPick x).issueRec i).issue = some x := by rw [only]; exact issue
  have clock : (u.cancelPick x).clock = u.clock := by rw [only]; rfl
  have fails := (State.failsWith_closeFailed (st := .cellCutOff) (w := .unconfirmed)
    (State.issue_modIssue (fun x => { x with request := none }) issue')).of_modIssue
  rw [closes, ← clock]
  exact fails

theorem State.issueCutOff_closed : u.issueClosed i
    { x with request := none, withdraw := .unconfirmed, failure := some (x.failure.getD .cellCutOff), closed := some u.clock }
    (x.failure.getD .cellCutOff) (u.issueCutOff i c) :=
  State.issueClosed_of_crib State.cancelPick_eq (State.issueCutOff_closes issue same waits).closed

theorem State.issueCutOff_cells : (u.issueCutOff i c).link.cells = u.link.cells := by
  have cells := (State.issueCutOff_closes issue same waits).cells
  rw [State.cancelPick_eq] at cells
  exact cells

theorem State.issueCutOff_crib (none : x.request = none) : (u.issueCutOff i c).crib = u.crib := by
  have picks : u.cancelPick x = u := by
    unfold State.cancelPick
    rw [none]
  have crib := (State.issueCutOff_closes issue same waits).crib
  rw [picks] at crib
  exact crib

theorem State.issueCutOff_stops {num : Nat} {r : Request} (request : x.request = some num) (found : u.findRequest num = some r)
    (live : r.state = .queued ∨ r.state = .opening ∨ r.state = .opened) : u.StoppedBy r (u.issueCutOff i c) :=
  (State.cancelPick_of_live request found live).congr (State.issueCutOff_closes issue same waits).crib

end

end

end Sys2Proof.Machine
end

section
/-! A failed try counted (R97, R113 to R115). -/

namespace Sys2Proof.Machine

/-! ## What the link and its reports leave of the part -/

/-- What the link's operations and the reports change. -/
def State.LinkAndReports (s v : State) : Prop :=
  v = { s with link := v.link, reports := v.reports, order := { s.order with cauStall := v.order.cauStall } }

section
variable {s t u v w : State}

theorem State.LinkAndReports.trans (first : s.LinkAndReports u) (second : u.LinkAndReports v) : s.LinkAndReports v := by
  unfold State.LinkAndReports at *
  rw [second, first]

theorem State.LinkAndReports.of_link (only : v = { s with link := v.link }) : s.LinkAndReports v := by
  rw [only]
  rfl

theorem State.LinkAndReports.handReport (r : Report) (s : State) : s.LinkAndReports (s.handReport r) := by
  unfold State.LinkAndReports State.handReport State.enterStall State.placeCribState
  simp only [State.modReports, State.modOrder, State.modLink]
  split <;> (try split) <;> rfl

theorem State.LinkAndReports.linkOnly (only : s.LinkAndReports v) : s.LinkOnly v := by
  rw [only]
  exact ⟨rfl, rfl, rfl, rfl, rfl, rfl⟩

theorem State.LinkAndReports.handed (only : s.LinkAndReports u) (reports : u.reports = s.reports) (r : Report) :
    (u.handReport r).reports = (s.handReport r).reports :=
  State.reports_handReport_of r reports (by rw [only]; rfl) (by rw [only])

end

/-! ## The fault count (R113, R115) -/

section
variable {s : State} {c : CellNo} {count : Nat} {cause : StandingCause}

theorem State.setCount_only : s.LinkAndReports (s.setCount c count cause) := by
  rw [State.setCount_eq]
  split
  · exact .of_link rfl
  · exact .trans (.of_link rfl) (.handReport _ _)

/-- CELL_STANDING of a change of standing (R115, R198). -/
theorem State.reports_setCount_changed (changes : standingFor (s.cell c).standing count ≠ (s.cell c).standing) :
    (s.setCount c count cause).reports = (s.handReport { Report.blank .cellStanding with
      cell := c.val + 1, code := cause.code
      detail := .plain (le 1 (s.cell c).standing.code ++ le 1 (standingFor (s.cell c).standing count).code ++
        le 2 count ++ le 1 ((s.cell c).counted count).answers) }).reports := by
  have cell : (s.modCell c (Cell.counted count)).cell c = (s.cell c).counted count := by rw [State.cell_modCell, if_pos rfl]
  have report : (s.modCell c (Cell.counted count)).standingReport c (s.cell c).standing cause =
      { Report.blank .cellStanding with
        cell := c.val + 1, code := cause.code
        detail := .plain (le 1 (s.cell c).standing.code ++ le 1 (standingFor (s.cell c).standing count).code ++
          le 2 count ++ le 1 ((s.cell c).counted count).answers) } := by
    unfold State.standingReport
    rw [cell]
    rfl
  rw [State.setCount_eq, if_neg changes, report]
  exact State.reports_handReport_congr _ rfl rfl

end

/-! ## A failed try (R97, R113, R114) -/

/-- A cell whose POLL has failed has no consecutive answer left (R114). -/
def Cell.missed (poll : Bool) (x : Cell) : Cell := { x with answers := if poll then 0 else x.answers }

/-- A cell after a failed try (R113, R115). -/
def Cell.failed (poll : Bool) (x : Cell) : Cell :=
  if x.standing = .cutOff then x.missed poll else (x.missed poll).counted (min 256 (x.faultCount + 8))

/-- The exchange without its answer window. -/
def Exchange.windowless (e : Exchange) : Exchange := { e with window := none }

/-- A failed try leaves the standing of a cell. -/
def Cell.steady (x : Cell) : Prop :=
  x.standing = .cutOff ∨ (x.standing = .good ∧ x.faultCount + 8 < 96) ∨ (x.standing = .weak ∧ 64 ≤ x.faultCount + 8)

section
variable {s w : State} {c : CellNo} {e : Exchange} {poll : Bool} {x : Cell}

theorem Cell.standingFor_of_steady (steady : x.steady) (low : x.standing = .cutOff ∨ x.faultCount + 8 < 256) :
    standingFor x.standing (min 256 (x.faultCount + 8)) = x.standing := by
  unfold standingFor
  rcases steady with cut | ⟨good, few⟩ | ⟨weak, many⟩
  · rw [cut]
  · rw [good]
    dsimp only
    rw [if_neg (by omega), if_neg (by omega)]
  · have below : x.faultCount + 8 < 256 := low.resolve_left (by rw [weak]; decide)
    rw [weak]
    dsimp only
    rw [if_neg (by omega), if_neg (by omega)]

theorem Cell.failed_of_cutOff (cut : x.standing = .cutOff) : x.failed poll = x.missed poll := if_pos cut

theorem Cell.failed_of_ne (standing : x.standing ≠ .cutOff) :
    x.failed poll = (x.missed poll).counted (min 256 (x.faultCount + 8)) := if_neg standing

/-- The state with the answers of the cell reset if it was a POLL that failed. -/
def State.missed (c : CellNo) (poll : Bool) (s : State) : State := if poll then s.modCell c (Cell.missed true) else s

theorem State.cell_missed : (s.missed c poll).cell c = (s.cell c).missed poll := by
  cases poll with
  | false => rfl
  | true => exact (State.cell_modCell ..).trans (if_pos rfl)

theorem State.missed_only : s.LinkAndReports (s.missed c poll) := by
  cases poll <;> exact .of_link rfl

theorem State.reports_missed : (s.missed c poll).reports = s.reports := by cases poll <;> rfl

theorem State.countFailure_eq : s.countFailure c poll = if (s.cell c).standing = .cutOff then s.missed c poll
    else (s.missed c poll).setCount c (min 256 ((s.cell c).faultCount + 8)) .countRise := by
  have cell := State.cell_missed (s := s) (c := c) (poll := poll)
  have becomes : s.countFailure c poll = if ((s.missed c poll).cell c).standing = .cutOff then s.missed c poll
    else (s.missed c poll).setCount c (min 256 (((s.missed c poll).cell c).faultCount + 8)) .countRise := rfl
  rw [becomes, cell]
  rfl

theorem State.cell_countFailure : (s.countFailure c poll).cell c = (s.cell c).failed poll := by
  rw [State.countFailure_eq]
  unfold Cell.failed
  split
  · exact State.cell_missed
  · rw [State.cell_setCount, State.cell_missed]

theorem State.countFailure_only : s.LinkAndReports (s.countFailure c poll) := by
  rw [State.countFailure_eq]
  split
  · exact State.missed_only
  · exact State.missed_only.trans State.setCount_only

theorem State.reports_countFailure_same (steady : (s.cell c).steady)
    (low : (s.cell c).standing = .cutOff ∨ (s.cell c).faultCount + 8 < 256) : (s.countFailure c poll).reports = s.reports := by
  rw [State.countFailure_eq]
  split
  · exact State.reports_missed
  · refine (State.reports_setCount_same ?_).trans State.reports_missed
    rw [State.cell_missed]
    exact Cell.standingFor_of_steady steady low

/-- CELL_STANDING of a cell that a failed try makes WEAK or CUT_OFF (R115, R198). -/
theorem State.reports_countFailure_changed {st : Standing} (standing : (s.cell c).standing ≠ .cutOff)
    (becomes : standingFor (s.cell c).standing (min 256 ((s.cell c).faultCount + 8)) = st) (changes : st ≠ (s.cell c).standing) :
    (s.countFailure c poll).reports = (s.handReport { Report.blank .cellStanding with
      cell := c.val + 1, code := 1
      detail := .plain (le 1 (s.cell c).standing.code ++ le 1 st.code ++ le 2 (min 256 ((s.cell c).faultCount + 8)) ++
        le 1 (if st = .cutOff then 0 else if poll then 0 else (s.cell c).answers)) }).reports := by
  have cell := State.cell_missed (s := s) (c := c) (poll := poll)
  have standing' : ((s.missed c poll).cell c).standing = (s.cell c).standing := by rw [cell]; rfl
  have answers : (((s.missed c poll).cell c).counted (min 256 ((s.cell c).faultCount + 8))).answers =
      if st = .cutOff then 0 else if poll then 0 else (s.cell c).answers := by
    unfold Cell.counted
    dsimp only
    rw [standing', becomes, cell]
    exact if_congr (and_iff_right changes) rfl rfl
  have reported := State.reports_setCount_changed (s := s.missed c poll) (c := c)
    (count := min 256 ((s.cell c).faultCount + 8)) (cause := .countRise) (by rw [standing', becomes]; exact changes)
  rw [standing', becomes, answers] at reported
  rw [State.countFailure_eq, if_neg standing, reported]
  exact State.missed_only.handed State.reports_missed _

end

end Sys2Proof.Machine
end

section
/-! The next try, or the end, after a failed try (R97). -/

namespace Sys2Proof.Machine

/-- What a failed try of the exchange in flight leaves before the next try, the end or the cut-off (R97, R113). -/
structure State.TriedBy (s : State) (c : CellNo) (e : Exchange) (w : State) : Prop where
  only : s.LinkAndReports w
  cell : w.cell c = ((s.cell c).failed e.isPoll).modInFlight Exchange.windowless
  steady : (s.cell c).steady → (s.cell c).standing = .cutOff ∨ (s.cell c).faultCount + 8 < 256 → w.reports = s.reports
  changed : ∀ st, (s.cell c).standing ≠ .cutOff →
    standingFor (s.cell c).standing (min 256 ((s.cell c).faultCount + 8)) = st → st ≠ (s.cell c).standing →
    w.reports = (s.handReport { Report.blank .cellStanding with
      cell := c.val + 1, code := 1
      detail := .plain (le 1 (s.cell c).standing.code ++ le 1 st.code ++ le 2 (min 256 ((s.cell c).faultCount + 8)) ++
        le 1 (if st = .cutOff then 0 else if e.isPoll then 0 else (s.cell c).answers)) }).reports

/-- The failed try counted. -/
def State.tried (c : CellNo) (e : Exchange) (s : State) : State :=
  (s.modCell c (Cell.modInFlight Exchange.windowless)).countFailure c e.isPoll

theorem Cell.failed_modInFlight {f : Exchange → Exchange} {poll : Bool} (x : Cell) :
    (x.modInFlight f).failed poll = (x.failed poll).modInFlight f := by
  unfold Cell.failed
  rw [apply_ite (Cell.modInFlight f)]
  rfl

section
variable {s s' w : State} {c : CellNo} {e : Exchange} {x : Cell} {poll : Bool}

theorem State.triedBy_tried (link : s' = { s with link := s'.link }) (cells : s'.link.cells = s.link.cells) :
    s.TriedBy c e (s'.tried c e) := by
  generalize isU : s'.modCell c (Cell.modInFlight Exchange.windowless) = u
  have cell : u.cell c = (s.cell c).modInFlight Exchange.windowless := by
    rw [← isU, State.cell_modCell, if_pos rfl, State.cell, cells]
    rfl
  have only : s.LinkAndReports u := .of_link (by rw [← isU, link]; rfl)
  have reports : u.reports = s.reports := by rw [← isU, link]; rfl
  have standing : (u.cell c).standing = (s.cell c).standing := by rw [cell]; rfl
  have count : (u.cell c).faultCount = (s.cell c).faultCount := by rw [cell]; rfl
  have answers : (u.cell c).answers = (s.cell c).answers := by rw [cell]; rfl
  unfold State.tried
  rw [isU]
  refine ⟨only.trans State.countFailure_only, ?_, fun steady low => ?_, fun st notCut becomes changes => ?_⟩
  · rw [State.cell_countFailure, cell, Cell.failed_modInFlight]
  · refine (State.reports_countFailure_same ?_ ?_).trans reports
    · unfold Cell.steady
      rw [standing, count]
      exact steady
    · rw [standing, count]
      exact low
  · have reported := State.reports_countFailure_changed (s := u) (c := c) (poll := e.isPoll) (st := st)
      (by rw [standing]; exact notCut) (by rw [standing, count]; exact becomes) (by rw [standing]; exact changes)
    rw [standing, count, answers] at reported
    exact reported.trans (only.handed reports _)

/-! ## The cell after the failed try -/

theorem Cell.queue_failed : (x.failed poll).queue = x.queue := by
  unfold Cell.failed
  split <;> rfl

theorem Cell.faultCount_failed (standing : x.standing ≠ .cutOff) (low : x.faultCount + 8 < 256) :
    (x.failed poll).faultCount = x.faultCount + 8 := by
  rw [Cell.failed_of_ne standing]
  exact Nat.min_eq_right (Nat.le_of_lt low)

theorem Cell.standing_failed_ne (standing : x.standing ≠ .cutOff) (low : x.faultCount + 8 < 256) :
    (x.failed poll).standing ≠ .cutOff := by
  rw [Cell.failed_of_ne standing]
  exact standingFor_ne_cutOff standing (Nat.lt_of_le_of_lt (Nat.min_le_right _ _) low)

theorem Cell.standing_failed_steady (steady : x.steady) (low : x.standing = .cutOff ∨ x.faultCount + 8 < 256) :
    (x.failed poll).standing = x.standing := by
  unfold Cell.failed
  split
  · rfl
  · exact Cell.standingFor_of_steady steady low

theorem standingFor_weak {count : Nat} (many : 96 ≤ count + 8) (low : count + 8 < 256) :
    standingFor .good (min 256 (count + 8)) = .weak := by
  unfold standingFor
  dsimp only
  rw [if_neg (by omega), if_pos (by omega)]

theorem standingFor_cutOff {st : Standing} {count : Nat} (high : 256 ≤ count + 8) :
    standingFor st (min 256 (count + 8)) = .cutOff := by
  unfold standingFor
  cases st with
  | cutOff => rfl
  | good => exact if_pos (by omega)
  | weak => exact if_pos (by omega)

theorem Cell.answers_failed (low : x.standing = .cutOff ∨ x.faultCount + 8 < 256) :
    (x.failed poll).answers = if poll then 0 else x.answers := by
  unfold Cell.failed
  split
  · rfl
  · rename_i standing
    have below := low.resolve_left standing
    refine if_neg fun both => ?_
    exact standingFor_ne_cutOff standing (Nat.lt_of_le_of_lt (Nat.min_le_right _ _) below) both.2

/-- The cell that a failed try cuts off (R115). -/
theorem Cell.failed_cutOff (standing : x.standing ≠ .cutOff) (high : 256 ≤ x.faultCount + 8) :
    (x.failed poll).standing = .cutOff ∧ (x.failed poll).faultCount = 256 ∧ (x.failed poll).answers = 0 := by
  have cut : standingFor (x.missed poll).standing (min 256 (x.faultCount + 8)) = .cutOff := standingFor_cutOff high
  rw [Cell.failed_of_ne standing]
  refine ⟨cut, Nat.min_eq_left high, if_pos ⟨?_, cut⟩⟩
  rw [cut]
  exact standing.symm

/-! ## The next try, or the end (R97) -/

theorem State.TriedBy.flies (tried : s.TriedBy c e w) (flies : (s.cell c).inFlight = some e) :
    (w.cell c).inFlight = some e.windowless := by
  have flies' : ((s.cell c).failed e.isPoll).inFlight = some e := by
    rw [Cell.inFlight, Cell.queue_failed]
    exact flies
  rw [tried.cell]
  exact Cell.inFlight_modInFlight flies' fun d step => step

theorem State.TriedBy.standing (tried : s.TriedBy c e w) :
    (w.cell c).standing = ((s.cell c).failed e.isPoll).standing := by rw [tried.cell]; rfl

theorem State.TriedBy.faultCount (tried : s.TriedBy c e w) :
    (w.cell c).faultCount = ((s.cell c).failed e.isPoll).faultCount := by rw [tried.cell]; rfl

theorem State.TriedBy.answers (tried : s.TriedBy c e w) : (w.cell c).answers = ((s.cell c).failed e.isPoll).answers := by
  rw [tried.cell]; rfl

theorem State.afterFailure_of_left (flies : (w.cell c).inFlight = some e) (left : e.triesUsed < e.triesAllowed) :
    w.afterFailure c = (w.retry c, []) := by
  unfold State.afterFailure
  rw [flies]
  exact if_pos left

theorem State.afterFailure_of_last (flies : (w.cell c).inFlight = some e) (last : e.triesAllowed ≤ e.triesUsed) :
    w.afterFailure c = (w.removeInFlight c, [.ended c e (if e.acknowledged then .noAnswer else .noAck)]) := by
  unfold State.afterFailure State.endInFlight
  rw [flies]
  exact if_neg (Nat.not_lt.mpr last)

end

end Sys2Proof.Machine
end

section
/-! FRAME_SENT and ANSWER_WINDOW_EXPIRES while the try ends well, or another is left (R89, R97, R103). -/

namespace Sys2Proof.Machine

section
variable {s s' w : State} {c : CellNo} {e : Exchange} {a : Attempt} {o : ExchangeOwner} {ack : Bool} {cmd : Instr}

/-! ## A frame sent (R89, R97, R103) -/

/-- The line free again, and the error count lowered (R103). -/
def State.lineFree (s : State) : State := { s with link := { s.link with errors := s.link.errors - 1, attempt := none } }

theorem exec_frameSent_of_none (none : s.link.attempt = none) : exec (.frameSent ack) s = .next s := by
  change execFrameSent ack s = _
  unfold execFrameSent
  rw [none]

theorem exec_answerWindow_of_none (none : ∀ e, (s.cell c).inFlight = some e → e.window = none) :
    exec (.answerWindowExpires c) s = .next s := by
  refine if_neg ?_
  cases flies : (s.cell c).inFlight with
  | none => simp
  | some e => simp [none e flies]

theorem exec_answerWindow (flies : (s.cell c).inFlight = some e) (runs : e.window.isSome = true) :
    exec (.answerWindowExpires c) s = .next (State.deliverAll (s.failedTry c)).settle :=
  if_pos (by rw [flies]; exact runs)

section
variable (attempt : s.link.attempt = some a)
include attempt

theorem exec_frameSent : exec (.frameSent ack) s = .next (s.frameSent a ack).settle := by
  change execFrameSent ack s = _
  unfold execFrameSent
  rw [attempt]

theorem exec_frameSent_broadcast (alone : s.order.formedNow = []) (broadcast : a.exchange = none) :
    exec (.frameSent ack) s = .next { s with link :=
      { s.link with errors := s.link.errors - 1, attempt := none, buffer0 := s.link.next0, next0 := none } } := by
  have sent : s.frameSent a ack = { s with link :=
      { s.link with errors := s.link.errors - 1, attempt := none, buffer0 := s.link.next0, next0 := none } } := by
    unfold State.frameSent
    rw [broadcast]
    rfl
  rw [exec_frameSent attempt, sent]
  exact congrArg Host.Outcome.next (State.settle_of_none alone)

variable (exchange : a.exchange = some (c, o))
include exchange

theorem exec_frameSent_detached (alone : s.order.formedNow = []) (detached : a.attached = false) :
    exec (.frameSent ack) s = .next s.lineFree.grantBuffers := by
  have sent : s.frameSent a ack = s.lineFree.grantBuffers := by
    unfold State.frameSent
    rw [exchange]
    exact if_neg (by simp [detached])
  have alone' : s.lineFree.grantBuffers.order.formedNow = [] := by
    rw [State.grantBuffers_eq]
    exact alone
  rw [exec_frameSent attempt, sent, State.settle_of_none alone']

variable (attached : a.attached = true)
include attached

theorem exec_frameSent_exchange : exec (.frameSent ack) s = .next (s.lineFree.exchangeSent c ack).settle := by
  have sent : s.frameSent a ack = s.lineFree.exchangeSent c ack := by
    unfold State.frameSent
    rw [exchange]
    exact if_pos attached
  rw [exec_frameSent attempt, sent]

variable (flies : (s.cell c).inFlight = some e)
include flies

theorem exec_frameSent_recessive : exec (.frameSent false) s = .next (State.deliverAll (s.lineFree.failedTry c)).settle := by
  have flies' : (s.lineFree.cell c).inFlight = some e := flies
  rw [exec_frameSent_exchange attempt exchange attached]
  unfold State.exchangeSent
  rw [flies']
  rfl

theorem exec_frameSent_waits (alone : s.order.formedNow = []) (expects : e.payload.expectsAnswer = true) :
    exec (.frameSent true) s = .next (s.lineFree.modCell c fun x =>
      { x with queue := x.queue.map fun e : Exchange => if e.step = ExchangeStep.inFlight then
        { e with acknowledged := true, window := some s.link.answerWindow } else e }) := by
  have flies' : (s.lineFree.cell c).inFlight = some e := flies
  have sent : s.lineFree.exchangeSent c true = s.lineFree.modCell c fun x =>
      { x with queue := x.queue.map fun e : Exchange => if e.step = ExchangeStep.inFlight then
        { e with acknowledged := true, window := some s.link.answerWindow } else e } := by
    unfold State.exchangeSent
    rw [flies']
    dsimp only
    rw [if_neg (by decide), if_pos expects]
    rfl
  rw [exec_frameSent_exchange attempt exchange attached, sent]
  exact congrArg Host.Outcome.next (State.settle_of_none alone)

theorem exec_frameSent_ends (alone : s.order.formedNow = []) (expects : e.payload.expectsAnswer = false) :
    exec (.frameSent true) s = .next (s.lineFree.afterAnswer c) := by
  have flies' : (s.lineFree.cell c).inFlight = some e := flies
  have ended (u : State) : u.exchangeEnded c { e with acknowledged := true, window := none } (.answered []) = u := by
    unfold State.exchangeEnded
    cases payload : e.payload with
    | lifeEnd t => rfl
    | deny ref value reason => rfl
    | dataOffer => simp [payload, Payload.expectsAnswer] at expects
    | withdraw => simp [payload, Payload.expectsAnswer] at expects
    | poll => simp [payload, Payload.expectsAnswer] at expects
  have sent : s.lineFree.exchangeSent c true = s.lineFree.afterAnswer c := by
    unfold State.exchangeSent
    rw [flies']
    dsimp only
    rw [if_neg (by decide), if_neg (by simp [expects]), State.deliver_answerEnds flies']
    exact ended _
  have alone' : (s.lineFree.afterAnswer c).order.formedNow = [] := State.afterAnswer_linkOnly.formedNow.trans alone
  rw [exec_frameSent_exchange attempt exchange attached, sent, State.settle_of_none alone']

end

/-! ## The line after a counted success (R103) -/

theorem State.line_grantBuffers (s : State) :
    s.grantBuffers.link.errors = s.link.errors ∧ s.grantBuffers.link.attempt = s.link.attempt :=
  s.grantBuffers_keeps (P := fun t => t.link.errors = s.link.errors ∧ t.link.attempt = s.link.attempt)
    (fun _ _ _ _ kept => kept) (fun _ _ kept => kept) ⟨rfl, rfl⟩

theorem State.line_countSuccess :
    (s.countSuccess c).link.errors = s.link.errors ∧ (s.countSuccess c).link.attempt = s.link.attempt := by
  unfold State.countSuccess
  dsimp only
  split
  · exact ⟨rfl, rfl⟩
  · rw [State.setCount_eq]
    split
    · exact ⟨rfl, rfl⟩
    · generalize isT : s.modCell c (Cell.counted _) = t
      have line := State.lineEnds_handReport (t.standingReport c (s.cell c).standing .countFall) t
      refine ⟨(congrArg Link.errors line :).trans ?_, (congrArg Link.attempt line :).trans ?_⟩ <;> (rw [← isT]; rfl)

/-- What an acknowledged frame that expects no answer leaves of the line. -/
theorem State.line_afterAnswer (free : s.link.attempt = none) :
    (s.afterAnswer c).link.errors = s.link.errors ∧ (s.afterAnswer c).link.attempt = none := by
  obtain ⟨errors, attempt⟩ := State.line_countSuccess (c := c)
    (s := s.modCell c (Cell.modInFlight fun e => { e with acknowledged := true, window := none }))
  unfold State.afterAnswer State.removeInFlight
  generalize (s.modCell c (Cell.modInFlight fun e => { e with acknowledged := true, window := none })).countSuccess c = t at *
  obtain ⟨errors', attempt'⟩ := State.line_grantBuffers ((t.modCell c Cell.dropInFlight).detachAttempt c)
  have idle : t.link.attempt = none := attempt.trans free
  refine ⟨errors'.trans errors, attempt'.trans ?_⟩
  change t.link.attempt.map _ = none
  rw [idle]
  rfl

end

end Sys2Proof.Machine
end

section
/-! A failed try with another left (R97, R113 to R115). -/

namespace Sys2Proof.Machine

section
variable {s s' w : State} {c : CellNo} {e : Exchange} {cmd : Instr}

/-! ## The two ways a try fails (R97) -/

/-- The command that ends a try of the exchange in flight of a cell without success: a recessive slot, or the window expired. -/
def State.failsTry (s : State) (c : CellNo) (e : Exchange) (cmd : Instr) : Prop :=
  (∃ a o, cmd = .frameSent false ∧ s.link.attempt = some a ∧ a.exchange = some (c, o) ∧ a.attached = true) ∨
    (cmd = .answerWindowExpires c ∧ e.window.isSome = true)

theorem exec_failsTry (flies : (s.cell c).inFlight = some e) (fails : s.failsTry c e cmd) :
    ∃ s' : State, s' = { s with link := s'.link } ∧ s'.link.cells = s.link.cells ∧
      exec cmd s = .next (State.deliverAll (s'.failedTry c)).settle := by
  rcases fails with ⟨a, o, rfl, attempt, exchange, attached⟩ | ⟨rfl, runs⟩
  · exact ⟨s.lineFree, rfl, rfl, exec_frameSent_recessive attempt exchange attached flies⟩
  · exact ⟨s, rfl, rfl, exec_answerWindow flies runs⟩

theorem State.failedTry_of_kept (flies : (s.cell c).inFlight = some e)
    (kept : (s.cell c).standing = .cutOff ∨ ((s.tried c e).cell c).standing ≠ .cutOff) :
    s.failedTry c = (s.tried c e).afterFailure c := by
  unfold State.failedTry
  rw [flies]
  exact if_neg fun ⟨notCut, cut⟩ => kept.elim notCut fun stays => stays cut

/-- The failed try of a cell that it does not cut off (R97). -/
theorem exec_failsTry_kept (flies : (s.cell c).inFlight = some e) (fails : s.failsTry c e cmd)
    (low : (s.cell c).standing = .cutOff ∨ (s.cell c).faultCount + 8 < 256) :
    ∃ w, s.TriedBy c e w ∧ exec cmd s = .next (State.deliverAll (w.afterFailure c)).settle := by
  obtain ⟨s', link, cells, runs⟩ := exec_failsTry flies fails
  have cell : s'.cell c = s.cell c := by
    unfold State.cell
    rw [cells]
  have tried : s.TriedBy c e (s'.tried c e) := State.triedBy_tried link cells
  have kept : (s'.cell c).standing = .cutOff ∨ ((s'.tried c e).cell c).standing ≠ .cutOff := by
    rw [cell, tried.standing]
    by_cases cut : (s.cell c).standing = .cutOff
    · exact .inl cut
    · exact .inr (Cell.standing_failed_ne cut (low.resolve_left cut))
  rw [State.failedTry_of_kept (by rw [cell]; exact flies) kept] at runs
  exact ⟨_, tried, runs⟩

/-! ## The next try (R97) -/

/-- What a failed try leaves while tries are left. -/
structure State.RetriedBy (s : State) (c : CellNo) (e : Exchange) (t : State) : Prop where
  only : s.LinkOnly t
  queue : (t.cell c).queue = (s.cell c).queue.map fun e : Exchange => if e.step = ExchangeStep.inFlight then
    { e with triesUsed := min 16 (e.triesUsed + 1), window := none } else e
  standing : (t.cell c).standing = ((s.cell c).failed e.isPoll).standing
  faultCount : (t.cell c).faultCount = ((s.cell c).failed e.isPoll).faultCount
  answers : (t.cell c).answers = ((s.cell c).failed e.isPoll).answers

theorem State.TriedBy.retried (tried : s.TriedBy c e w) : s.RetriedBy c e (w.retry c) := by
  have cell : (w.retry c).cell c =
      (w.cell c).modInFlight fun e => { e with triesUsed := min 16 (e.triesUsed + 1), window := none } := by
    unfold State.retry
    rw [State.cell_modCell, if_pos rfl]
  have queue : (w.cell c).queue = (s.cell c).queue.map fun e : Exchange =>
      if e.step = ExchangeStep.inFlight then e.windowless else e := by
    rw [tried.cell]
    exact congrArg (List.map _) Cell.queue_failed
  refine ⟨tried.only.linkOnly.trans (.of_link rfl), ?_, ?_, ?_, ?_⟩
  · rw [cell]
    change (w.cell c).queue.map _ = _
    rw [queue, List.map_map]
    refine List.map_congr_left fun d _ => ?_
    simp only [Function.comp_apply]
    by_cases step : d.step = .inFlight
    · rw [if_pos step, if_pos (show d.windowless.step = .inFlight from step), if_pos step]
      rfl
    · rw [if_neg step, if_neg step]
  · rw [cell]
    exact tried.standing
  · rw [cell]
    exact tried.faultCount
  · rw [cell]
    exact tried.answers

theorem Exchange.isPoll_ite {α : Type} (e : Exchange) (a b : α) : (if e.isPoll then a else b) = if e.payload = .poll then a else b :=
  if_congr Exchange.isPoll_iff rfl rfl

/-- A failed try with another left (R97, R113 to R115). -/
theorem exec_failsTry_retries (alone : s.order.formedNow = []) (flies : (s.cell c).inFlight = some e) (fails : s.failsTry c e cmd)
    (low : (s.cell c).standing = .cutOff ∨ (s.cell c).faultCount + 8 < 256) (left : e.triesUsed < e.triesAllowed) :
    ∃ t, exec cmd s = .next t ∧
      (t.cell c).queue = ((s.cell c).queue.map fun e : Exchange => if e.step = ExchangeStep.inFlight then
        { e with triesUsed := min 16 (e.triesUsed + 1), window := none } else e) ∧
      ((s.cell c).standing ≠ .cutOff → (t.cell c).faultCount = (s.cell c).faultCount + 8) ∧
      ((s.cell c).standing = .good → 96 ≤ (s.cell c).faultCount + 8 → (t.cell c).standing = .weak ∧
        t.reports = (s.handReport
          { Report.blank .cellStanding with
            cell := c.val + 1, code := 1
            detail := .plain (le 1 0 ++ le 1 1 ++ le 2 ((s.cell c).faultCount + 8) ++
              le 1 (if e.payload = .poll then 0 else (s.cell c).answers)) }).reports) ∧
      ((s.cell c).standing = .cutOff ∨ ((s.cell c).standing = .good ∧ (s.cell c).faultCount + 8 < 96) ∨
          ((s.cell c).standing = .weak ∧ 64 ≤ (s.cell c).faultCount + 8) →
        (t.cell c).standing = (s.cell c).standing ∧ t.reports = s.reports) ∧
      (t.cell c).answers = (if e.payload = .poll then 0 else (s.cell c).answers) ∧
      t.crib = s.crib ∧ t.tools = s.tools ∧ t.issues = s.issues := by
  obtain ⟨w, tried, runs⟩ := exec_failsTry_kept flies fails low
  have retried := tried.retried
  have goesOn : exec cmd s = .next (w.retry c) := by
    rw [runs, State.afterFailure_of_left (tried.flies flies) left]
    exact congrArg Host.Outcome.next (State.settle_of_none (retried.only.formedNow.trans alone))
  have reports : (w.retry c).reports = w.reports := rfl
  refine ⟨_, goesOn, retried.queue, fun standing => ?_, fun good many => ?_, fun steady => ⟨?_, ?_⟩, ?_, retried.only.crib,
    retried.only.tools, retried.only.issues⟩
  · rw [retried.faultCount]
    exact Cell.faultCount_failed standing (low.resolve_left standing)
  · have notCut : (s.cell c).standing ≠ .cutOff := by rw [good]; decide
    have below := low.resolve_left notCut
    have weak : standingFor (s.cell c).standing (min 256 ((s.cell c).faultCount + 8)) = .weak := by
      rw [good]
      exact standingFor_weak many below
    refine ⟨?_, ?_⟩
    · rw [retried.standing, Cell.failed_of_ne notCut]
      exact weak
    · rw [reports, tried.changed .weak notCut weak (by rw [good]; decide), good, Nat.min_eq_right (Nat.le_of_lt below),
        if_neg (by decide), Exchange.isPoll_ite]
      rfl
  · rw [retried.standing]
    exact Cell.standing_failed_steady steady low
  · rw [reports]
    exact tried.steady steady low
  · rw [retried.answers, Cell.answers_failed low, Exchange.isPoll_ite]

end

end Sys2Proof.Machine
end

section
/-! The last try failed: the exchange ends, and its owner learns of it (R97, R142, R149, R155, R160). -/

namespace Sys2Proof.Machine

/-- What the last failed try of an exchange leaves before its owner learns of its end (R93, R97, R113). -/
structure State.EndedBy (s : State) (c : CellNo) (v : State) : Prop where
  only : s.LinkOnly v
  faultCount : (s.cell c).standing ≠ .cutOff → (v.cell c).faultCount = (s.cell c).faultCount + 8
  length : (v.cell c).queue.length = ((s.cell c).queue.filter fun e => e.step != .inFlight).length
  standing : (s.cell c).standing ≠ .cutOff → (v.cell c).standing ≠ .cutOff
  reports : (s.cell c).steady → v.reports = s.reports

/-- The outcome of an exchange whose last try has failed (R97). -/
def Exchange.lastOutcome (e : Exchange) : ExchangeOutcome := if e.acknowledged then .noAnswer else .noAck

section
variable {s t u v w : State} {c : CellNo} {e : Exchange} {cmd : Instr} {i : IssueNo} {x y : Issue} {id : Nat} {result st : Status}
  {outcome : ExchangeOutcome}

theorem State.TriedBy.ended (tried : s.TriedBy c e w) (low : (s.cell c).standing = .cutOff ∨ (s.cell c).faultCount + 8 < 256) :
    s.EndedBy c (w.removeInFlight c) := by
  have only : w.LinkOnly (w.removeInFlight c) := State.removeInFlight_linkOnly
  have reports : (w.removeInFlight c).reports = w.reports := by
    unfold State.removeInFlight
    rw [State.grantBuffers_eq]
    rfl
  refine ⟨tried.only.linkOnly.trans only, fun standing => ?_, ?_, fun standing => ?_, fun steady => reports.trans (tried.steady steady low)⟩
  · rw [State.cell_removeInFlight]
    exact tried.faultCount.trans (Cell.faultCount_failed standing (low.resolve_left standing))
  · rw [State.length_removeInFlight, tried.cell]
    refine (length_filter_modInFlight (f := Exchange.windowless) (fun _ step => step) _).trans ?_
    rw [Cell.queue_failed]
  · rw [State.cell_removeInFlight]
    change (w.cell c).standing ≠ .cutOff
    rw [tried.standing]
    exact Cell.standing_failed_ne standing (low.resolve_left standing)

theorem State.exchangeEnded_windowless (u : State) : u.exchangeEnded c e.windowless outcome = u.exchangeEnded c e outcome := rfl

/-- The last try failed (R97). -/
theorem exec_failsTry_ends (flies : (s.cell c).inFlight = some e) (fails : s.failsTry c e cmd)
    (low : (s.cell c).standing = .cutOff ∨ (s.cell c).faultCount + 8 < 256) (last : e.triesAllowed ≤ e.triesUsed) :
    ∃ v, s.EndedBy c v ∧ exec cmd s = .next (v.exchangeEnded c e e.lastOutcome).settle := by
  obtain ⟨w, tried, runs⟩ := exec_failsTry_kept flies fails low
  have ends := State.afterFailure_of_last (tried.flies flies) last
  refine ⟨_, tried.ended low, ?_⟩
  rw [runs, ends]
  rfl

/-! ## The crib and the fault counts stay -/

/-- The crib and the fault counts are as they were. -/
def State.KeepsCounts (s v : State) : Prop := v.crib = s.crib ∧ ∀ d, (v.cell d).faultCount = (s.cell d).faultCount

theorem State.KeepsCounts.of_cells (crib : v.crib = s.crib) (cells : v.link.cells = s.link.cells) : s.KeepsCounts v := by
  refine ⟨crib, fun d => ?_⟩
  unfold State.cell
  rw [cells]

theorem State.closeFailed_keeps (i : IssueNo) (st : Status) (k : WithdrawStatus) : s.KeepsCounts (s.closeFailed i st k) := by
  refine .of_cells ?_ (State.cells_closeIssue _)
  simp

theorem State.enterWithdrawing_keeps (i : IssueNo) (st : Status) : s.KeepsCounts (s.enterWithdrawing i st) := by
  cases issue : (s.issueRec i).issue with
  | none =>
    have same : s.enterWithdrawing i st = s := by
      unfold State.enterWithdrawing
      rw [issue]
    rw [same]
    exact ⟨rfl, fun _ => rfl⟩
  | some x =>
    by_cases refused : 16 ≤ (s.cell x.cell).queue.length ∨ (s.cell x.cell).standing = .cutOff
    · rw [State.enterWithdrawing_of_refused issue refused]
      exact State.closeFailed_keeps i st .unconfirmed
    · rw [not_or, not_le] at refused
      have withdrawn := State.withdrawnBy_enterWithdrawing (st := st) issue refused.1 refused.2
      refine ⟨?_, withdrawn.faultCount⟩
      rw [withdrawn.only]

theorem State.returnStep_keeps (n : SlotNo) (r : ReturnCtx) : s.KeepsCounts (s.returnStep n r) := by
  obtain ⟨-, -, crib, -, -, link, -⟩ := s.returnStep_frame n r
  exact .of_cells crib (congrArg Link.cells link)

theorem State.lifeEndEnded_unanswered {tool : Nat} (fails : outcome = .noAck ∨ outcome = .noAnswer) :
    s.lifeEndEnded c tool e outcome = s.reportUndelivered c tool .noAck e.triesUsed := by
  rcases fails with rfl | rfl <;> rfl

theorem State.exchangeEnded_keeps (fails : outcome = .noAck ∨ outcome = .noAnswer) :
    s.KeepsCounts (s.exchangeEnded c e outcome) := by
  unfold State.exchangeEnded
  split
  · split
    · rename_i i _
      rcases fails with rfl | rfl
      · exact State.closeFailed_keeps (s := s.modIssue i _) i _ _
      · rw [State.offerEnded_noAnswer]
        exact State.enterWithdrawing_keeps (s := s.modIssue i _) i _
    · exact ⟨rfl, fun _ => rfl⟩
  · split
    · rename_i i _
      rw [State.withdrawEnded_unanswered (fails.imp_right .inl)]
      exact State.closeFailed_keeps i _ _
    · exact ⟨rfl, fun _ => rfl⟩
  · split
    · rw [State.returnWithdrawEnded_unanswered (fails.imp_right .inl)]
      exact State.returnStep_keeps _ _
    · exact ⟨rfl, fun _ => rfl⟩
  · rw [State.lifeEndEnded_unanswered fails]
    exact .of_cells (State.handReport_frame _ s).2.2.1 (State.cells_handReport _ s)
  · exact ⟨rfl, fun _ => rfl⟩

theorem Exchange.lastOutcome_cases : e.lastOutcome = .noAck ∨ e.lastOutcome = .noAnswer := by
  unfold Exchange.lastOutcome
  split
  · exact .inr rfl
  · exact .inl rfl

/-! ## An issue that the end closes (R142, R143, R149) -/

/-- What the end of an exchange leaves that closes an issue. -/
structure State.EndCloses (s : State) (c : CellNo) (i : IssueNo) (y : Issue) (result : Status) (v t : State) : Prop where
  gone : (t.cell c).queue.length = ((s.cell c).queue.filter fun e => e.step != .inFlight).length
  issue : (t.issueRec i).issue = none
  toOrder : ∀ n wk, y.origin = .order n → s.working n wk → t.reports = v.reports ∧
    (t.slot n).context.bind (·.output) = some
      { status := result, stamp := s.clock, result := t.issueResult (s.issueId i) y, buffer := [] }
  toCell : ∀ ref, y.origin = .cell ref → ∃ w : State, w.clock = s.clock ∧ w.tools = t.tools ∧ w.reports = v.reports ∧
    t = (w.handReport (w.issueClosedReport (s.issueId i) y ref result)).freeRecord i

theorem State.EndedBy.closes (ended : s.EndedBy c v) (alone : s.order.formedNow = []) (fails : v.FailsWith i y result t) :
    s.EndCloses c i y result v t.settle := by
  have sameId : v.issueId i = s.issueId i := by
    unfold State.issueId
    rw [ended.only.issueRec]
  refine ⟨?_, fails.issue, fun n wk origin works => ?_, fun ref origin => ?_⟩
  · rw [← ended.length]
    exact congrArg (fun cells : Vector Cell 24 => (cells.get c).queue.length) fails.cells
  · obtain ⟨⟨k, context, -, unfinished⟩, -⟩ := ended.only.working works
    obtain ⟨-, -, -, toOrder, -⟩ := fails.closed
    obtain ⟨reports, output⟩ := toOrder n k origin context unfinished
    refine ⟨reports, ?_⟩
    have formed : (t.settle.slot n).context = (t.slot n).context := rfl
    rw [formed, output, ended.only.clock, sameId]
    rfl
  · obtain ⟨w, clock, reports, tools, is⟩ := fails.toCell ref origin
    have settled : t.settle = t := State.settle_of_none ((fails.formedNow ref origin).trans (ended.only.formedNow.trans alone))
    rw [settled]
    refine ⟨w, clock.trans ended.only.clock, tools, reports, ?_⟩
    rw [← sameId]
    exact is

end

end Sys2Proof.Machine
end

section
/-! What the owner of an exchange makes of its last failed try (R97, R142, R149, R155, R160). -/

namespace Sys2Proof.Machine

section
variable {s t u v w : State} {c : CellNo} {e : Exchange} {cmd : Instr} {i : IssueNo} {x y : Issue} {id : Nat} {result st : Status}
  {outcome : ExchangeOutcome}

theorem Exchange.lastOutcome_unseen (unseen : e.acknowledged = false) : e.lastOutcome = .noAck := if_neg (by simp [unseen])

theorem Exchange.lastOutcome_seen (seen : e.acknowledged = true) : e.lastOutcome = .noAnswer := if_pos seen

theorem State.EndCloses.status {n : SlotNo} {wk : Work} (closes : s.EndCloses c i y result v t) (origin : y.origin = .order n)
    (works : s.working n wk) : t.formedStatus n = some result := by
  unfold State.formedStatus
  rw [(closes.toOrder n wk origin works).2]
  rfl

section
variable (ended : s.EndedBy c v)
include ended

theorem State.EndedBy.settled (alone : s.order.formedNow = []) : v.settle = v :=
  State.settle_of_none (ended.only.formedNow.trans alone)

section
variable (owner : e.owner = .issue id) (index : s.openIndex id = some i) (issue : (s.issueRec i).issue = some x)
include owner index issue

/-- The offer was never acknowledged: its issue closes. -/
theorem State.EndedBy.offer_closes {tool slot : Nat} {length radius : Int} {remaining : Nat} {unit : LifeUnit}
    (alone : s.order.formedNow = []) (payload : e.payload = .dataOffer id tool slot length radius remaining unit)
    (unseen : e.acknowledged = false) :
    s.EndCloses c i ((x.offered e).closing .noAnswer .notSent s.clock) (x.failure.getD .noAnswer) v
      (v.exchangeEnded c e e.lastOutcome).settle := by
  have index' : v.openIndex id = some i := (ended.only.openIndex id).trans index
  have issue' : (v.issueRec i).issue = some x := by rw [ended.only.issueRec]; exact issue
  have fails := (State.failsWith_closeFailed (st := .noAnswer) (w := .notSent)
    (State.issue_modIssue (Issue.offered e) issue')).of_modIssue
  rw [Exchange.lastOutcome_unseen unseen, State.exchangeEnded_offer payload owner index', State.offerEnded_noAck,
    ← ended.only.clock]
  exact ended.closes alone fails

/-- The offer was acknowledged once: its issue withdraws. -/
theorem State.EndedBy.offer_withdraws {tool slot : Nat} {length radius : Int} {remaining : Nat} {unit : LifeUnit}
    (payload : e.payload = .dataOffer id tool slot length radius remaining unit) (seen : e.acknowledged = true)
    (flies : (s.cell c).inFlight = some e) (isCell : x.cell = c) (standing : (s.cell c).standing ≠ .cutOff)
    (full : (s.cell c).queue.length ≤ 16) :
    ((v.exchangeEnded c e e.lastOutcome).settle.issueRec i).issue = some
      { x with
        tries := e.triesUsed, deferrals := e.deferrals, offer := .unknown, phase := .withdrawing
        request := none, failure := some (x.failure.getD .noAnswer) } := by
  subst isCell
  have index' : v.openIndex id = some i := (ended.only.openIndex id).trans index
  have issue' : (v.issueRec i).issue = some x := by rw [ended.only.issueRec]; exact issue
  have room : (v.cell x.cell).queue.length < 16 := by
    rw [ended.length]
    exact Nat.lt_of_lt_of_le (length_filter_lt_of_inFlight flies) full
  have withdrawn := State.withdrawnBy_enterWithdrawing (st := .noAnswer) (State.issue_modIssue (Issue.unsettled e) issue') room
    (ended.standing standing)
  rw [Exchange.lastOutcome_seen seen, State.exchangeEnded_offer payload owner index', State.offerEnded_noAnswer]
  exact withdrawn.issue

/-- The WITHDRAW of an issue closes it UNCONFIRMED. -/
theorem State.EndedBy.withdraw_closes {tool slot : Nat} (alone : s.order.formedNow = [])
    (payload : e.payload = .withdraw id tool slot) :
    s.EndCloses c i (x.closing .cancelled .unconfirmed s.clock) (x.failure.getD .cancelled) v
      (v.exchangeEnded c e e.lastOutcome).settle := by
  have index' : v.openIndex id = some i := (ended.only.openIndex id).trans index
  have issue' : (v.issueRec i).issue = some x := by rw [ended.only.issueRec]; exact issue
  have fails := State.unconfirmed_closes_withdraw (c := c) owner index' issue' payload
    (outcome := e.lastOutcome) (Exchange.lastOutcome_cases.imp_right .inl)
  rw [← ended.only.clock]
  exact ended.closes alone fails

end

/-- The WITHDRAW of a RETURN leaves UNCONFIRMED (R160). -/
theorem State.EndedBy.return_unconfirmed {n : SlotNo} {r : ReturnCtx} {tool slot : Nat} (owner : e.owner = .slot n)
    (payload : e.payload = .withdraw id tool slot) (works : s.working n (.returning r))
    (isT : t = (v.exchangeEnded c e e.lastOutcome).settle) :
    t.link = v.link ∧ t.reports = v.reports ∧ t.tools = s.tools ∧
      (r.outcome = none → t.work n = .returning (r.unconfirmed e)) ∧
      ∀ outcome, r.outcome = some outcome → t.formedStatus n = some (insertionStatus outcome) := by
  have works' := ended.only.working works
  rw [State.unconfirmed_return owner payload (State.work_of_working works') (Exchange.lastOutcome_cases.imp_right .inl)] at isT
  obtain ⟨⟨k, context, -, unfinished⟩, -⟩ := works'
  obtain ⟨-, tools, -, -, -, link, reports, -⟩ := State.returnStep_frame n (r.unconfirmed e) v
  subst isT
  refine ⟨link, reports, tools.trans ended.only.tools, fun noMove => ?_, fun outcome moved => ?_⟩
  · rw [State.returnStep_unconfirmed_of_none noMove]
    exact State.work_setWork context _
  · rw [State.returnStep_unconfirmed_of_some moved]
    exact State.formedStatus_complete _ _ context unfinished

/-- A LIFE_END is reported undelivered (R155). -/
theorem State.EndedBy.lifeEnd_reported {tool : Nat} (alone : s.order.formedNow = []) (payload : e.payload = .lifeEnd tool) :
    (v.exchangeEnded c e e.lastOutcome).settle = v.handReport
      { Report.blank .lifeEndUndelivered with
        cell := c.val + 1, tool := tool, code := 3, detail := .plain (le 1 e.triesUsed) } := by
  have told := (State.exchangeEnded_lifeEnd (s := v) (c := c) (outcome := e.lastOutcome) payload).trans
    (State.lifeEndEnded_unanswered Exchange.lastOutcome_cases)
  rw [told]
  exact State.settle_of_none ((State.formedNow_handReport ..).trans (ended.only.formedNow.trans alone))

theorem State.EndedBy.quiet (alone : s.order.formedNow = [])
    (quiet : e.payload = .poll ∨ ∃ ref value reason, e.payload = .deny ref value reason) :
    (v.exchangeEnded c e e.lastOutcome).settle = v := by
  rw [State.exchangeEnded_quiet quiet]
  exact ended.settled alone

end

end

end Sys2Proof.Machine
end

section
/-! What a cut-off leaves of the cells and of the issues (R116, R149, R150). -/

namespace Sys2Proof.Machine

section
variable {s u v : State} {i j : IssueNo} {c : CellNo} {e : Exchange} {x y : Issue} {result : Status}

/-! ## One step of a cut-off -/

/-- A step of a cut-off: the cells stay, an issue is as it was or closed, and one that the step spares is as it was. -/
structure State.CutOffStep (u : State) (spared : IssueNo → Prop) (v : State) : Prop where
  cells : v.link.cells = u.link.cells
  issue : ∀ j, v.issueRec j = u.issueRec j ∨ (v.issueRec j).issue = none
  kept : ∀ j, spared j → v.issueRec j = u.issueRec j

theorem State.CutOffStep.of_link {spared : IssueNo → Prop} (cells : v.link.cells = u.link.cells) (issues : v.issues = u.issues) :
    u.CutOffStep spared v :=
  ⟨cells, fun _ => .inl (State.issueRec_congr issues), fun _ _ => State.issueRec_congr issues⟩

theorem State.CutOffStep.of_closed {spared : IssueNo → Prop} (cells : v.link.cells = u.link.cells)
    (closed : u.issueClosed i y result v) (others : ∀ j, spared j → j ≠ i) : u.CutOffStep spared v := by
  obtain ⟨record, rest, -⟩ := closed
  refine ⟨cells, fun j => ?_, fun j spares => rest j (others j spares)⟩
  by_cases same : j = i
  · subst same
    exact .inr (by rw [record])
  · exact .inl (rest j same)

/-- An exchange dropped by a cut-off. -/
theorem State.exchangeEnded_cutOffStep :
    u.CutOffStep (fun j => e.owner ≠ .issue (u.issueId j)) (u.exchangeEnded c e (.dropped .cutOff)) := by
  have spares {id : Nat} {i : IssueNo} (owner : e.owner = .issue id) (index : u.openIndex id = some i) (j : IssueNo)
      (spared : e.owner ≠ .issue (u.issueId j)) : j ≠ i := by
    rintro rfl
    exact spared (by rw [owner, (State.of_openIndex index).1])
  unfold State.exchangeEnded
  split
  · rename_i id payload owner
    split
    · rename_i i index
      obtain ⟨x, issue⟩ := Option.isSome_iff_exists.mp (State.of_openIndex index).2
      have fails := State.cutOff_closes_offer (c := c) owner index issue payload
      rw [State.exchangeEnded_offer payload owner index] at fails
      exact .of_closed fails.cells fails.closed (spares owner index)
    · exact .of_link rfl rfl
  · rename_i id payload owner
    split
    · rename_i i index
      obtain ⟨x, issue⟩ := Option.isSome_iff_exists.mp (State.of_openIndex index).2
      have fails := State.unconfirmed_closes_withdraw (c := c) (outcome := .dropped .cutOff) owner index issue payload (.inr (.inr rfl))
      rw [State.exchangeEnded_withdraw payload owner index] at fails
      exact .of_closed fails.cells fails.closed (spares owner index)
    · exact .of_link rfl rfl
  · split
    · rw [State.returnWithdrawEnded_unanswered (.inr (.inr rfl))]
      obtain ⟨-, -, -, -, issues, link, -⟩ := State.returnStep_frame _ _ u
      exact .of_link (congrArg Link.cells link) issues
    · exact .of_link rfl rfl
  · exact .of_link (State.cells_handReport _ u) (State.handReport_frame _ u).2.2.2.2.1
  · exact .of_link rfl rfl

/-- An issue of the cell that waits for its pickup. -/
def Issue.waitsAt (c : CellNo) (x : Issue) : Prop := x.cell = c ∧ (x.phase = .unlockWait ∨ x.phase = .pickup)

/-- The notice to one issue. -/
theorem State.issueCutOff_cutOffStep :
    u.CutOffStep (fun j => j ≠ i ∨ ∃ x, (u.issueRec j).issue = some x ∧ ¬ x.waitsAt c) (u.issueCutOff i c) := by
  cases issue : (u.issueRec i).issue with
  | none =>
    rw [State.issueCutOff_of_none issue]
    exact .of_link rfl rfl
  | some x =>
    by_cases waits : x.waitsAt c
    · obtain ⟨same, due⟩ := waits
      refine .of_closed (State.issueCutOff_cells issue same due) (State.issueCutOff_closed issue same due) fun j spared => ?_
      rintro rfl
      obtain ⟨y, issue', notWaits⟩ := spared.resolve_left (fun other => other rfl)
      obtain rfl := Option.some.inj (issue.symm.trans issue')
      exact notWaits ⟨same, due⟩
    · have other : u.issueCutOff i c = u := by
        unfold State.issueCutOff
        rw [issue]
        exact if_neg waits
      rw [other]
      exact .of_link rfl rfl

/-! ## All its steps (R116) -/

theorem State.cutOffSteps_cells {α : Type} {step : State → α → State} {spared : State → α → IssueNo → Prop}
    (steps : ∀ u a, State.CutOffStep u (spared u a) (step u a)) (l : List α) (u : State) :
    (l.foldl step u).link.cells = u.link.cells :=
  foldl_keeps (fun t : State => t.link.cells) step (fun t a => (steps t a).cells) l u

theorem State.cutOffSteps_issue {α : Type} {step : State → α → State} {spared : State → α → IssueNo → Prop}
    (steps : ∀ u a, State.CutOffStep u (spared u a) (step u a)) (j : IssueNo) (l : List α) (u : State) :
    (l.foldl step u).issueRec j = u.issueRec j ∨ ((l.foldl step u).issueRec j).issue = none := by
  induction l generalizing u with
  | nil => exact .inl rfl
  | cons a l ih =>
    rw [List.foldl_cons]
    rcases (steps u a).issue j with same | none
    · rw [← same]
      exact ih _
    · refine .inr ((ih _).elim (fun same => ?_) id)
      rw [same]
      exact none

theorem State.exchangesCutOff_kept (l : List Exchange) (u : State) (others : ∀ e ∈ l, e.owner ≠ .issue (u.issueId j)) :
    (l.foldl (fun v e => v.exchangeEnded c e (.dropped .cutOff)) u).issueRec j = u.issueRec j := by
  induction l generalizing u with
  | nil => rfl
  | cons e l ih =>
    have same := (State.exchangeEnded_cutOffStep (u := u) (c := c) (e := e)).kept j (others e List.mem_cons_self)
    have sameId : (u.exchangeEnded c e (.dropped .cutOff)).issueId j = u.issueId j := by
      unfold State.issueId
      rw [same]
    rw [List.foldl_cons, ih _ fun d isIn => ?_, same]
    rw [sameId]
    exact others d (List.mem_cons_of_mem _ isIn)

theorem State.issuesCutOff_kept (issue : (u.issueRec j).issue = some x) (spared : ¬ x.waitsAt c) (l : List IssueNo) :
    (l.foldl (fun v i => v.issueCutOff i c) u).issueRec j = u.issueRec j := by
  induction l generalizing u with
  | nil => rfl
  | cons i l ih =>
    have same := (State.issueCutOff_cutOffStep (u := u) (c := c) (i := i)).kept j (.inr ⟨x, issue, spared⟩)
    rw [List.foldl_cons, ih (by rw [same]; exact issue), same]

theorem State.issueCutOff_issue (waits : ∀ x, (u.issueRec j).issue = some x → x.waitsAt c) :
    ((u.issueCutOff j c).issueRec j).issue = none := by
  cases issue : (u.issueRec j).issue with
  | none =>
    rw [State.issueCutOff_of_none issue]
    exact issue
  | some x =>
    obtain ⟨same, due⟩ := waits x issue
    obtain ⟨record, -⟩ := State.issueCutOff_closed issue same due
    rw [record]

theorem State.issuesCutOff_closes (waits : ∀ x, (u.issueRec j).issue = some x → x.waitsAt c) {l : List IssueNo} (isIn : j ∈ l) :
    ((l.foldl (fun v i => v.issueCutOff i c) u).issueRec j).issue = none := by
  induction l generalizing u with
  | nil => exact nomatch isIn
  | cons i l ih =>
    rw [List.foldl_cons]
    by_cases same : j = i
    · subst same
      rcases State.cutOffSteps_issue (fun u i => State.issueCutOff_cutOffStep (u := u) (c := c) (i := i)) j l
        (u.issueCutOff j c) with kept | none
      · rw [kept]
        exact State.issueCutOff_issue waits
      · exact none
    · have kept := (State.issueCutOff_cutOffStep (u := u) (c := c) (i := i)).kept j (.inl same)
      exact ih (by rw [kept]; exact waits) ((List.mem_cons.mp isIn).resolve_left same)

end

end Sys2Proof.Machine
end

section
/-! A failed try that cuts a cell off (R97, R115, R116). -/

namespace Sys2Proof.Machine

/-- What a cut-off leaves before the owners learn of it (R115, R116). -/
structure State.CutOffBy (s : State) (c : CellNo) (v : State) : Prop where
  only : s.LinkAndReports v
  reports : v.reports = (s.handReport
    { Report.blank .cellStanding with
      cell := c.val + 1, code := 1
      detail := .plain (le 1 (s.cell c).standing.code ++ le 1 2 ++ le 2 256 ++ le 1 0) }).reports
  standing : (v.cell c).standing = .cutOff
  faultCount : (v.cell c).faultCount = 256
  answers : (v.cell c).answers = 0
  polls : ∀ e ∈ (v.cell c).queue, e.payload = .poll

section
variable {s s' u v w : State} {c : CellNo} {e : Exchange} {cmd : Instr}

/-! ## The link's own part of a cut-off (R116) -/

/-- A change of the link that keeps the counts of the cell and lets only POLLs stand in its queue. -/
theorem State.CutOffBy.of_link (cut : s.CutOffBy c u) (only : v = { u with link := v.link })
    (cell : v.cell c = { u.cell c with queue := (v.cell c).queue, lastGrant := (v.cell c).lastGrant })
    (polls : ∀ e ∈ (v.cell c).queue, e.payload = .poll) : s.CutOffBy c v := by
  refine ⟨cut.only.trans (.of_link only), ?_, ?_, ?_, ?_, polls⟩
  · rw [only]
    exact cut.reports
  · rw [cell]
    exact cut.standing
  · rw [cell]
    exact cut.faultCount
  · rw [cell]
    exact cut.answers

/-- The grants leave the payloads of a queue. -/
theorem State.polls_grantBuffers (polls : ∀ e ∈ (u.cell c).queue, e.payload = .poll) :
    ∀ e ∈ (u.grantBuffers.cell c).queue, e.payload = .poll := by
  intro e isIn
  have payloads := State.queue_grantBuffers (g := (·.payload)) (fun _ _ => rfl) u c
  have isIn' : e.payload ∈ (u.grantBuffers.cell c).queue.map (·.payload) := List.mem_map_of_mem isIn
  rw [payloads] at isIn'
  obtain ⟨d, isIn, same⟩ := List.mem_map.mp isIn'
  rw [← same]
  exact polls d isIn

theorem State.CutOffBy.removeInFlight (cut : s.CutOffBy c u) : s.CutOffBy c (u.removeInFlight c) := by
  refine cut.of_link (State.grantBuffers_eq _) State.cell_removeInFlight (State.polls_grantBuffers fun e isIn => ?_)
  rw [State.cell_detachAttempt, State.cell_modCell, if_pos rfl] at isIn
  exact cut.polls e (List.mem_of_mem_filter isIn)

theorem State.CutOffBy.retry (cut : s.CutOffBy c u) : s.CutOffBy c (u.retry c) := by
  have cell : (u.retry c).cell c =
      (u.cell c).modInFlight fun e => { e with triesUsed := min 16 (e.triesUsed + 1), window := none } := by
    unfold State.retry
    rw [State.cell_modCell, if_pos rfl]
  refine cut.of_link rfl (by rw [cell]; rfl) fun e isIn => ?_
  rw [cell] at isIn
  obtain ⟨d, isIn', rfl⟩ := List.mem_map.mp isIn
  split
  · exact cut.polls d isIn'
  · exact cut.polls d isIn'

/-- The POLL in flight of the cell goes on, or ends unnoticed. -/
theorem State.CutOffBy.afterFailure (cut : s.CutOffBy c u) : s.CutOffBy c (u.afterFailure c).1 ∧
    ∀ z : State, (u.afterFailure c).2.foldl State.deliverLink z = z := by
  cases flies : (u.cell c).inFlight with
  | none =>
    have stays : u.afterFailure c = (u, []) := by
      unfold State.afterFailure
      rw [flies]
    rw [stays]
    exact ⟨cut, fun z => rfl⟩
  | some e =>
    by_cases left : e.triesUsed < e.triesAllowed
    · rw [State.afterFailure_of_left flies left]
      exact ⟨cut.retry, fun z => rfl⟩
    · rw [State.afterFailure_of_last flies (Nat.not_lt.mp left)]
      exact ⟨cut.removeInFlight, fun z => State.exchangeEnded_poll (cut.polls e (List.mem_of_find?_eq_some flies))⟩

/-! ## The work of the cell taken back (R116) -/

/-- The failed try that cuts a cell off, its work taken back. -/
theorem State.TriedBy.cutOff (tried : s.TriedBy c e w) (standing : (s.cell c).standing ≠ .cutOff)
    (high : 256 ≤ (s.cell c).faultCount + 8) : s.CutOffBy c (w.takeBack c).1 := by
  obtain ⟨cutStanding, count, answers⟩ := Cell.failed_cutOff (poll := e.isPoll) standing high
  have reports := tried.changed .cutOff standing (standingFor_cutOff high) standing.symm
  rw [Nat.min_eq_left high, if_pos rfl] at reports
  obtain ⟨t, isT⟩ : ∃ t, t = w.modCell c fun x => { x with queue := x.queue.filter Exchange.isPoll } := ⟨_, rfl⟩
  have cell : t.cell c = { w.cell c with queue := (w.cell c).queue.filter Exchange.isPoll } := by
    rw [isT, State.cell_modCell, if_pos rfl]
  have polls : s.CutOffBy c t := by
    refine ⟨tried.only.trans (.of_link (by rw [isT]; rfl)), ?_, ?_, ?_, ?_, fun d isIn => ?_⟩
    · rw [isT]
      exact reports
    · rw [cell]
      exact tried.standing.trans cutStanding
    · rw [cell]
      exact tried.faultCount.trans count
    · rw [cell]
      exact tried.answers.trans answers
    · rw [cell] at isIn
      exact Exchange.isPoll_iff.mp (List.mem_filter.mp isIn).2
  have granted (t : State) (cut : s.CutOffBy c t) : s.CutOffBy c t.grantBuffers :=
    cut.of_link (State.grantBuffers_eq t) (State.cell_grantBuffers t c) (State.polls_grantBuffers cut.polls)
  unfold State.takeBack
  dsimp only
  rw [← isT]
  split
  · exact granted _ (polls.of_link rfl rfl polls.polls)
  · exact granted _ polls

/-- The exchanges that a cut-off drops (R116). -/
def Cell.lost (x : Cell) : List Exchange := x.queue.filter fun e => e.payload != .poll

/-- The owners learn of a cut-off (R116). -/
def State.cutOffTold (c : CellNo) (lost : List Exchange) (u : State) : State :=
  (lost.foldl (fun v e => v.exchangeEnded c e (.dropped .cutOff)) u).issuesCutOff c

/-- The answer window of an exchange that a cut-off drops is nothing to its owner. -/
theorem State.TriedBy.takeBack_told (tried : s.TriedBy c e w) (u : State) :
    (w.takeBack c).2.foldl State.deliverLink u = u.cutOffTold c (s.cell c).lost := by
  have queue : (w.cell c).queue = (s.cell c).queue.map fun e : Exchange =>
      if e.step = ExchangeStep.inFlight then e.windowless else e := by
    rw [tried.cell]
    exact congrArg (List.map _) Cell.queue_failed
  have lost : (w.cell c).queue.filter (fun e => !e.isPoll) = (s.cell c).lost.map fun e : Exchange =>
      if e.step = ExchangeStep.inFlight then e.windowless else e := by
    rw [queue, List.filter_map]
    refine congrArg (List.map _) (congrArg (fun p => (s.cell c).queue.filter p) (funext fun d => ?_))
    simp only [Function.comp_apply]
    split <;> rfl
  have events : (w.takeBack c).2 = (((s.cell c).lost.map fun e : Exchange =>
      if e.step = ExchangeStep.inFlight then e.windowless else e).map fun e => .ended c e (.dropped .cutOff)) ++ [.cutOff c] := by
    rw [← lost]
    rfl
  have told (v : State) (d : Exchange) : v.deliverLink (.ended c (if d.step = ExchangeStep.inFlight then d.windowless else d)
      (.dropped .cutOff)) = v.exchangeEnded c d (.dropped .cutOff) := by split <;> rfl
  have dropped : (((s.cell c).lost.map fun e : Exchange => if e.step = ExchangeStep.inFlight then e.windowless else e).map
      fun e => LinkEvent.ended c e (.dropped .cutOff)).foldl State.deliverLink u =
      (s.cell c).lost.foldl (fun v e => v.exchangeEnded c e (.dropped .cutOff)) u := by
    rw [List.foldl_map, List.foldl_map]
    exact congrArg (fun step => (s.cell c).lost.foldl step u) (funext fun v => funext fun d => told v d)
  unfold State.cutOffTold
  rw [events, List.foldl_append, dropped]
  generalize (s.cell c).lost.foldl (fun v e => v.exchangeEnded c e (.dropped .cutOff)) u = z
  rw [List.foldl_cons, List.foldl_nil, State.deliverLink]

/-! ## The command that cuts a cell off -/

theorem State.failedTry_of_cutOff (flies : (s.cell c).inFlight = some e) (standing : (s.cell c).standing ≠ .cutOff)
    (cut : ((s.tried c e).cell c).standing = .cutOff) : s.failedTry c = if e.isPoll then
      ((((s.tried c e).takeBack c).1.afterFailure c).1,
        ((s.tried c e).takeBack c).2 ++ (((s.tried c e).takeBack c).1.afterFailure c).2)
    else (s.tried c e).takeBack c := by
  have counted : (s.modCell c (Cell.modInFlight fun e => { e with window := none })).countFailure c e.isPoll = s.tried c e := rfl
  unfold State.failedTry
  rw [flies]
  dsimp only
  rw [counted, if_pos ⟨standing, cut⟩]

/-- A failed try that cuts a cell off (R97, R116). -/
theorem exec_failsTry_cutsOff (flies : (s.cell c).inFlight = some e) (fails : s.failsTry c e cmd)
    (standing : (s.cell c).standing ≠ .cutOff) (high : 256 ≤ (s.cell c).faultCount + 8) :
    ∃ u, s.CutOffBy c u ∧ exec cmd s = .next (u.cutOffTold c (s.cell c).lost).settle := by
  obtain ⟨s', link, cells, runs⟩ := exec_failsTry flies fails
  have cell : s'.cell c = s.cell c := by
    unfold State.cell
    rw [cells]
  have tried : s.TriedBy c e (s'.tried c e) := State.triedBy_tried link cells
  have cut : ((s'.tried c e).cell c).standing = .cutOff :=
    tried.standing.trans (Cell.failed_cutOff standing high).1
  rw [State.failedTry_of_cutOff (by rw [cell]; exact flies) (by rw [cell]; exact standing) cut] at runs
  have taken := tried.cutOff standing high
  have told := tried.takeBack_told
  generalize (s'.tried c e).takeBack c = p at runs taken told
  obtain ⟨u, events⟩ := p
  by_cases poll : e.isPoll = true
  · obtain ⟨cutOff, unnoticed⟩ := taken.afterFailure
    refine ⟨_, cutOff, ?_⟩
    rw [runs, if_pos poll]
    unfold State.deliverAll
    dsimp only at unnoticed ⊢
    rw [List.foldl_append, unnoticed, told]
  · refine ⟨u, taken, ?_⟩
    rw [runs, if_neg poll]
    unfold State.deliverAll
    rw [told]

end

end Sys2Proof.Machine
end

section
/-! O54: a frame sent and the answer window (R97, R113 to R116, R149, R150, R155, R160). -/

namespace Sys2Proof.Machine

section
variable {s u t v : State} {c : CellNo} {e : Exchange} {cmd : Instr}

/-! ## The cut-off, to its end (R116, R149) -/

theorem State.cutOffTold_eq (lost : List Exchange) (u : State) : u.cutOffTold c lost =
    (List.finRange 32).foldl (fun v i => v.issueCutOff i c)
      (lost.foldl (fun v e => v.exchangeEnded c e (.dropped .cutOff)) u) := by
  unfold State.cutOffTold State.issuesCutOff
  generalize List.finRange 32 = indexes
  rfl

theorem State.cutOffTold_cells (lost : List Exchange) (u : State) : (u.cutOffTold c lost).link.cells = u.link.cells := by
  rw [State.cutOffTold_eq]
  generalize List.finRange 32 = indexes
  exact (State.cutOffSteps_cells (fun u i => State.issueCutOff_cutOffStep (u := u) (c := c) (i := i)) indexes _).trans
    (State.cutOffSteps_cells (fun u e => State.exchangeEnded_cutOffStep (u := u) (c := c) (e := e)) lost u)

/-- An issue in TRANSIT that no exchange of the cell belongs to goes on. -/
theorem State.cutOffTold_transit {i : IssueNo} {x : Issue} (only : s.LinkOnly u) (issue : (s.issueRec i).issue = some x)
    (transit : x.phase = .transit) (lost : List Exchange) (others : ∀ e ∈ lost, e.owner ≠ .issue (s.issueId i)) :
    ((u.cutOffTold c lost).issueRec i).issue = some x := by
  have sameId : u.issueId i = s.issueId i := by
    unfold State.issueId
    rw [only.issueRec]
  have kept := State.exchangesCutOff_kept (c := c) (j := i) lost u (by rw [sameId]; exact others)
  rw [only.issueRec] at kept
  have spared : ¬ x.waitsAt c := fun ⟨_, waits⟩ => by rcases waits with waits | waits <;> cases transit.symm.trans waits
  have still : ((lost.foldl (fun v e => v.exchangeEnded c e (.dropped .cutOff)) u).issueRec i).issue = some x := by
    rw [kept]
    exact issue
  rw [State.cutOffTold_eq, State.issuesCutOff_kept still spared (List.finRange 32)]
  exact still

/-- An issue of the cell that waits for its pickup closes. -/
theorem State.cutOffTold_waiting {i : IssueNo} {x : Issue} (only : s.LinkOnly u) (issue : (s.issueRec i).issue = some x)
    (waits : x.waitsAt c) (lost : List Exchange) : ((u.cutOffTold c lost).issueRec i).issue = none := by
  rw [State.cutOffTold_eq]
  refine State.issuesCutOff_closes (fun y isOpen => ?_) (List.mem_finRange i)
  rcases State.cutOffSteps_issue (fun u e => State.exchangeEnded_cutOffStep (u := u) (c := c) (e := e)) i lost u with kept | none
  · rw [kept, only.issueRec, issue] at isOpen
    obtain rfl := Option.some.inj isOpen
    exact waits
  · cases none.symm.trans isOpen

theorem exec_failsTry_cutOff (flies : (s.cell c).inFlight = some e) (fails : s.failsTry c e cmd)
    (standing : (s.cell c).standing ≠ .cutOff) (high : 256 ≤ (s.cell c).faultCount + 8) : ∃ t, exec cmd s = .next t ∧
      (t.cell c).standing = .cutOff ∧ (t.cell c).faultCount = 256 ∧ (t.cell c).answers = 0 ∧
      (∀ e ∈ (t.cell c).queue, e.payload = .poll) ∧
      (∃ u : State, t = State.settle ((List.finRange 32).foldl (fun v i => v.issueCutOff i c)
          (((s.cell c).queue.filter fun e => e.payload != .poll).foldl
            (fun v e => v.exchangeEnded c e (.dropped .cutOff)) u)) ∧
        u = { s with link := u.link, reports := u.reports, order := { s.order with cauStall := u.order.cauStall } } ∧
        u.reports = (s.handReport
          { Report.blank .cellStanding with
            cell := c.val + 1, code := 1
            detail := .plain (le 1 (s.cell c).standing.code ++ le 1 2 ++ le 2 256 ++ le 1 0) }).reports) ∧
      (∀ i x, (s.issueRec i).issue = some x → x.cell = c → x.phase = .transit →
        (∀ e ∈ (s.cell c).queue, e.owner ≠ .issue (s.issueId i)) → (t.issueRec i).issue = some x) ∧
      ∀ i x, (s.issueRec i).issue = some x → x.cell = c → x.phase = .unlockWait ∨ x.phase = .pickup →
        (t.issueRec i).issue = none := by
  obtain ⟨u, cut, runs⟩ := exec_failsTry_cutsOff flies fails standing high
  have cells := State.cutOffTold_cells (c := c) (s.cell c).lost u
  have told := State.cutOffTold_eq (c := c) (s.cell c).lost u
  have transits (i : IssueNo) (x : Issue) (issue : (s.issueRec i).issue = some x) (transit : x.phase = .transit)
      (others : ∀ e ∈ (s.cell c).lost, e.owner ≠ .issue (s.issueId i)) :=
    State.cutOffTold_transit (c := c) cut.only.linkOnly issue transit (s.cell c).lost others
  have waitings (i : IssueNo) (x : Issue) (issue : (s.issueRec i).issue = some x) (waits : x.waitsAt c) :=
    State.cutOffTold_waiting (c := c) cut.only.linkOnly issue waits (s.cell c).lost
  generalize u.cutOffTold c (s.cell c).lost = z at runs cells told transits waitings
  have cell : z.settle.cell c = u.cell c := congrArg (fun cells : Vector Cell 24 => cells.get c) cells
  refine ⟨_, runs, ?_, ?_, ?_, ?_, ⟨u, congrArg State.settle told, cut.only, cut.reports⟩, fun i x issue _ transit others => ?_,
    fun i x issue same waits => waitings i x issue ⟨same, waits⟩⟩
  · rw [cell]
    exact cut.standing
  · rw [cell]
    exact cut.faultCount
  · rw [cell]
    exact cut.answers
  · rw [cell]
    exact cut.polls
  · exact transits i x issue transit fun e isIn => others e (List.mem_of_mem_filter isIn)

end

end Sys2Proof.Machine
end

section
/-! O54: the last try, and the whole statement (R89, R97, R113 to R116). -/

namespace Sys2Proof.Machine

section
variable {s t u v : State} {c : CellNo} {e : Exchange} {cmd : Instr}

/-! ## An exchange dropped by a cut-off, in the words of the statement -/

theorem State.cutOff_ends_return {n : SlotNo} {r : ReturnCtx} {id tool slot : Nat} {outcome : MoveOutcome}
    (owner : e.owner = .slot n) (payload : e.payload = .withdraw id tool slot) (work : u.work n = .returning r)
    (unfinished : ∀ k, (u.slot n).context = some k → k.output = none) (moved : r.outcome = some outcome) :
    ∃ v, u.exchangeEnded c e (.dropped .cutOff) = v ∧ v.formedStatus n = some (insertionStatus outcome) ∧
      v = { u with order := v.order } := by
  obtain ⟨k, context⟩ := State.context_of_work work (fun idle => nomatch idle)
  refine ⟨_, rfl, ?_, ?_⟩ <;>
    rw [State.unconfirmed_return owner payload work (.inr (.inr rfl)), State.returnStep_unconfirmed_of_some moved]
  · exact State.formedStatus_complete _ _ context (unfinished k context)
  · exact State.completeWith_eq ..

theorem Cell.modInFlight_id (x : Cell) : x.modInFlight (fun e => e) = x := by
  unfold Cell.modInFlight
  simp

/-! ## The last failed try, in the words of the statement -/

/-- The last failed try leaves the crib as it was, and the fault count 8 more. -/
theorem State.EndedBy.counts (ended : s.EndedBy c v) : (v.exchangeEnded c e e.lastOutcome).settle.crib = s.crib ∧
    ((s.cell c).standing ≠ .cutOff →
      ((v.exchangeEnded c e e.lastOutcome).settle.cell c).faultCount = (s.cell c).faultCount + 8) := by
  obtain ⟨crib, counts⟩ := State.exchangeEnded_keeps (s := v) (c := c) (e := e) Exchange.lastOutcome_cases
  exact ⟨crib.trans ended.only.crib, fun standing => (counts c).trans (ended.faultCount standing)⟩

/-- The last failed try ends the exchange (R97). -/
theorem exec_failsTry_last (alone : s.order.formedNow = []) (flies : (s.cell c).inFlight = some e) (fails : s.failsTry c e cmd)
    (low : (s.cell c).standing = .cutOff ∨ (s.cell c).faultCount + 8 < 256) (last : e.triesAllowed ≤ e.triesUsed) :
    ∃ t, exec cmd s = .next t ∧ t.crib = s.crib ∧
      ((s.cell c).standing ≠ .cutOff → (t.cell c).faultCount = (s.cell c).faultCount + 8) ∧
      ∀ (gone : Prop) (calm : State → Prop),
      (gone ↔ (t.cell c).queue.length = ((s.cell c).queue.filter fun e : Exchange => e.step != .inFlight).length) →
      (∀ u, calm u ↔ ((s.cell c).standing = .cutOff ∨
          ((s.cell c).standing = .good ∧ (s.cell c).faultCount + 8 < 96) ∨
          ((s.cell c).standing = .weak ∧ 64 ≤ (s.cell c).faultCount + 8) → u.reports = s.reports)) →
      (∀ id i x, e.owner = .issue id → s.openIndex id = some i → (s.issueRec i).issue = some x → x.cell = c →
        (∀ tool slot length radius remaining unit,
          e.payload = .dataOffer id tool slot length radius remaining unit →
          (e.acknowledged = false → gone ∧ (t.issueRec i).issue = none ∧
            (∀ n, x.origin = .order n → s.working n (.issue id) →
              t.formedStatus n = some (x.failure.getD .noAnswer)) ∧
            ∀ ref result, x.origin = .cell ref → result = x.failure.getD .noAnswer →
              ∃ w : State, w.clock = s.clock ∧ w.tools = t.tools ∧ calm w ∧
              t = (w.handReport (w.issueClosedReport id
                { x with
                  tries := e.triesUsed, deferrals := e.deferrals, withdraw := .notSent, failure := some result
                  closed := some s.clock } ref result)).freeRecord i) ∧
          (e.acknowledged = true → (s.cell c).standing ≠ .cutOff → (s.cell c).queue.length ≤ 16 →
            (t.issueRec i).issue = some
              { x with
                tries := e.triesUsed, deferrals := e.deferrals, offer := .unknown, phase := .withdrawing
                request := none, failure := some (x.failure.getD .noAnswer) })) ∧
        (∀ tool slot result closed, e.payload = .withdraw id tool slot → result = x.failure.getD .cancelled →
          closed = { x with withdraw := .unconfirmed, failure := some result, closed := some s.clock } →
          gone ∧ (t.issueRec i).issue = none ∧
          (∀ n, x.origin = .order n → s.working n (.issue id) → calm t ∧
            (t.slot n).context.bind (·.output) = some
              { status := result, stamp := s.clock, result := t.issueResult id closed, buffer := [] }) ∧
          (∀ ref, x.origin = .cell ref → ∃ w : State, w.clock = s.clock ∧ w.tools = t.tools ∧ calm w ∧
            t = (w.handReport (w.issueClosedReport id closed ref result)).freeRecord i))) ∧
      (∀ n r id tool slot, e.payload = .withdraw id tool slot → e.owner = .slot n → s.working n (.returning r) →
        gone ∧ calm t ∧ t.tools = s.tools ∧
        (r.outcome = none → t.work n = .returning
          { r with tries := e.triesUsed, acknowledged := e.acknowledged, withdraw := .unconfirmed }) ∧
        (∀ outcome, r.outcome = some outcome → t.formedStatus n = some (insertionStatus outcome))) ∧
      (∀ tool, e.payload = .lifeEnd tool → gone ∧ t.tools = s.tools ∧ t.issues = s.issues ∧
        ∃ u : State, calm u ∧ u.clock = s.clock ∧ t = u.handReport
          { Report.blank .lifeEndUndelivered with
            cell := c.val + 1, tool := tool, code := 3, detail := .plain (le 1 e.triesUsed) }) ∧
      (e.payload = .poll ∨ (∃ ref value reason, e.payload = .deny ref value reason) →
        gone ∧ calm t ∧ t.tools = s.tools ∧ t.issues = s.issues ∧ t.order.slots = s.order.slots) := by
  obtain ⟨v, ended, runs⟩ := exec_failsTry_ends flies fails low last
  obtain ⟨crib, counts⟩ := ended.counts (e := e)
  refine ⟨_, runs, crib, counts, fun gone calm isGone isCalm => ?_⟩
  have calms (u : State) (same : u.reports = v.reports) : calm u :=
    (isCalm u).mpr fun steady => same.trans (ended.reports steady)
  refine ⟨fun id i x owner index issue isCell => ⟨fun tool slot length radius remaining unit payload =>
      ⟨fun unseen => ?_, fun seen standing full => ?_⟩, fun tool slot result closed payload isResult isClosed => ?_⟩,
    fun n r id tool slot payload owner works => ?_, fun tool payload => ?_, fun quiet => ?_⟩
  · have closes := ended.offer_closes owner index issue alone payload unseen
    refine ⟨isGone.mpr closes.gone, closes.issue, fun n origin works => closes.status origin works,
      fun ref result origin isResult => ?_⟩
    subst isResult
    obtain ⟨w, clock, tools, reports, told⟩ := closes.toCell ref origin
    rw [(State.of_openIndex index).1] at told
    exact ⟨w, clock, tools, calms w reports, told⟩
  · exact ended.offer_withdraws owner index issue payload seen flies isCell standing full
  · subst isClosed isResult
    obtain ⟨length, issue', toOrder, toCell⟩ := ended.withdraw_closes owner index issue alone payload
    rw [(State.of_openIndex index).1] at toOrder toCell
    refine ⟨isGone.mpr length, issue', fun n origin works => ?_, fun ref origin => ?_⟩
    · obtain ⟨reports, formed⟩ := toOrder n _ origin works
      exact ⟨calms _ reports, formed⟩
    · obtain ⟨w, clock, tools, reports, told⟩ := toCell ref origin
      exact ⟨w, clock, tools, calms w reports, told⟩
  · obtain ⟨link, reports, tools, stays, formed⟩ := ended.return_unconfirmed owner payload works rfl
    refine ⟨isGone.mpr ?_, calms _ reports, tools, stays, formed⟩
    rw [← ended.length]
    exact congrArg (fun l : Link => (l.cells.get c).queue.length) link
  · have told := ended.lifeEnd_reported alone payload
    generalize (v.exchangeEnded c e e.lastOutcome).settle = t at isGone told ⊢
    subst told
    have only (r : Report) : s.LinkOnly (v.handReport r) := ended.only.trans (.handReport r v)
    refine ⟨isGone.mpr ?_, (only _).tools, (only _).issues, v, calms v rfl, ended.only.clock, rfl⟩
    rw [State.cell_handReport]
    exact ended.length
  · have stays := ended.quiet alone quiet
    generalize (v.exchangeEnded c e e.lastOutcome).settle = t at isGone stays ⊢
    subst stays
    exact ⟨isGone.mpr ended.length, calms t rfl, ended.only.tools, ended.only.issues, ended.only.slots⟩

end

/-- Settles O54: the outcomes of a cut-off for each owner and issue; a frame sent; a failed try, which is counted and then is
followed by the next try, by the end of the exchange, or by the cut-off of its cell. -/
theorem frameSentAndAnswerWindow : Obligations.FrameSentAndAnswerWindow := by
  refine ⟨fun u c e => ⟨fun tool payload => ?_, fun quiet => ?_, fun id i x result v owner index issue isV => ⟨?_, ?_⟩,
    fun n r id tool slot owner payload work unfinished => ⟨fun noMove => ?_, fun outcome moved => ?_⟩,
    fun i => ⟨fun none => ?_, fun x issue => ⟨fun other => ?_, fun same waits result v isResult isV => ?_⟩⟩⟩,
    fun s alone => ⟨fun ack none => ?_, fun c none => ?_, fun a ack attempt broadcast => ?_,
      fun a c o ack attempt exchange detached => ?_, fun a c o e attempt exchange attached flies => ⟨fun expects => ?_, fun expects => ?_⟩,
      fun c e cmd flies fails => ⟨fun low => ⟨fun left => ?_, fun last => ?_⟩, fun standing high => ?_⟩⟩⟩
  · exact State.exchangeEnded_lifeEnd payload
  · exact State.exchangeEnded_quiet quiet
  · intro tool slot length radius remaining unit payload isResult
    subst isV isResult
    have fails := State.cutOff_closes_offer (c := c) owner index issue payload
    exact ⟨fails.crib, fails.cells, fails.closed⟩
  · intro tool slot payload isResult
    subst isV isResult
    have fails := State.unconfirmed_closes_withdraw (c := c) owner index issue payload (.inr (.inr rfl))
    exact ⟨fails.crib, fails.cells, fails.closed⟩
  · rw [State.unconfirmed_return owner payload work (.inr (.inr rfl)), State.returnStep_unconfirmed_of_none noMove]
    rfl
  · exact State.cutOff_ends_return owner payload work unfinished moved
  · exact State.issueCutOff_of_none none
  · exact State.issueCutOff_of_other issue other
  · subst isV isResult
    refine ⟨State.issueCutOff_cells issue same waits, State.issueCutOff_closed issue same waits,
      State.issueCutOff_crib issue same waits, fun num r request found => ⟨fun queued => ?_, fun opened => ?_⟩⟩
    · exact (State.issueCutOff_stops issue same waits request found (.inl queued)).queued queued
    · exact (State.issueCutOff_stops issue same waits request found (.inr opened)).opened opened
  · exact exec_frameSent_of_none none
  · exact exec_answerWindow_of_none none
  · exact exec_frameSent_broadcast attempt alone broadcast
  · exact exec_frameSent_detached attempt exchange alone detached
  · exact exec_frameSent_waits attempt exchange attached flies alone expects
  · have answered : s.AnsweredBy c (s.lineFree.afterAnswer c) :=
      State.answeredBy_afterAnswer (g := fun d => d) (.of_link rfl) (fun _ step => step) (Cell.modInFlight_id _).symm
    obtain ⟨errors, attempt'⟩ := State.line_afterAnswer (s := s.lineFree) (c := c) rfl
    refine ⟨_, exec_frameSent_ends attempt exchange attached flies alone expects, answered.only.crib, answered.only.tools,
      answered.only.issues, errors, attempt', answered.length, fun standing => ?_⟩
    rw [answered.faultCount, if_neg standing]
  · exact exec_failsTry_retries alone flies fails low left
  · exact exec_failsTry_last alone flies fails low last
  · exact exec_failsTry_cutOff flies fails standing high

end Sys2Proof.Machine
end
